-- ==== Sys2Proof/Word.lean ====
section
/-! DEFINITION. The machine words of the VZD-7700 and the plain tables its state is made of. -/

namespace Sys2Proof

/-- A byte of a packet, a record or a buffer. -/
abbrev Byte := BitVec 8

/-- A 16-bit field. -/
abbrev Half := BitVec 16

/-- A register or a u32 field; also the bits of an IEEE 754 binary32 value. Every register is 32 bits wide (R6). -/
abbrev Word := BitVec 32

/-- A u64 field; also the bits of an IEEE 754 binary64 value. -/
abbrev Dword := BitVec 64

/-- A string of bytes: a payload, a digest, a key. -/
abbrev Bytes := List Byte

/-- A sparse table by number: what a number that is not listed reads as is said where the table is read. -/
abbrev Table (α : Type) := List (Nat × α)

end Sys2Proof
end

