-- ==== Sys2Proof/Syntax.lean ====
section
/-! DEFINITION. The commands the block takes: one constructor of `Instr` per row of spec/opcode_table.json,
with the operands each brings from outside.
Every command carries `dt`, the time since the command before it, in ticks of 4 ns (log entry 2). -/

namespace Sys2Proof

/-- The transport a VCP packet came over (R29, R39). -/
inductive Transport where
  | pcie
  | udp
  | spi
deriving DecidableEq, Repr

/-- A VCP command packet as its transport delivered it (R29), less the fields that the row itself fixes (the opcode)
and the framing that the transport rows check. -/
structure Cmd where
  /-- the transport that carried it -/
  transport : Transport
  /-- UDP: the DTLS association; PCIe: the ring -/
  assoc : Nat
  /-- PCIe: the tag of the submission entry (R47) -/
  tag : Word
  /-- PCIe: the response buffer bytes of the submission entry (R47) -/
  rspBuf : Nat
  /-- PCIe: the response buffer address of the submission entry (R47) -/
  rspAddr : Dword := 0
  /-- PCIe: the head of the submission queue after this command's entry, as its completion says (R47) -/
  sqHead : Nat := 0
  /-- the flags byte (R31) -/
  flags : Byte
  /-- the sequence field (R29) -/
  seq : Word
  /-- the session identifier field (R29) -/
  sid : Word
  /-- the inline payload -/
  payload : Bytes
  /-- the host memory that a DMA_IN descriptor names, as fetched; none when a fetch gets a PCIe error (R36) -/
  host : Option Bytes
deriving DecidableEq, Repr

/-- The PLLs of R86. -/
inductive Pll where
  | fab
  | app
  | sys
  | loop
  | time
deriving DecidableEq, Repr

/-- The main rails (R463). -/
inductive Rail where
  | vddFab
  | vddCore
  | vddAon
  | vddSrd
  | vddhSrd
  | vddqD5
  | vdram1
  | vdram2
  | vdramq
  | vioAon
  | vioFld
  | vio18
  | avdd
deriving DecidableEq, Repr

/-- What asserts PWRFAIL (R90, R465): VMON at a level in mV for a time in ns, or the monitor of a main rail at a level in
uV for a time in ns. -/
inductive SupplyMonitor where
  | vmon (mv ns : Nat)
  | rail (r : Rail) (uv ns : Nat)
deriving DecidableEq, Repr

/-- What falls during a hold-up (R93). -/
inductive HoldupEvent where
  | trip (n : Nat)
  | fatal (cause : Half) (detail : Word)
  | thermal
  | pll (p : Pll)
deriving DecidableEq, Repr

/-- A VCP command that a power failure cuts off after its checks, and how far its change had come: 0 before its commit
point, 1 after it; for CFG_COMMIT the bytes of the copy written (R377, R387, R413, R421). -/
structure CutCommand where
  opcode : Half
  cmd : Cmd
  reached : Nat
deriving DecidableEq, Repr

/-- What the device gets when it fetches from a submission queue (R47): the entry, the packet it names, and the
host memory a DMA_IN descriptor names. -/
structure SqFetch where
  /-- the 32-byte entry; none when its fetch fails -/
  entry : Option Bytes
  /-- the command packet; none when its fetch fails -/
  packet : Option Bytes
  /-- host memory of a DMA_IN descriptor; none on a PCIe error -/
  host : Option Bytes
  /-- the response or completion write fails (CMD_ERR.RSP_DMA) -/
  rspFault : Bool
deriving DecidableEq, Repr

/-- A DTLS handshake for VCP over UDP (R49). -/
structure Handshake where
  /-- the association it would open -/
  assoc : Nat
  /-- the Ethernet port it arrived on (R24) -/
  port : Nat
  /-- it offers what R49's table supports: DTLS 1.3, the cipher suite, the group, mutual authentication -/
  profile : Bool
  /-- the client certificate's signature verifies -/
  certOk : Bool
  /-- the public key of the client certificate -/
  key : Bytes
deriving DecidableEq, Repr

/-- One DTLS record on UDP port 47,700 (R49). -/
structure DtlsRecord where
  assoc : Nat
  port : Nat
  /-- the AES-256-GCM tag of the record verifies -/
  authentic : Bool
  /-- the one VCP packet it carries -/
  packet : Bytes
  /-- it carries a KeyUpdate in place of a packet -/
  keyUpdate : Bool := false
deriving DecidableEq, Repr

/-- What an ADC_SYSCAL averaging step finds (R118): how many samples, the mean of the factory-corrected value in
units of 2^-31, and whether any carried OVR, OPEN, REF_NR or SETTLE. -/
structure SyscalMean where
  samples : Nat
  mean : Int
  flagged : Bool
deriving DecidableEq, Repr

/-- What a converter's comparators report with a code (R108, R107). -/
structure Comparators where
  /-- beyond the linear range -/
  ovr : Bool
  /-- an excited input lost compliance -/
  openLoop : Bool
deriving DecidableEq, Repr

/-- A UPP ClientHello or its continuation (R170). -/
structure UppHello where
  ipv6 : Bool
  port : Nat
  /-- the address and UDP port it comes from, by number -/
  client : Nat
  /-- it ends the client's handshake: certificate and Finished -/
  finished : Bool
  /-- it carries the cookie of an earlier HelloRetryRequest -/
  cookie : Bool
  /-- the serialNumber attribute names this unit; none without it -/
  unit : Option Nat
  /-- the chain verifies against an UPP issuing key of the role table, by its entry -/
  issuer : Option Nat
deriving DecidableEq, Repr

/-- A datagram on UDP port 47,701 (R170, R171). -/
structure UppRecord where
  ipv6 : Bool
  port : Nat
  /-- the unit of the association's certificate -/
  unit : Nat
  /-- the DTLS record authenticates -/
  authentic : Bool
  /-- the plaintext -/
  bytes : Bytes
deriving DecidableEq, Repr

/-- The error an attempt ends in (LEC of R331). -/
inductive CanError where
  | stuff
  | form
  | ack
  | bit1
  | bit0
  | crc
deriving DecidableEq, Repr

/-- A frame on the field bus (R326). CAN_FRAME_RECEIVED brings with it the counter ticks since its start of frame
(R327). -/
structure CanFrame where
  ide : Bool
  id : Nat
  fd : Bool
  /-- the bits of a CAN FD frame: data phase at its own rate, sender error-passive (R312) -/
  brs : Bool
  esi : Bool
  remote : Bool
  data : Bytes
deriving DecidableEq, Repr

/-- A clock as an Announce describes it (R346): what the best-master algorithm of IEEE 1588-2019 compares, in its
order. -/
structure ClockData where
  priority1 : Nat
  clockClass : Nat
  accuracy : Nat
  variance : Nat
  priority2 : Nat
  identity : Nat
deriving DecidableEq, Repr

/-- An Announce message (R346). -/
structure Announce where
  /-- the grandmaster, the steps removed from it, and the sending port: clock identity and port number -/
  grandmaster : ClockData
  steps : Nat
  sender : Nat
  senderPort : Nat
  utcOffset : Half
  utcValid : Bool
  li61 : Bool
  li59 : Bool
  /-- seconds, on the PTP timescale, of the end of the UTC day that the indicator names -/
  dayEnd : Nat
deriving DecidableEq, Repr

/-- A Sync message (R340, R345): originTimestamp in ns, correctionField in units of 2^-16 ns; a two-step one is completed
by its Follow_Up. -/
structure Sync where
  twoStep : Bool
  origin : Nat
  correction : Int
deriving DecidableEq, Repr

/-- The PTP messages a port's interval timers send (R345). -/
inductive PtpSend where
  | sync
  | announce
  | delayReq
  | pdelayReq
deriving DecidableEq, Repr

/-- The messages beside Sync and Announce that a port receives (R345): timestamps in ns, corrections in units of
2^-16 ns. -/
inductive PtpDelay where
  /-- Follow_Up: preciseOriginTimestamp -/
  | followUp (origin : Nat) (correction : Int)
  /-- Delay_Resp: receiveTimestamp -/
  | delayResp (received : Nat) (correction : Int)
  | delayReq
  | pdelayReq
  /-- Pdelay_Resp: requestReceiptTimestamp; a two-step one is completed by its follow-up -/
  | pdelayResp (twoStep : Bool) (received : Nat) (correction : Int)
  /-- Pdelay_Resp_Follow_Up: responseOriginTimestamp -/
  | pdelayFollowUp (sent : Nat) (correction : Int)
deriving DecidableEq, Repr

/-- A received Ethernet frame (R21 to R24). -/
structure NetFrame where
  port : Nat
  /-- bytes from destination address to FCS -/
  bytes : Nat
  fcsOk : Bool
  /-- IEEE 802.1Q tags that the frame carries -/
  tags : Nat := 0
  pause : Bool
  /-- source node, for duplicate discard -/
  source : Nat
  /-- sequence of the redundancy control trailer; none without one -/
  rct : Option Nat
  /-- the service it belongs to: 0 VCP, 1 UPP, 2 PTP, 3 none -/
  service : Nat
deriving DecidableEq, Repr

/-- What the fabric meets in one iteration (R219, R229, R249): corrected pool errors and busy microseconds by reach,
whether a double-bit pool error came, whether a record overran. -/
structure FabricNotes where
  ecc1 : Table Nat
  busy : Table Nat
  doubleEcc : Bool
  overrun : Bool
deriving DecidableEq, Repr

/-- The header fields of a Braid frame that its receiver acts on (R357). -/
structure BraidHead where
  seq : Word
  ack : Word
  tagged : Half
deriving DecidableEq, Repr

/-- The HELLO frame of the partner (R356); none when the lane does not train. -/
structure Hello where
  pairId : Word
  side : Bool
  /-- firmware-visible latency measured at training, ns -/
  latency : Nat
deriving DecidableEq, Repr

/-- The HEARTBEAT payload (R360) with the two timestamps its receiver forms. -/
structure Beat where
  mode : Nat
  holds : Bool
  leaseValid : Bool
  resetPending : Bool
  plantTrip : Bool
  firmware : Word
  ledger : Word
  topJob : Word
  health : Word
  cfgSeq : Word
  cfgDigest : Bytes
  sig0 : Bytes
  sig1 : Bytes
  /-- partner SERVO time less own, less the lane latency, ns -/
  offsetNs : Int
deriving DecidableEq, Repr

/-- The integrator record of one slot in an INTEGRATORS frame or a handover NOTICE (R359): i, u applied, y_prev,
dd_prev and sp. -/
structure SlotSnap where
  i : Word
  u : Word
  yPrev : Word
  ddPrev : Word
  sp : Word
deriving DecidableEq, Repr

/-- What a NOTICE frame says (R359, R364). -/
inductive NoticeKind where
  /-- handover, with the value applied at every output and the final integrators (R366) -/
  | handover (outputs : Table Word) (slots : Table SlotSnap)
  /-- release by mode entry or fatal error (R59) -/
  | release
  | pwrfail
  | announcedReset
  | braidReinit
deriving DecidableEq, Repr

/-- A trip release that a PAIR STATUS frame carries (R304). -/
structure TripRelease where
  mask : Word
  credential : Word
deriving DecidableEq, Repr

/-- An attempt to read an identity chip (R150): acknowledged, how long the chip stretches the clock, the bytes read. -/
structure I2cTry where
  acked : Bool
  stretchUs : Nat
  data : Bytes
deriving DecidableEq, Repr

/-- A PAIR STATUS frame (R359). -/
structure PairUpdate where
  release : Option TripRelease
  /-- identity states of thermal channels (R155) -/
  identity : Table Nat
  /-- island policy word and hash -/
  policy : Option (Word × Bytes)
  /-- JOB_SET payloads -/
  jobs : List Bytes
  /-- PART_SET value -/
  part : Option Nat
deriving DecidableEq, Repr

/-- A JOB_START frame (R367). -/
structure JobStartInfo where
  plan : Bool
  number : Word
  wide : Bool
  /-- deadline, ns of SERVO time; none without a deadline -/
  deadline : Option Nat
  record : Bytes
  /-- job number of the estimate it starts from -/
  estimate : Word
  /-- result hash of the job whose iterate it starts from; zeros when cold -/
  startHash : Bytes
deriving DecidableEq, Repr

/-- A plan ledger as it is held and mirrored (R269): values by quantity, then by step, with the flags of R271. -/
structure Ledger where
  number : Word
  job : Word
  t0 : Nat
  stepS : Nat
  horizon : Nat
  signature : Bytes
  published : Nat
  values : Table (List (Word × Byte))
deriving DecidableEq, Repr

/-- A published estimate (R267): states by model state index. -/
structure Estimate where
  job : Word
  /-- SERVO time of its gather, ns -/
  time : Nat
  states : Table Dword
  converged : Bool
  mUsed : Nat
  mBound : Nat
  resid : Dword
deriving DecidableEq, Repr

/-- A LEDGER or an ESTIMATE frame (R359). -/
inductive LedgerFrame where
  | ledger (l : Ledger)
  | estimate (e : Estimate)
deriving DecidableEq, Repr

/-- A mirrored point record (R359): 32 bytes, or a host write with its PIN. -/
structure MirrorPoint where
  ident : Nat
  reportSeq : Word
  value : Dword
  quality : Nat
  sample : Nat
  /-- some pin for a host write (R361) -/
  hostPin : Option Bool
deriving DecidableEq, Repr

/-- A recorder record as the partner stamped it (R433). -/
structure PartnerRecord where
  opsec : Word
  cycle : Word
  code : Half
  subject : Half
  legalS : Word
  legalNs : Word
  repeats : Half
  aux : Half
  data : Word
deriving DecidableEq, Repr

/-- What a bulk transfer brought (R363). -/
inductive BulkItem where
  /-- a partition's resident course; an empty image when there is none -/
  | course (partition : Nat) (image : Bytes)
  | points (records : List MirrorPoint) (declarations : List Bytes)
  | ledgers (e : Option Estimate) (l : Option Ledger)
  /-- a kept iterate: job, status, T0, result hash and the vectors v, z_l, z_u, d; no vectors when there is none -/
  | iterate (partition : Nat) (signature : Bytes) (job : Word) (status : Half) (t0 : Nat) (hash : Bytes)
      (vectors : List (List Dword))
deriving DecidableEq, Repr

/-- A write to PCIe configuration space (R481, R455). -/
inductive PcieConfig where
  /-- the host enumerates the endpoint (BARs assigned) -/
  | enumerate (bar0 : Dword) (bar2 : Dword)
  | memorySpace (enable : Bool)
  | msix (enable : Bool) (functionMask : Bool)
  /-- a vector's entry of the BAR2 table: address, data, Mask -/
  | vector (v : Nat) (address : Dword) (data : Word) (mask : Bool)
deriving DecidableEq, Repr

/-- The commands of the block: one constructor per row of spec/opcode_table.json, in the table's order. -/
inductive Instr where
  | mainSuppliesValid (dt : Nat) (failsAt : Option Nat)
  | pwrfail (dt : Nat) (m : SupplyMonitor) (short : Bool) (during : List (HoldupEvent × Bool)) (cut : Option CutCommand)
  | holdupRestart (dt : Nat) (failsAt : Option Nat)
  | clockLoss (dt : Nat)
  | clockReturn (dt : Nat) (failsAt : Option Nat)
  | rstNLow (dt : Nat) (ns : Nat)
  | pciePerstN (dt : Nat)
  | functionLevelReset (dt : Nat)
  | pllUnlock (dt : Nat) (pll : Pll)
  | pllRelock (dt : Nat) (pll : Pll)
  | temperatureSample (dt : Nat) (sensors : List Half)
  | vbatMeasure (dt : Nat) (mv : Nat)
  | fabLingerExpiry (dt : Nat) (fabricB : Bool)
  | fatalError (dt : Nat) (cause : Half) (detail : Word)
  | dumpCaptured (dt : Nat) (heap : Nat) (planner : Nat) (collector : Nat)
  | shortSummary (dt : Nat)
  | meteringDspFailure (dt : Nat)
  | tripActiveEdge (dt : Nat) (n : Nat) (ns : Nat)
  | tamperDetect (dt : Nat) (sources : Byte)
  | vaultRefresh (dt : Nat)
  | rtcRealign (dt : Nat)
  | sysResetWrite (dt : Nat) (v : Word)
  | timCntLRead (dt : Nat) (offset : Nat) (size : Nat)
  | mtrAccLRead (dt : Nat) (offset : Nat) (size : Nat)
  | cmdSqDoorbell (dt : Nat) (ring : Nat) (v : Word)
  | cmdRingWrite (dt : Nat) (ring : Nat) (v : Word)
  | cmdCtrlWrite (dt : Nat) (v : Word)
  | cmdCqHeadWrite (dt : Nat) (ring : Nat) (v : Word)
  | sqEntryFetch (dt : Nat) (ring : Nat) (f : SqFetch)
  | evtVarmWrite (dt : Nat) (x : Nat) (v : Word)
  | evtMaskWrite (dt : Nat) (w : Nat) (v : Word)
  | flagClearWrite (dt : Nat) (offset : Nat) (v : Word) (raised : Word)
  | keyPubselWrite (dt : Nat) (v : Word)
  | registerWrite (dt : Nat) (offset : Nat) (data : Bytes)
  | msixVectorUnmask (dt : Nat) (vector : Option Nat)
  | evtHoldoffExpiry (dt : Nat) (v : Nat)
  | spiQueueCommand (dt : Nat) (packet : Bytes)
  | spiReadStatus (dt : Nat)
  | spiReadResponse (dt : Nat) (n : Nat)
  | vcpDtlsHandshake (dt : Nat) (h : Handshake)
  | vcpDtlsRecord (dt : Nat) (r : DtlsRecord)
  | sessionIdleTimeout (dt : Nat) (sid : Word)
  | dtlsAssociationClose (dt : Nat) (assoc : Nat)
  | sesChallenge (dt : Nat) (c : Cmd)
  | sesOpen (dt : Nat) (c : Cmd)
  | sesClose (dt : Nat) (c : Cmd)
  | sysNop (dt : Nat) (c : Cmd)
  | sysInfo (dt : Nat) (c : Cmd)
  | sysStatus (dt : Nat) (c : Cmd)
  | funcReinit (dt : Nat) (c : Cmd)
  | sysDeviceReset (dt : Nat) (c : Cmd)
  | modeGet (dt : Nat) (c : Cmd)
  | modeRequest (dt : Nat) (c : Cmd)
  | islandPolicySet (dt : Nat) (c : Cmd)
  | islandPolicyGet (dt : Nat) (c : Cmd)
  | contactTimerExpiry (dt : Nat)
  | islandLimitExpiry (dt : Nat)
  | startMove (dt : Nat)
  | outputHoldTimeout (dt : Nat)
  | adcChanSet (dt : Nat) (c : Cmd)
  | adcSeqSet (dt : Nat) (c : Cmd)
  | adcSampleRead (dt : Nat) (c : Cmd)
  | adcCalSet (dt : Nat) (c : Cmd)
  | adcSyscal (dt : Nat) (c : Cmd) (m : SyscalMean)
  | calibrationIdleExpiry (dt : Nat) (channel : Nat)
  | sarConversionDone (dt : Nat) (converter : Nat) (code : Nat) (f : Comparators)
  | meteringSample (dt : Nat) (channel : Nat) (code : Int) (f : Comparators)
  | urgentConversionDone (dt : Nat) (converter : Nat) (code : Nat) (f : Comparators)
  | countingEdge (dt : Nat) (k : Nat) (rising : Bool) (forward : Bool)
  | referenceMeasure (dt : Nat) (refin : Half) (avdd : Half)
  | referenceReady (dt : Nat) (metering : Bool)
  | meteringPeriodClose (dt : Nat)
  | thermalTick (dt : Nat) (n : Nat)
  | accumulatorSecondWrite (dt : Nat)
  | pulseEmit (dt : Nat) (p : Nat)
  | sensorIdentityRead (dt : Nat) (n : Nat) (tries : List I2cTry)
  | mtrRead (dt : Nat) (c : Cmd)
  | mtrSnapRead (dt : Nat) (c : Cmd)
  | mtrChanSet (dt : Nat) (c : Cmd)
  | mtrTcompSet (dt : Nat) (c : Cmd)
  | mtrSensorAccept (dt : Nat) (c : Cmd) (tries : List I2cTry)
  | mtrPulseSet (dt : Nat) (c : Cmd)
  | uppClientHello (dt : Nat) (h : UppHello)
  | uppDatagram (dt : Nat) (r : UppRecord)
  | pointEngineApply (dt : Nat)
  | slotWindowStart (dt : Nat) (unit : Nat)
  | throttleExpiry (dt : Nat) (unit : Nat)
  | unitSilent (dt : Nat) (unit : Nat)
  | ptsDeclare (dt : Nat) (c : Cmd)
  | ptsRead (dt : Nat) (c : Cmd)
  | ptsWrite (dt : Nat) (c : Cmd)
  | ptsSnapshot (dt : Nat) (c : Cmd)
  | ptsUnitSet (dt : Nat) (c : Cmd)
  | ptsUnitStatus (dt : Nat) (c : Cmd)
  | crsBegin (dt : Nat) (c : Cmd)
  | crsData (dt : Nat) (c : Cmd)
  | crsCommit (dt : Nat) (c : Cmd)
  | courseSwap (dt : Nat) (p : Nat)
  | crsDelta (dt : Nat) (c : Cmd)
  | crsInfo (dt : Nat) (c : Cmd)
  | crsDrop (dt : Nat) (c : Cmd)
  | jobSet (dt : Nat) (c : Cmd)
  | jobRun (dt : Nat) (c : Cmd)
  | jobAbort (dt : Nat) (c : Cmd)
  | jobResult (dt : Nat) (c : Cmd)
  | ledgerRead (dt : Nat) (c : Cmd)
  | partSet (dt : Nat) (c : Cmd)
  | periodTrigger (dt : Nat) (p : Nat)
  | eventTrigger (dt : Nat) (bit : Nat)
  | jobStart (dt : Nat) (p : Nat)
  | workAreaAvailable (dt : Nat) (p : Nat)
  | jobIterationEnd (dt : Nat) (p : Nat) (f : FabricNotes)
  | jobDeadline (dt : Nat) (p : Nat)
  | scheduleStall (dt : Nat) (p : Nat)
  | jobEnd (dt : Nat) (p : Nat)
  | pendingJobStart (dt : Nat) (p : Nat)
  | fallbackWriteDone (dt : Nat)
  | transientHoldRaise (dt : Nat)
  | transientHoldEnd (dt : Nat)
  | forecastReplay (dt : Nat)
  | loopEvaluation (dt : Nat) (slot : Nat)
  | integratorSnapshot (dt : Nat)
  | loopSet (dt : Nat) (c : Cmd)
  | loopGainSet (dt : Nat) (c : Cmd)
  | loopRead (dt : Nat) (c : Cmd)
  | loopEnable (dt : Nat) (c : Cmd)
  | traceArm (dt : Nat) (c : Cmd)
  | traceRead (dt : Nat) (c : Cmd)
  | outSet (dt : Nat) (c : Cmd)
  | outBind (dt : Nat) (c : Cmd)
  | slcSafeSet (dt : Nat) (c : Cmd)
  | slcStatus (dt : Nat) (c : Cmd)
  | slcRelease (dt : Nat) (c : Cmd)
  | outRead (dt : Nat) (c : Cmd)
  | statusPortRead (dt : Nat) (address : Nat)
  | loopEngineRestart (dt : Nat)
  | canChanSet (dt : Nat) (c : Cmd)
  | canObjSet (dt : Nat) (c : Cmd)
  | canSend (dt : Nat) (c : Cmd)
  | canCancel (dt : Nat) (c : Cmd)
  | canStatus (dt : Nat) (c : Cmd)
  | canDueInstant (dt : Nat) (channel : Nat) (object : Nat)
  | canArbitrationEnd (dt : Nat) (channel : Nat) (won : Bool)
  | canFrameEnd (dt : Nat) (channel : Nat) (error : Option CanError)
  | canFrameReceived (dt : Nat) (channel : Nat) (age : Nat) (f : CanFrame)
  | canBusOff (dt : Nat) (channel : Nat)
  | canBusOffRecovery (dt : Nat) (channel : Nat)
  | canBusIntegration (dt : Nat) (channel : Nat)
  | timRead (dt : Nat) (c : Cmd)
  | timLegalSet (dt : Nat) (c : Cmd)
  | timPtpSet (dt : Nat) (c : Cmd)
  | timServoSet (dt : Nat) (c : Cmd)
  | ptpSync (dt : Nat) (port : Nat) (m : Sync)
  | legalRateSet (dt : Nat)
  | announceReceiptTimeout (dt : Nat) (port : Nat)
  | holdSExpiry (dt : Nat)
  | ptpAnnounce (dt : Nat) (port : Nat) (a : Announce)
  | leapApply (dt : Nat)
  | sgmiiLinkChange (dt : Nat) (port : Nat) (up : Bool) (speed : Nat)
  | netFrameReceived (dt : Nat) (f : NetFrame)
  | prpSupervision (dt : Nat) (pair : Nat)
  | pairStatus (dt : Nat) (c : Cmd)
  | pairSet (dt : Nat) (c : Cmd)
  | pairHandover (dt : Nat) (c : Cmd)
  | pairCompare (dt : Nat) (c : Cmd)
  | braidLinkTrain (dt : Nat) (hello : Option Hello)
  | braidResendTimeout (dt : Nat)
  | heartbeatSend (dt : Nat)
  | heartbeat (dt : Nat) (h : BraidHead) (b : Beat)
  | heartbeatMiss (dt : Nat)
  | leaseLapse (dt : Nat)
  | notice (dt : Nat) (h : BraidHead) (k : NoticeKind)
  | ownInRequest (dt : Nat)
  | ownInHold (dt : Nat)
  | ownInReleased (dt : Nat)
  | requestUnanswered (dt : Nat)
  | integrators (dt : Nat) (h : BraidHead) (slots : Table SlotSnap)
  | pairStatusFrame (dt : Nat) (h : BraidHead) (u : PairUpdate)
  | jobStartFrame (dt : Nat) (h : BraidHead) (j : JobStartInfo)
  | gatherFrame (dt : Nat) (h : BraidHead) (values : List (Dword × Nat))
  | iterDone (dt : Nat) (h : BraidHead) (iteration : Nat)
  | jobEndFrame (dt : Nat) (h : BraidHead) (iterations : Nat) (hash : Bytes)
  | compare (dt : Nat) (h : BraidHead) (job : Word) (hash : Bytes) (outcome : Nat)
  | ledgerFrame (dt : Nat) (h : BraidHead) (l : LedgerFrame)
  | deltaFrame (dt : Nat) (h : BraidHead) (payload : Bytes)
  | declareFrame (dt : Nat) (h : BraidHead) (payload : Bytes)
  | pointDelta (dt : Nat) (h : BraidHead) (records : List MirrorPoint)
  | recordFrame (dt : Nat) (h : BraidHead) (records : List PartnerRecord)
  | bulkTransferDone (dt : Nat) (item : BulkItem)
  | partnerReady (dt : Nat)
  | keyStatus (dt : Nat) (c : Cmd)
  | keyDerive (dt : Nat) (c : Cmd)
  | keyUpdate (dt : Nat) (c : Cmd)
  | keyDestroy (dt : Nat) (c : Cmd) (stuck : Bool)
  | keyRoleSet (dt : Nat) (c : Cmd)
  | lcAdvance (dt : Nat) (c : Cmd)
  | keyOperationDone (dt : Nat) (slot : Nat)
  | pairKeySwitch (dt : Nat)
  | previousPairKeyExpiry (dt : Nat)
  | updBegin (dt : Nat) (c : Cmd)
  | updData (dt : Nat) (c : Cmd)
  | updVerify (dt : Nat) (c : Cmd)
  | updArm (dt : Nat) (c : Cmd)
  | updConfirm (dt : Nat) (c : Cmd)
  | updAbort (dt : Nat) (c : Cmd)
  | updStatus (dt : Nat) (c : Cmd)
  | updLock (dt : Nat) (c : Cmd)
  | updateHolderLapse (dt : Nat)
  | activationTime (dt : Nat)
  | confirmWindowExpiry (dt : Nat)
  | cfgRead (dt : Nat) (c : Cmd)
  | cfgStage (dt : Nat) (c : Cmd)
  | cfgCommit (dt : Nat) (c : Cmd) (readBack : Bool)
  | recorderReport (dt : Nat) (code : Half) (subject : Half) (aux : Half) (data : Word)
  | recordWriteDone (dt : Nat)
  | recRead (dt : Nat) (c : Cmd)
  | recClear (dt : Nat) (c : Cmd)
  | recInfo (dt : Nat) (c : Cmd)
  | dmpInfo (dt : Nat) (c : Cmd)
  | dmpRead (dt : Nat) (c : Cmd)
  | dmpRelease (dt : Nat) (c : Cmd)
  | tripInputInactive (dt : Nat) (n : Nat)
  | vbatApplied (dt : Nat)
  | pcieConfigWrite (dt : Nat) (w : PcieConfig)
  | ethernetLinkChange (dt : Nat) (port : Nat) (up : Bool)
  | canReceiveError (dt : Nat) (channel : Nat) (error : CanError) (amount : Nat)
  | ptpMessageInterval (dt : Nat) (port : Nat) (m : PtpSend)
  | ptpDelayMessage (dt : Nat) (port : Nat) (m : PtpDelay)
  | braidLaneDown (dt : Nat)
  | braidFrameDiscard (dt : Nat) (seq : Word)
  | braidAckFrame (dt : Nat) (h : BraidHead)
  | loopAliveToggle (dt : Nat)
  | actWaitExpiry (dt : Nat)
deriving DecidableEq, Repr

end Sys2Proof
end

