-- ==== Sys2Proof/Machine/Tables.lean ====
section
/-! DEFINITION. Reading and writing the sparse tables and the byte strings that the state and the packets are made of. -/

namespace Sys2Proof

/-- The entry of a table at a number, if it is listed. -/
def tfind {α : Type} : Table α → Nat → Option α
  | [], _ => none
  | (k, v) :: t, n => if k = n then some v else tfind t n

/-- The entry of a table at a number, with what an unlisted number reads as. -/
def tget {α : Type} (t : Table α) (n : Nat) (d : α) : α := (tfind t n).getD d

/-- A table with one entry written; the keys stay in rising order. -/
def tset {α : Type} : Table α → Nat → α → Table α
  | [], n, v => [(n, v)]
  | (k, x) :: t, n, v =>
    if n < k then (n, v) :: (k, x) :: t
    else if n = k then (n, v) :: t
    else (k, x) :: tset t n v

/-- A table with one entry taken out. -/
def tdel {α : Type} (t : Table α) (n : Nat) : Table α := t.filter (fun e => decide (e.1 ≠ n))

/-- A table with one entry changed, an unlisted one from its default. -/
def tmod {α : Type} (t : Table α) (n : Nat) (d : α) (f : α → α) : Table α := tset t n (f (tget t n d))

/-- The byte of a string at an offset; 0 past its end. -/
def u8 (b : Bytes) (o : Nat) : Nat := (b.getD o 0).toNat

/-- A little-endian u16 at an offset (R29). -/
def u16 (b : Bytes) (o : Nat) : Nat := u8 b o + 256 * u8 b (o + 1)

/-- A little-endian u32 at an offset. -/
def u32 (b : Bytes) (o : Nat) : Nat := u16 b o + 65536 * u16 b (o + 2)

/-- A little-endian u64 at an offset. -/
def u64 (b : Bytes) (o : Nat) : Nat := u32 b o + 4294967296 * u32 b (o + 4)

/-- A field of `n` bytes at an offset. -/
def slice (b : Bytes) (o n : Nat) : Bytes := (b.drop o).take n

/-- A number as `n` little-endian bytes. -/
def le : Nat → Nat → Bytes
  | 0, _ => []
  | n + 1, v => BitVec.ofNat 8 v :: le n (v / 256)

/-- A number as `n` big-endian bytes. -/
def be (n v : Nat) : Bytes := (le n v).reverse

/-- The bytes of an ASCII string. -/
def ascii (s : String) : Bytes := s.toList.map (fun c => BitVec.ofNat 8 c.toNat)

/-- `n` zero bytes. -/
def zeros (n : Nat) : Bytes := List.replicate n 0

/-- A u16, u32 or u64 field of a payload. -/
def le16 (v : Nat) : Bytes := le 2 v
def le32 (v : Nat) : Bytes := le 4 v
def le64 (v : Nat) : Bytes := le 8 v

/-- A signed number in two's complement of `w` bits. -/
def twos (w : Nat) (v : Int) : Nat := (v % (2 ^ w : Nat)).toNat

/-- The signed reading of `w` bits. -/
def signed (w n : Nat) : Int := if 2 ^ (w - 1) ≤ n then (n : Int) - (2 ^ w : Nat) else (n : Int)

/-- Every byte of a string is zero. -/
def allZero (b : Bytes) : Bool := b.all (fun x => decide (x = 0))

/-- The elements of a list with their places. -/
def numbered {α : Type} (l : List α) : Table α := (List.range l.length).zip l

/-- One step of the reflected CRC-32C (R32). -/
def crcBit (c : Word) : Word := if c &&& 1 = 1 then (c >>> 1) ^^^ 0x82F63B78 else c >>> 1

/-- The CRC-32C register after one more byte. -/
def crcByte (c : Word) (b : Byte) : Word :=
  crcBit (crcBit (crcBit (crcBit (crcBit (crcBit (crcBit (crcBit (c ^^^ b.setWidth 32))))))))

/-- CRC-32C over a string (R32): initial value and final XOR 0xFFFF_FFFF. -/
def crc32c (b : Bytes) : Word := b.foldl crcByte 0xFFFFFFFF ^^^ 0xFFFFFFFF

end Sys2Proof
end

