-- ==== Sys2Proof/Machine/Crypto.lean ====
section
/-! DEFINITION. SHA-384 (FIPS 180-4), HMAC and HKDF over it, over byte strings. -/

namespace Sys2Proof

/-- Round constants 0 to 9. -/
def shaK0 : List Dword :=
  [0x428a2f98d728ae22, 0x7137449123ef65cd, 0xb5c0fbcfec4d3b2f, 0xe9b5dba58189dbbc, 0x3956c25bf348b538,
   0x59f111f1b605d019, 0x923f82a4af194f9b, 0xab1c5ed5da6d8118, 0xd807aa98a3030242, 0x12835b0145706fbe]

/-- Round constants 10 to 19. -/
def shaK1 : List Dword :=
  [0x243185be4ee4b28c, 0x550c7dc3d5ffb4e2, 0x72be5d74f27b896f, 0x80deb1fe3b1696b1, 0x9bdc06a725c71235,
   0xc19bf174cf692694, 0xe49b69c19ef14ad2, 0xefbe4786384f25e3, 0x0fc19dc68b8cd5b5, 0x240ca1cc77ac9c65]

/-- Round constants 20 to 29. -/
def shaK2 : List Dword :=
  [0x2de92c6f592b0275, 0x4a7484aa6ea6e483, 0x5cb0a9dcbd41fbd4, 0x76f988da831153b5, 0x983e5152ee66dfab,
   0xa831c66d2db43210, 0xb00327c898fb213f, 0xbf597fc7beef0ee4, 0xc6e00bf33da88fc2, 0xd5a79147930aa725]

/-- Round constants 30 to 39. -/
def shaK3 : List Dword :=
  [0x06ca6351e003826f, 0x142929670a0e6e70, 0x27b70a8546d22ffc, 0x2e1b21385c26c926, 0x4d2c6dfc5ac42aed,
   0x53380d139d95b3df, 0x650a73548baf63de, 0x766a0abb3c77b2a8, 0x81c2c92e47edaee6, 0x92722c851482353b]

/-- Round constants 40 to 49. -/
def shaK4 : List Dword :=
  [0xa2bfe8a14cf10364, 0xa81a664bbc423001, 0xc24b8b70d0f89791, 0xc76c51a30654be30, 0xd192e819d6ef5218,
   0xd69906245565a910, 0xf40e35855771202a, 0x106aa07032bbd1b8, 0x19a4c116b8d2d0c8, 0x1e376c085141ab53]

/-- Round constants 50 to 59. -/
def shaK5 : List Dword :=
  [0x2748774cdf8eeb99, 0x34b0bcb5e19b48a8, 0x391c0cb3c5c95a63, 0x4ed8aa4ae3418acb, 0x5b9cca4f7763e373,
   0x682e6ff3d6b2b8a3, 0x748f82ee5defb2fc, 0x78a5636f43172f60, 0x84c87814a1f0ab72, 0x8cc702081a6439ec]

/-- Round constants 60 to 69. -/
def shaK6 : List Dword :=
  [0x90befffa23631e28, 0xa4506cebde82bde9, 0xbef9a3f7b2c67915, 0xc67178f2e372532b, 0xca273eceea26619c,
   0xd186b8c721c0c207, 0xeada7dd6cde0eb1e, 0xf57d4f7fee6ed178, 0x06f067aa72176fba, 0x0a637dc5a2c898a6]

/-- Round constants 70 to 79. -/
def shaK7 : List Dword :=
  [0x113f9804bef90dae, 0x1b710b35131c471b, 0x28db77f523047d84, 0x32caab7b40c72493, 0x3c9ebe0a15c9bebc,
   0x431d67c49c100d4c, 0x4cc5d4becb3e42b6, 0x597f299cfc657e2a, 0x5fcb6fab3ad6faec, 0x6c44198c4a475817]

/-- The 80 round constants. -/
def shaK : List Dword := shaK0 ++ shaK1 ++ shaK2 ++ shaK3 ++ shaK4 ++ shaK5 ++ shaK6 ++ shaK7

/-- The eight working words of the hash. -/
structure Sha where
  a : Dword
  b : Dword
  c : Dword
  d : Dword
  e : Dword
  f : Dword
  g : Dword
  h : Dword
deriving DecidableEq, Repr

/-- The initial value of SHA-384. -/
def shaStart : Sha :=
  { a := 0xcbbb9d5dc1059ed8, b := 0x629a292a367cd507, c := 0x9159015a3070dd17, d := 0x152fecd8f70e5939,
    e := 0x67332667ffc00b31, f := 0x8eb44a8768581511, g := 0xdb0c2e0d64f98fa7, h := 0x47b5481dbefa4fa4 }

/-- One round, with its constant and its schedule word. -/
def shaRound (s : Sha) (k w : Dword) : Sha :=
  let t1 := s.h + (s.e.rotateRight 14 ^^^ s.e.rotateRight 18 ^^^ s.e.rotateRight 41)
    + ((s.e &&& s.f) ^^^ (~~~s.e &&& s.g)) + k + w
  let t2 := (s.a.rotateRight 28 ^^^ s.a.rotateRight 34 ^^^ s.a.rotateRight 39)
    + ((s.a &&& s.b) ^^^ (s.a &&& s.c) ^^^ (s.b &&& s.c))
  { a := t1 + t2, b := s.a, c := s.b, d := s.c, e := s.d + t1, f := s.e, g := s.f, h := s.g }

/-- The schedule word that follows the last sixteen, oldest first. -/
def shaNext (w : List Dword) : Dword :=
  let x := w.getD 1 0
  let y := w.getD 14 0
  (y.rotateRight 19 ^^^ y.rotateRight 61 ^^^ (y >>> 6)) + w.getD 9 0
    + (x.rotateRight 1 ^^^ x.rotateRight 8 ^^^ (x >>> 7)) + w.getD 0 0

/-- The rounds of one block: the last sixteen schedule words go with the round constants still to come. -/
def shaRounds : List Dword → List Dword → Sha → Sha
  | [], _, s => s
  | k :: ks, w, s => shaRounds ks (w.drop 1 ++ [shaNext w]) (shaRound s k (w.headD 0))

/-- A big-endian word of a block. -/
def beWord (b : Bytes) (i : Nat) : Dword :=
  BitVec.ofNat 64 ((slice b (8 * i) 8).foldl (fun n x => 256 * n + x.toNat) 0)

/-- The hash after one block of 128 bytes. -/
def shaBlock (s : Sha) (b : Bytes) : Sha :=
  let t := shaRounds shaK ((List.range 16).map (beWord b)) s
  { a := s.a + t.a, b := s.b + t.b, c := s.c + t.c, d := s.d + t.d,
    e := s.e + t.e, f := s.f + t.f, g := s.g + t.g, h := s.h + t.h }

/-- The hash over `n` blocks. -/
def shaBlocks : Nat → Bytes → Sha → Sha
  | 0, _, s => s
  | n + 1, b, s => shaBlocks n (b.drop 128) (shaBlock s (b.take 128))

/-- A message padded to whole blocks. -/
def shaPad (m : Bytes) : Bytes :=
  m ++ [0x80] ++ zeros ((239 - m.length % 128) % 128) ++ be 16 (8 * m.length)

/-- SHA-384: 48 bytes. -/
def sha384 (m : Bytes) : Bytes :=
  let p := shaPad m
  let s := shaBlocks (p.length / 128) p shaStart
  be 8 s.a.toNat ++ be 8 s.b.toNat ++ be 8 s.c.toNat ++ be 8 s.d.toNat ++ be 8 s.e.toNat ++ be 8 s.f.toNat

/-- HMAC-SHA-384. -/
def hmac384 (key m : Bytes) : Bytes :=
  let k0 := if 128 < key.length then sha384 key else key
  let k := k0 ++ zeros (128 - k0.length)
  sha384 (k.map (fun b => b ^^^ 0x5C) ++ sha384 (k.map (fun b => b ^^^ 0x36) ++ m))

/-- HKDF-SHA-384 to 48 bytes: extract with the salt, then expand one block. -/
def hkdf384 (salt secret info : Bytes) : Bytes := hmac384 (hmac384 salt secret) (info ++ [1])

end Sys2Proof
end

