-- ==== Sys2Proof/Config.lean ====
section
/-! DEFINITION. What the spec leaves open: opaque free values (no body, so nothing can be proved of a value of them),
and the values of the part's OTP. -/

namespace Sys2Proof.Config

/-- A fresh free byte, by the number of the free value and the place in it. -/
opaque freeByte : Nat → Nat → Byte

/-- A fresh free word. -/
opaque freeWord : Nat → Word

/-- A fresh free binary64 value. -/
opaque freeDword : Nat → Dword

/-- `n` fresh free bytes (a nonce, a digest of contents that are themselves open). -/
def freeBytes (k n : Nat) : Bytes := (List.range n).map (freeByte k)

/-- ECDSA P-384 and ML-DSA-87 verification: algorithm, public key, message, signature. -/
opaque verifies : Nat → Bytes → Bytes → Bytes → Bool

/-- A signature: algorithm, signing key, message, and the number of the free value (signing may be randomised). -/
opaque sign : Nat → Bytes → Bytes → Nat → Bytes

/-- AES-256-GCM: key, nonce, associated data, ciphertext with tag; none when the tag does not verify. -/
opaque gcmOpen : Bytes → Bytes → Bytes → Bytes → Option Bytes

/-- ECDH on secp384r1: private key, public point. -/
opaque ecdh : Bytes → Bytes → Bytes

/-- Factory gain (Q2.30) and offset (Q1.31) of an analogue channel in a gain or mode, trimmed per part (R116). -/
opaque factoryGain : Nat → Nat → Int
opaque factoryOffset : Nat → Nat → Int

/-- OTP: the part's serial number, roots and public keys (R372 to R374). -/
opaque serial : Bytes
opaque factoryRoot : Bytes
opaque diagRoot : Bytes
opaque ewkHash : Bytes

/-- The claim key that Ewerok enters in entry 63 of the role table of a part it ships (R374). -/
opaque claimKey : Bytes

/-- Ewerok's factory service key, which the boot ROM places in entry 62 (R391). -/
opaque serviceKey : Bytes

/-- MAC and IP address of an Ethernet port; a PRP pair has those of its first port (R22). -/
opaque portMac : Nat → BitVec 48
opaque portIp : Nat → Bytes

/-- Whether bytes are a valid public key of an algorithm (1 ECDSA P-384, 2 ML-DSA-87). -/
opaque validKey : Nat → Bytes → Bool

/-- The public key that goes with a slot's secret, by form (0 P-384 uncompressed, 1 ML-DSA-87) (R384). -/
opaque publicKey : Nat → Bytes → Bytes

/-- R0 of a sensor pair whose identity has never been read, in ohm (R137 takes it from the identity). -/
opaque unknownR0 : Rat

/-- The taps of the 255-tap filter that shifts the voltage by -90 degrees: R133 bounds its phase and its gain and gives no
tap. -/
opaque shiftTap : Nat → Rat

/-- How the entries of a supernode's panel are numbered, by WIDTH, ROWS_S and how many are still to be numbered: the order
within a panel is not given (R201, R203). -/
opaque panelPick : Nat → Nat → Nat → Nat

/-- How many records and partials of a job the fabric ends between two counter values, by the job's number: the pace of
the fabric is not given (R218, R227). -/
opaque fabricSteps : Nat → Nat → Nat → Nat

/-- Which of the reaches whose record can end is the next to end it, by the job's number and its steps so far: the
order in which reaches finish is not given, and no result depends on it (R238, R240). -/
opaque fabricTurn : Nat → Nat → Nat

end Sys2Proof.Config
end

