-- ==== Sys2Proof/Machine/Fp.lean ====
section
/-! DEFINITION. IEEE 754 binary32 and binary64: the exact value of a bit string, and the rounding of an exact value to
nearest, ties to even. -/

namespace Sys2Proof

/-- 2 to a power that may be negative. -/
def pow2 (e : Int) : Rat := if 0 ≤ e then ((2 ^ e.toNat : Nat) : Rat) else 1 / ((2 ^ (-e).toNat : Nat) : Rat)

/-- An exact value rounded to the nearest integer, ties to even. -/
def roundEven (q : Rat) : Int :=
  let f := q.floor
  let r := q - f
  if r < 1 / 2 then f else if 1 / 2 < r then f + 1 else if f % 2 = 0 then f else f + 1

/-- An exact value rounded to the nearest integer, halves upward: the model's choice where a rule says only 'rounded to
nearest', as R116 does (DESIGN CHOICE, log entry 122). -/
def roundNear (q : Rat) : Int := (q + 1 / 2).floor

/-- The floor of the binary logarithm of a positive value. -/
def ilog2 (q : Rat) : Int :=
  let e : Int := (Nat.log2 q.num.natAbs : Int) - (Nat.log2 q.den : Int)
  if pow2 e ≤ q then (if pow2 (e + 1) ≤ q then e + 1 else e) else e - 1

/-- The bits of a binary format of precision `p` and exponent bias `bias`, of width `w`, nearest to an exact value. -/
def encodeFp (w p bias : Nat) (q : Rat) : Nat :=
  if q = 0 then 0
  else
    let a := if q < 0 then -q else q
    let s := if q < 0 then 2 ^ (w - 1) else 0
    let lo : Int := 1 - (bias : Int)
    let e := max (ilog2 a) lo
    let m := (roundEven (a / pow2 (e - (p - 1 : Nat)))).toNat
    let body := if m < 2 ^ (p - 1) then m else ((e + bias).toNat - 1) * 2 ^ (p - 1) + m
    let inf := (2 * bias + 1) * 2 ^ (p - 1)
    s + min body inf

/-- The exact value of the bits of a binary format; none for an infinity or a NaN. -/
def decodeFp (w p bias : Nat) (n : Nat) : Option Rat :=
  let frac := n % 2 ^ (p - 1)
  let ex := n / 2 ^ (p - 1) % 2 ^ (w - p)
  let neg := n / 2 ^ (w - 1) % 2 = 1
  if ex = 2 * bias + 1 then none
  else
    let a : Rat := if ex = 0 then frac * pow2 (1 - (bias : Int) - (p - 1 : Nat))
      else (2 ^ (p - 1) + frac : Nat) * pow2 ((ex : Int) - bias - (p - 1 : Nat))
    some (if neg then -a else a)

/-- The exact value of a binary32; none for an infinity or a NaN. -/
def val32 (x : Word) : Option Rat := decodeFp 32 24 127 x.toNat

/-- The exact value of a binary64; none for an infinity or a NaN. -/
def val64 (x : Dword) : Option Rat := decodeFp 64 53 1023 x.toNat

/-- The value of a binary32 that is known to be finite; 0 for an infinity or a NaN. -/
def num32 (x : Word) : Rat := (val32 x).getD 0

/-- The value of a binary64 that is known to be finite; 0 for an infinity or a NaN. -/
def num64 (x : Dword) : Rat := (val64 x).getD 0

/-- An exact value as a binary32. -/
def fp32 (q : Rat) : Word := BitVec.ofNat 32 (encodeFp 32 24 127 q)

/-- An exact value as a binary64. -/
def fp64 (q : Rat) : Dword := BitVec.ofNat 64 (encodeFp 64 53 1023 q)

/-- An exact value rounded to binary64, as an exact value. -/
def r64 (q : Rat) : Rat := num64 (fp64 q)

/-- An exact value rounded to binary32, as an exact value. -/
def r32 (q : Rat) : Rat := num32 (fp32 q)

/-- A binary32 value is finite and lies in a closed range. -/
def in32 (x : Word) (lo hi : Rat) : Bool := match val32 x with
  | none => false
  | some q => decide (lo ≤ q ∧ q ≤ hi)

/-- A binary64 value is finite. -/
def finite64 (x : Dword) : Bool := (val64 x).isSome

/-- A binary32 value widened to binary64, infinities and NaNs kept as such. -/
def widen (x : Word) : Dword := match val32 x with
  | some q => if q = 0 then x.setWidth 64 <<< 32 else fp64 q
  | none =>
    let n := x.toNat
    BitVec.ofNat 64 (n / 2 ^ 31 * 2 ^ 63 + 2047 * 2 ^ 52 + n % 2 ^ 23 * 2 ^ 29)

/-- The square root of a value at or above 0, correctly rounded to binary64: 64 bits after the binary point, and half a
unit of the last of them where the root goes on. -/
def sqrt64 (q : Rat) : Rat :=
  if q ≤ 0 then 0
  else
    let k : Int := 2 * (ilog2 q / 2)
    let scaled := q / pow2 k * ((2 ^ 128 : Nat) : Rat)
    let r := Nat.sqrt scaled.floor.toNat
    let root : Rat := if (r * r : Rat) = scaled then r else r + 1 / 2
    r64 (root / ((2 ^ 64 : Nat) : Rat) * pow2 (k / 2))

/-! ### Arithmetic with infinities, NaN and signed zeros (IEEE 754) -/

/-- What the bits of a binary format stand for: an exact value with its sign, an infinity, or a NaN. -/
inductive Ext where
  | fin (neg : Bool) (q : Rat)
  | inf (neg : Bool)
  | nan
deriving DecidableEq

/-- An exact result; a zero has the sign given. -/
def extFin (neg : Bool) (q : Rat) : Ext := .fin (if q = 0 then neg else decide (q < 0)) q

/-- The reading of the bits of a format of precision `p`, exponent bias `bias`, width `w`. -/
def extDecode (w p bias n : Nat) : Ext :=
  let neg := decide (2 ^ (w - 1) ≤ n)
  match decodeFp w p bias n with
  | some q => .fin neg q
  | none => if n % 2 ^ (p - 1) = 0 then .inf neg else .nan

/-- The bits of a result, rounded once; a NaN is the quiet one (log entry 22). -/
def extEncode (w p bias : Nat) : Ext → Nat
  | .fin neg q => if q = 0 then (if neg then 2 ^ (w - 1) else 0) else encodeFp w p bias q
  | .inf neg => (if neg then 2 ^ (w - 1) else 0) + (2 * bias + 1) * 2 ^ (p - 1)
  | .nan => (2 * bias + 1) * 2 ^ (p - 1) + 2 ^ (p - 2)

def extNegate : Ext → Ext
  | .fin n q => .fin (!n) (-q)
  | .inf n => .inf (!n)
  | .nan => .nan

def extAdd : Ext → Ext → Ext
  | .fin n x, .fin m y => extFin (n && m) (x + y)
  | .inf n, .fin _ _ => .inf n
  | .fin _ _, .inf n => .inf n
  | .inf n, .inf m => if n = m then .inf n else .nan
  | _, _ => .nan

def extMul : Ext → Ext → Ext
  | .fin n x, .fin m y => extFin (n != m) (x * y)
  | .inf n, .inf m => .inf (n != m)
  | .inf n, .fin m y => if y = 0 then .nan else .inf (n != m)
  | .fin n x, .inf m => if x = 0 then .nan else .inf (n != m)
  | _, _ => .nan

def extDiv : Ext → Ext → Ext
  | .fin n x, .fin m y =>
    if y = 0 then (if x = 0 then .nan else .inf (n != m)) else extFin (n != m) (x / y)
  | .inf n, .fin m _ => .inf (n != m)
  | .fin n _, .inf m => .fin (n != m) 0
  | _, _ => .nan

/-- a < b; false with a NaN. -/
def extLess : Ext → Ext → Bool
  | .fin _ x, .fin _ y => decide (x < y)
  | .inf n, .inf m => n && !m
  | .inf n, .fin _ _ => n
  | .fin _ _, .inf m => !m
  | _, _ => false

/-- A binary32 and a binary64 read, and a result rounded to each. -/
def extOf (x : Word) : Ext := extDecode 32 24 127 x.toNat
def ofExt (x : Ext) : Word := BitVec.ofNat 32 (extEncode 32 24 127 x)
def ext64 (x : Dword) : Ext := extDecode 64 53 1023 x.toNat
def of64 (x : Ext) : Dword := BitVec.ofNat 64 (extEncode 64 53 1023 x)

/-- Binary64 arithmetic, each result rounded once (R231). -/
def fadd (a b : Dword) : Dword := of64 (extAdd (ext64 a) (ext64 b))
def fneg (a : Dword) : Dword := a ^^^ 0x8000000000000000
def fsub (a b : Dword) : Dword := fadd a (fneg b)
def fmul (a b : Dword) : Dword := of64 (extMul (ext64 a) (ext64 b))
def fdiv (a b : Dword) : Dword := of64 (extDiv (ext64 a) (ext64 b))
/-- a x b + c, rounded once (R231). -/
def ffma (a b c : Dword) : Dword := of64 (extAdd (extMul (ext64 a) (ext64 b)) (ext64 c))
def fabs (a : Dword) : Dword := a &&& 0x7FFFFFFFFFFFFFFF
def f0 : Dword := 0
def f1 : Dword := 0x3FF0000000000000
def nan64 : Dword := 0x7FF8000000000000
/-- a < b and a <= b; false with a NaN. -/
def flt (a b : Dword) : Bool := extLess (ext64 a) (ext64 b)
def isNan64 (a : Dword) : Bool := decide (ext64 a = .nan)
def fle (a b : Dword) : Bool := !isNan64 a && !isNan64 b && !flt b a

/-- A value limited to a closed range. -/
def clampR (lo hi q : Rat) : Rat := if q < lo then lo else if hi < q then hi else q

/-- An integer limited to a closed range. -/
def clampI (lo hi q : Int) : Int := if q < lo then lo else if hi < q then hi else q

/-- The integer part, towards 0. -/
def truncR (q : Rat) : Int := if q < 0 then -(-q).floor else q.floor

/-- The absolute value. -/
def absR (q : Rat) : Rat := if q < 0 then -q else q

end Sys2Proof
end

