-- ==== Sys2Proof/Machine/Memory.lean ====
section
/-! DEFINITION. Byte-addressed memories (course loads, configuration copies, image slots): lists of cells in one
canonical form, addresses strictly rising and no cell equal to 0, which is what an unlisted address reads as. -/

namespace Sys2Proof

/-- A memory of bytes. -/
abbrev Memory := List Host.Cell

/-- One byte; an unlisted address reads 0. -/
def memRead : Memory → Nat → Byte
  | [], _ => 0
  | (k, v) :: m, a => if k = a then v else memRead m a

/-- One byte written, in canonical form. -/
def memWrite : Memory → Nat → Byte → Memory
  | [], a, v => if v = 0 then [] else [(a, v)]
  | (k, x) :: m, a, v =>
    if a < k then (if v = 0 then (k, x) :: m else (a, v) :: (k, x) :: m)
    else if a = k then (if v = 0 then m else (a, v) :: m)
    else (k, x) :: memWrite m a v

/-- Bytes from an address on. -/
def memLoad (m : Memory) (a n : Nat) : Bytes := (List.range n).map (fun i => memRead m (a + i))

/-- Bytes written from an address on. -/
def memStore (m : Memory) (a : Nat) : Bytes → Memory
  | [] => m
  | b :: bs => memStore (memWrite m a b) (a + 1) bs

/-- The canonical form: every cell above the bound, addresses strictly rising, no zero byte. -/
def memWfFrom : Nat → Memory → Bool
  | _, [] => true
  | lo, (k, v) :: m => decide (lo ≤ k) && decide (v ≠ 0) && memWfFrom (k + 1) m

/-- The canonical form of a memory. -/
def Memory.wf (m : Memory) : Bool := memWfFrom 0 m

end Sys2Proof
end

