-- ==== Sys2Proof/Machine/BlocksSys.lean ====
section
/-! DEFINITION. The state of the always-on side: modes, power, events, sessions and transports, time, recorder and
dump, network counters, and what the board brings. -/

namespace Sys2Proof.Machine

/-- The twelve modes (R52). -/
inductive Mode where
  | vault
  | boot
  | provision
  | commission
  | shadow
  | steer
  | hold
  | island
  | manual
  | safe
  | service
  | dump
deriving DecidableEq, Repr

/-- A time value (R54, R333): seconds, nanoseconds, fraction, view (0 LEGAL, 1 SERVO), valid. -/
structure Ts where
  s : Nat := 0
  ns : Nat := 0
  frac : Nat := 0
  view : Nat := 0
  valid : Bool := false
deriving DecidableEq, Repr

/-- What one firmware slot holds in its xSPI NOR device (R396, R399). -/
structure SlotImage where
  /-- the device is fitted and answers (R18) -/
  fitted : Bool := false
  /-- the manifest checks of step 4 of R73 pass but for the floor -/
  signed : Bool := false
  /-- the core firmware and the other parts match their hashes (steps 5 and 7) -/
  coreOk : Bool := false
  partsOk : Bool := false
  securityVersion : Nat := 0
  firmware : Word := 0
  /-- FLOOR of its manifest, and the life-cycle keys that it carries (R399) -/
  floor : Nat := 0
  lcKeys : Bytes := []
deriving DecidableEq, Repr

/-- What the board and the plant bring from outside: fitted memory, image slots, sensors, pins (R16 to R18). -/
structure Board where
  /-- GiB found on each DDR5 channel at step 6 of R73; none when it does not train -/
  ddr5 : Option Nat × Option Nat := (some 8, some 8)
  /-- both channels of the same organisation (R17) -/
  ddr5Same : Bool := true
  dramTrains : Bool := true
  slotA : SlotImage :=
    { fitted := true, signed := true, coreOk := true, partsOk := true, securityVersion := 1, firmware := 1 }
  slotB : SlotImage := { fitted := true }
  /-- the 64-byte identity block each metering sensor answers with over I2C; unlisted: no answer (R150) -/
  sensors : Table Bytes := []
  /-- OWN_IN reads a single-operation tie (R354) -/
  alone : Bool := true
  /-- OWN_IN: true while the other half holds -/
  ownIn : Bool := false
  /-- VBAT is applied to PD0 -/
  vbat : Bool := false
  /-- level of the trip inputs, 1 high; tied to the inactive level of the factory polarity (R299, R301) -/
  tripLevel : Word := 0xFFFFFFFF
deriving DecidableEq, Repr

/-- A function that re-initialises (R55, R79): its code and instance, and the counter value at which it is whole again;
none for the loop engine, whose LOOP_ENGINE_RESTART ends it. -/
structure Reinit where
  func : Nat
  unit : Nat
  ends : Option Nat
deriving DecidableEq, Repr

/-- SYS_ and the mode manager (R57 to R77). -/
structure Sys where
  mode : Mode := .boot
  prev : Mode := .vault
  cause : Half := 0x0001
  /-- counter value at the entry to the mode -/
  since : Nat := 0
  /-- SERVO time at the entry to the mode (MODE_GET) -/
  entry : Ts := { view := 1 }
  /-- this half holds the ownership token -/
  token : Bool := false
  /-- SYS_BOOT (R60) -/
  bootFail : Byte := 0
  bootSlot : Bool := false
  bootStep : Nat := 1
  /-- the start-up timeline has run since the supplies became valid -/
  started : Bool := false
  /-- SAFE was entered on a fatal error (R63) -/
  fatalSafe : Bool := false
  /-- a short summary was written; nothing is served until a device reset (R441) -/
  stopped : Bool := false
  /-- counter value of the last contact; none once the timer has expired (R66) -/
  contact : Option Nat := none
  /-- the session that controls MANUAL (R67) -/
  manual : Option Word := none
  /-- this is the start HOLD and its start move is still open (R76) -/
  startMove : Bool := false
  /-- ISLAND_AFTER in s and START_MODE, configuration fields in force (R66, R76, R418) -/
  islandAfter : Nat := 120
  startSteer : Bool := false
  /-- functions re-initialising (R55, R79) -/
  reinit : List Reinit := []
  firmware : Word := 0
  /-- a command has asked for a device reset of this cause, made once its response has posted -/
  resetWanted : Option Byte := none
deriving DecidableEq, Repr

/-- The island policy kept in ferroelectric memory (R70 to R72). -/
structure Policy where
  word : Word
  hash : Bytes
  approved : Ts
  stale : Bool
deriving DecidableEq, Repr

/-- PMU_ (R82 to R98). -/
structure Pmu where
  /-- bits 11:1 of PMU_DOM_STAT.POWERED; bit 0 follows VBAT -/
  powered : BitVec 12 := 0x002
  lock : BitVec 5 := 0
  flags : BitVec 7 := 0
  resetCause : Byte := 0x01
  temp : Half := 0
  vbatMv : BitVec 12 := 0
  /-- ticks PD6 and PD7 have been powered since the last reset -/
  fabATicks : Nat := 0
  fabBTicks : Nat := 0
  /-- counter values at which the last job on PD6 and on PD7 ended (R83) -/
  fabAIdle : Nat := 0
  fabBIdle : Nat := 0
  /-- PWRFAIL is asserted and the hold-up has run (R90, R91) -/
  pwrfail : Bool := false
  /-- hold-up marker in ferroelectric memory: begun, completed (R91, R92) -/
  markerBegun : Bool := false
  markerDone : Bool := false
  /-- the clock monitor holds PD1 in reset after a clock loss (R89) -/
  clockLost : Bool := false
  /-- FAB_LINGER in ms, a configuration field in force (R83, R418) -/
  fabLinger : Nat := 1
  /-- counter value of the last FAB PLL loss (R88) -/
  fabLoss : Option Nat := none
  /-- FAB PLL runs at 800 MHz (R95) -/
  fabHalf : Bool := false
  /-- a crossing of 100 degrees has been reported -/
  warmed : Bool := false
  /-- gated by the thermal trip until below 100 degrees -/
  fabBarred : Bool := false
  /-- the last sample was at 110 degrees or above -/
  hot : Bool := false
  /-- counter values of the last reading of the junction sensors and of VBAT (R95, R96) -/
  tempAt : Option Nat := none
  vbatAt : Option Nat := none
deriving DecidableEq, Repr

/-- EVT_ROUTEn (R456). -/
structure Route where
  count : Half := 0
  balls : Byte := 0
  ven : Bool := false
  vector : BitVec 6 := 0
deriving DecidableEq, Repr

/-- EVT_VECv (R454, R456): HOLDOFF, MSGS and the counter value at which ARMED was last cleared by a message. -/
structure Vec where
  holdoff : Half := 0
  msgs : Half := 0
  cleared : Option Nat := none
deriving DecidableEq, Repr

/-- EVT_ (R451 to R456). -/
structure Evt where
  pend : BitVec 192 := 0
  mask : BitVec 192 := BitVec.allOnes 192
  armed : BitVec 64 := BitVec.allOnes 64
  routes : Table Route := []
  vecs : Table Vec := []
  /-- EVT_BALLb: POL at bit 2b+1, EN at bit 2b -/
  balls : BitVec 16 := 0
deriving DecidableEq, Repr

/-- The PCIe endpoint (R46, R455, R481). -/
structure Pcie where
  linkUp : Bool := false
  enumerated : Bool := false
  memorySpace : Bool := false
  msix : Bool := false
  functionMask : Bool := false
  bar0 : Dword := 0
  bar2 : Dword := 0
  vmask : BitVec 64 := BitVec.allOnes 64
  pba : BitVec 64 := 0
  /-- address and data of each vector's table entry -/
  table : Table (Dword × Word) := []
deriving DecidableEq, Repr

/-- One command ring (R47, R48). -/
structure Ring where
  sqb : Dword := 0
  sqt : Nat := 0
  sqh : Nat := 0
  cqb : Dword := 0
  cqh : Nat := 0
  cqt : Nat := 0
  en : Bool := false
  vector : Nat := 0
  cqLog : Nat := 4
  sqLog : Nat := 4
  /-- PHASE the next completion carries -/
  phase : Bool := true
  /-- commands fetched from the ring whose response has not posted -/
  waiting : Nat := 0
  /-- EN was written 0 while commands were outstanding -/
  closing : Bool := false
deriving DecidableEq, Repr

/-- A cached response (R42). -/
structure Cached where
  seq : Word
  opcode : Half
  flags : Byte
  status : Half
  payload : Bytes
deriving DecidableEq, Repr

/-- A session (R37 to R42). -/
structure Session where
  sid : Word
  transport : Transport
  assoc : Nat
  role : Nat
  credential : Word
  maxPayload : Nat
  /-- highest accepted sequence H; bit k of seen: H - k accepted -/
  high : Word
  seen : BitVec 64
  cached : List Cached
  /-- sequences accepted and not yet answered -/
  outstanding : List Word
  /-- counter value of the last command -/
  last : Nat
deriving DecidableEq, Repr

/-- A nonce issued by SES_CHALLENGE and not yet used (R39): value, transport, counter value of issue. -/
structure Nonce where
  value : Bytes
  transport : Transport
  issued : Nat
deriving DecidableEq, Repr

/-- A VCP DTLS association (R49): its port, the role-table entry of its client key, the records sent under the key in
use, and how often each side has updated its key. -/
structure Assoc where
  port : Nat
  credential : Nat
  records : Nat := 0
  keyOut : Nat := 0
  keyIn : Nat := 0
deriving DecidableEq, Repr

/-- A command waiting for its response (CAN_CANCEL, R325): where the response goes. -/
structure Deferred where
  transport : Transport
  assoc : Nat
  tag : Word
  rspBuf : Nat
  flags : Byte
  seq : Word
  sid : Word
  opcode : Half
  channel : Nat
  object : Nat
  rspAddr : Dword
  sqHead : Nat
deriving DecidableEq, Repr

/-- A command that has passed step 10 of R33 and waits behind another of its block (R44): its opcode and itself. -/
structure Held where
  code : Nat
  cmd : Cmd
deriving DecidableEq, Repr

/-- Sessions and transports (R37 to R51). -/
structure Vcp where
  sessions : List Session := []
  nonces : List Nonce := []
  assocs : Table Assoc := []
  deferred : List Deferred := []
  /-- commands held behind one of their block, in the order they passed step 10 (R44) -/
  held : List Held := []
  /-- DTLS records dropped at step 1 of R33 -/
  dropped : Nat := 0
  /-- CMD_CTRL.ENABLE, CMD_STAT.READY, CMD_ERR -/
  enable : Bool := false
  ready : Bool := false
  err : BitVec 4 := 0
  rings : Table Ring := []
  /-- SPI port (R51) -/
  spiBusy : Bool := false
  spiRsp : Option Bytes := none
  spiFrameErr : Bool := false
deriving DecidableEq, Repr

/-- One corrected view of the counter (R332): BASE in units of 2^-48 ns at counter value C_BASE, INC per tick. -/
structure View where
  base : Int := 0
  cbase : Nat := 0
  inc : Int := 4 * 2 ^ 48
  valid : Bool := false
deriving DecidableEq, Repr

/-- TIM_STAT.STATE (R351). -/
inductive ServoState where
  | free
  | acquiring
  | locked
  | holdover
deriving DecidableEq, Repr

/-- The servo record (R339), factory values. -/
structure ServoRecord where
  source : Nat := 0
  stepEn : Bool := true
  lockN : Nat := 8
  stepNs : Nat := 100000
  lockNs : Nat := 1000
  holdS : Nat := 3600
  kp : Word := 0x3F333333
  ki : Word := 0x3E99999A
  legalTauS : Nat := 1000
  alarmMs : Nat := 1000
  priority1 : Nat := 128
  priority2 : Nat := 128
deriving DecidableEq, Repr

/-- The PTP port record (R347). -/
structure PtpRecord where
  enable : Bool := false
  profile : Nat := 2
  transport : Nat := 0
  role : Nat := 0
  domain : Nat := 0
  oneStep : Bool := false
  logSync : Int := 0
  logAnnounce : Int := 0
  logDelay : Int := 0
  annTimeout : Nat := 3
  asymNs : Int := 0
  prp : Bool := false
deriving DecidableEq, Repr

/-- A master that a port has heard (IEEE 1588-2019, 9.3): its latest Announce, and the counter values of it and of the
one before. -/
structure Foreign where
  announce : Announce
  last : Nat
  before : Option Nat
deriving DecidableEq, Repr

/-- A PTP port (R345 to R351). Times are SERVO times in units of 2^-16 ns. -/
structure PtpPort where
  record : PtpRecord := {}
  /-- IEEE 1588 portState -/
  state : Nat := 0
  /-- mean path delay, as measured -/
  delay : Int := 0
  sync : Word := 0
  foreign : List Foreign := []
  /-- counter value of the last Announce heard, or of the start -/
  heardAt : Nat := 0
  /-- counter value of the last Sync, Announce and Pdelay_Req sent: 0, 2, 4 -/
  sentAt : Table Nat := []
  /-- a two-step Sync that waits for its Follow_Up: receipt and correction -/
  waiting : Option (Int × Int) := none
  /-- the last Sync whole: origin with corrections, receipt -/
  lastSync : Option (Int × Int) := none
  /-- the last Delay_Req or Pdelay_Req went out at this time -/
  requested : Option Int := none
  /-- a two-step Pdelay_Resp that waits for its follow-up: request received, response received, correction -/
  responded : Option (Int × Int × Int) := none
deriving DecidableEq, Repr

/-- The PTP ports' factory records (R349), in port order. -/
def ptpFactory : List PtpPort :=
  [{ record := { enable := true, prp := true } }, { record := { enable := true, prp := true } },
   { record := { enable := true, role := 2, oneStep := true, prp := true } },
   { record := { enable := true, role := 2, oneStep := true, prp := true } }, {}, {}, {}, {}]

/-- TIM_ (R332 to R351). -/
structure Tim where
  counter : Nat := 0
  /-- ticks of 4 ns inside the current 40 ns step while the TIME PLL is unlocked (R88) -/
  phase : Nat := 0
  servo : View := {}
  legal : View := {}
  /-- integ, r_servo and r_legal, in ns per s -/
  integ : Rat := 0
  rServo : Rat := 0
  rLegal : Rat := 0
  /-- what the last read of TIM_CNT_L latched: counter, SERVO and LEGAL (R334) -/
  latchCount : Nat := 0
  latchServo : Ts := { view := 1 }
  latchLegal : Ts := {}
  state : ServoState := .free
  record : ServoRecord := {}
  /-- consecutive samples within LOCK_NS -/
  lockRun : Nat := 0
  everLocked : Bool := false
  /-- counter value at the entry to HOLDOVER -/
  holdSince : Option Nat := none
  holdS : Nat := 0
  holdExpired : Bool := false
  degraded : Bool := false
  rtcInvalid : Bool := false
  flags : BitVec 6 := 0
  /-- the last theta, in ns (R340) -/
  offset : Rat := 0
  steps : Word := 0
  /-- |LEGAL - SERVO| is above ALARM_MS (R338) -/
  diverged : Bool := false
  utcOffset : Half := 0x0025
  utcValid : Bool := false
  li61 : Bool := false
  li59 : Bool := false
  /-- end of the UTC day that the leap indicator names -/
  leapAt : Nat := 0
  /-- the parent's data set and steps removed, announced by the master ports; none before the first (R346) -/
  parent : Option (ClockData × Nat) := none
  ports : List PtpPort := ptpFactory
  /-- the latest SERVO instant already reached, ns (R344) -/
  reached : Nat := 0
  /-- counter second of the last LEGAL rate setting -/
  rateAt : Nat := 0
deriving DecidableEq, Repr

/-- The real-time counter in PD0 (R336): 4 ns ticks since it started counting, and the alignment flag. -/
structure Rtc where
  ticks : Nat := 0
  aligned : Bool := false
  /-- counter value of the last alignment -/
  last : Nat := 0
deriving DecidableEq, Repr

/-- A recorder record (R425). -/
structure Record where
  index : Nat
  opsec : Nat
  cycle : Nat
  code : Nat
  subject : Nat
  legalS : Nat
  legalNs : Nat
  repeats : Nat
  aux : Nat
  data : Nat
deriving DecidableEq, Repr

/-- An entry of the intake FIFO (R429, R430): the record so far, whether it came from the partner, whether it is a
LOST record, and whether its write has begun. -/
structure Intake where
  record : Record
  partner : Bool
  begun : Bool
deriving DecidableEq, Repr

/-- LOG_ and the recorder's areas (R425 to R446). -/
structure Log where
  permanent : List Record := []
  circulating : List Record := []
  /-- the index the next circulating record takes -/
  next : Nat := 2048
  fifo : List Intake := []
  pendingLost : Nat := 0
  lost : Word := 0
  partnerDrop : Word := 0
  clears : Word := 0
  flag : Bool := false
  /-- index of the newest record ever written; none before the first -/
  newest : Option Nat := none
  /-- the supervisor is writing records -/
  running : Bool := false
  /-- operating ticks within the second, operating seconds, power cycles (R427) -/
  opTicks : Nat := 0
  opsec : Nat := 0
  cycles : Nat := 0
deriving DecidableEq, Repr

/-- The fatal summary (R439): what its header and sections hold. -/
structure Summary where
  cause : Half
  detail : Word
  short : Bool
  released : Bool
  second : Bool
  legal : Ts
  counter : Nat
  opsec : Nat
  cycles : Nat
  firmware : Word
  mode : Mode
  slot : Bool
  index : Nat
  /-- full dump bytes and hash; 0 and empty when there is none -/
  dumpBytes : Nat
  dumpHash : Bytes
  /-- the first 64 registers of each of the 21 windows (R14) -/
  windows : List (List Word)
  /-- the 512 newest records at the fatal instant, oldest first -/
  records : List Record
  /-- which free values stand for the cores, the trace and the cause text -/
  free : Nat
deriving DecidableEq, Repr

/-- The full dump (R440): the sizes of its sections of variable size, and what stands in the others. -/
structure FullDump where
  bytes : Nat
  heap : Nat
  planner : Nat
  collector : Nat
  windows : List (List Word)
  records : List Record
  hash : Bytes
  free : Nat
deriving DecidableEq, Repr

/-- DMP_ (R437 to R446). -/
structure Dmp where
  summary : Option Summary := none
  full : Option FullDump := none
  /-- a capture is running; what its summary will hold -/
  capturing : Option Summary := none
  /-- counter value of the fatal instant -/
  fatalAt : Nat := 0
  flags : BitVec 2 := 0
deriving DecidableEq, Repr

/-- An Ethernet port's link and counters (R20, R449). -/
structure NetPort where
  sgmii : Bool := false
  speed : Nat := 0
  up : Bool := false
  rxDrop : Word := 0
  pause : Word := 0
  unbound : Word := 0
deriving DecidableEq, Repr

/-- A PRP pair (R22, R23): the duplicate-discard table holds, per source, the sequences lately accepted, each with the
counter value of its arrival; and the counter value of the last supervision frame. -/
structure PrpPair where
  table : Table (List (Nat × Nat)) := []
  supervised : Option Nat := none
  /-- sequence of the redundancy control trailer that the next frame sent takes -/
  sequence : Half := 0
  overflow : Word := 0
  fullSeen : Bool := false
deriving DecidableEq, Repr

/-- NET_ (R19 to R24, R449). -/
structure Net where
  /-- pairs configured for PRP, forms configured for NET4 to NET7, ports bound to VCP and UPP, as bits
  (configuration fields in force, R20, R22, R24, R418) -/
  prpOn : Nat := 3
  formSgmii : Nat := 0
  bindVcp : Nat := 3
  bindUpp : Nat := 12
  ports : Table NetPort := []
  prp : Table PrpPair := []
  /-- frames passed on to a service, by service -/
  delivered : Table Nat := []
deriving DecidableEq, Repr

/-- MEM_ (R449). -/
structure Mem where
  dramOk : Bool := false
  ddr5Ok : Bool := false
  ch0 : Nat := 0
  ch1 : Nat := 0
  ce : Table Word := []
  ue : Table Word := []
deriving DecidableEq, Repr

end Sys2Proof.Machine
end

