-- ==== Sys2Proof/Machine/BlocksPlant.lean ====
section
/-! DEFINITION. The state of the measurement front end (ADC_), of metering (MTR_) and of the point collector (PTS_). -/

namespace Sys2Proof.Machine

/-- A front-end channel record (R100); the f32 fields as their bits. -/
structure ChanRecord where
  enable : Bool := false
  mode : Nat := 0
  gain : Nat := 0
  excite : Nat := 0
  filterUs : Nat := 0
  express : Nat := 0xFF
  urgentAcq : Nat := 0
  calLow : Word := 0
  calHigh : Word := 0
  scale : Word := 0
  engOffset : Word := 0
deriving DecidableEq, Repr

/-- The newest sample of a channel (R106, R107, R123): raw code, calibrated Q1.31 value, engineering value, flags,
SERVO time of its instant. -/
structure Sample where
  raw : Int
  v : Int
  eng : Word
  flags : Word
  ts : Ts
  /-- counter value of the instant -/
  tick : Nat
deriving DecidableEq, Repr

/-- A system calibration in progress (R118, R119): the last step done, its averages in Q1.31, the counter value of
the last step. -/
structure SysCal where
  step : Nat
  low : Int
  high : Int
  last : Nat
deriving DecidableEq, Repr

/-- A counting input (R121, R122): counts, the last two counted edges (counter value, and whether forward), the SERVO
time of the last as it was formed (R120), the counter value of the last pair over speed. -/
structure Counting where
  fwd : Word := 0
  rev : Word := 0
  last : Option (Nat × Bool) := none
  stamp : Ts := { view := 1 }
  prev : Option Nat := none
  overspeed : Option Nat := none
deriving DecidableEq, Repr

/-- One sequence entry (R110). -/
structure SeqEntry where
  input : Nat
  acq : Nat
  avg : Nat
  div : Nat
deriving DecidableEq, Repr

/-- An urgent injection waiting or converting (R112, R113): express slot, front-end channel, counter value of the
request. -/
structure Urgent where
  slot : Nat
  channel : Nat
  tick : Nat
deriving DecidableEq, Repr

/-- A SAR converter (R110 to R113). -/
structure Sar where
  entries : List SeqEntry := []
  /-- a sequence accepted and not yet in force (R111) -/
  next : Option (List SeqEntry) := none
  entry : Nat := 0
  round : Nat := 0
  /-- codes and flags of the averaging group in progress (R106) -/
  group : List Nat := []
  groupEnds : List Nat := []
  groupFlags : Word := 0
  aborts : Word := 0
  /-- times the current normal conversion has been aborted in succession -/
  streak : Nat := 0
  /-- urgent injections in order; the first is converting unless the protected conversion runs -/
  urgent : List Urgent := []
  /-- the normal conversion is protected and finishes before the queue (R113) -/
  shielded : Bool := false
deriving DecidableEq, Repr

/-- What stood in the front end until a counter value, for the samples whose instants lie before it (R100, R107, R120):
records, references, who excites, and the SERVO view. -/
structure Front where
  stop : Nat
  records : Table ChanRecord
  readyM : Bool
  readyP : Bool
  refM : Nat
  refP : Nat
  refin : Half
  avdd : Half
  token : Bool
  ownIn : Bool
  servo : View
deriving DecidableEq, Repr

/-- ADC_ (R99 to R125). -/
structure Adc where
  records : Table ChanRecord := []
  /-- what stood before, oldest first, as far back as a sample's instant may lie -/
  past : List Front := []
  rate16 : Bool := false
  /-- the grid instant at which the rate in force restarts the converters (R101) -/
  rateAt : Nat := 0
  refM : Nat := 0
  refP : Nat := 0
  /-- user gain (Q2.30) and offset (Q1.31) -/
  cal : Table (Int × Int) := []
  syscal : Table SysCal := []
  samples : Table Sample := []
  /-- counter value of the last publication of each channel's point (R109) -/
  published : Table Nat := []
  /-- samples left that carry OVR, by front-end channel of a modulator (R108) -/
  ovrLeft : Table Nat := []
  /-- samples left that carry SETTLE, by front-end channel of a modulator (R101, R104) -/
  settle : Table Nat := []
  counts : Table Counting := []
  sar0 : Sar := {}
  sar1 : Sar := {}
  running : Bool := false
  readyM : Bool := false
  readyP : Bool := false
  refin : Half := 0
  avdd : Half := 0
  /-- counter value at which REFIN was found back in its window (R115) -/
  refinBack : Option Nat := none
  /-- counter value of the last measurement of REFIN and AVDD (R115) -/
  measuredAt : Option Nat := none
  flags : BitVec 5 := 0
deriving DecidableEq, Repr

/-- A metering channel record (R128). -/
structure MtrRecord where
  kind : Nat := 0
  quantum : Nat := 0
  flowSrc : Nat := 0xFF
  flowIdx : Nat := 0xFF
  group : Nat := 0xFF
  tcompSrc : Nat := 0xFF
  cutoffMs : Nat := 0
  pMax : Word := 0
  vPulse : Word := 0
  qMax : Word := 0
  qCut : Word := 0
  dtMin : Word := 0
deriving DecidableEq, Repr

/-- The accumulators of a channel (R143): eight 64-bit counts and their Q0.32 residues. -/
structure Accs where
  counts : List Dword := [0, 0, 0, 0, 0, 0, 0, 0]
  residues : List Word := [0, 0, 0, 0, 0, 0, 0, 0]
deriving DecidableEq, Repr

/-- The open period of an electrical channel (R132 to R134): samples, exact sums, and the crossings. -/
structure ElectricSums where
  n : Nat := 0
  v2 : Int := 0
  i2 : Int := 0
  vi : Int := 0
  /-- the sum of shifted voltage times delayed current (R133) -/
  hd : Rat := 0
  /-- the newest 255 voltage and 128 current samples, newest first: what the shift and the delay reach back to -/
  vs : List Int := []
  cs : List Int := []
  /-- the newest sample of each modulator: instant and value -/
  lastV : Option (Nat × Int) := none
  lastC : Option (Nat × Int) := none
  /-- the period's voltage samples, newest first -/
  wave : List (Nat × Int) := []
  /-- positive-going crossings counted; instants of the first and last, in counter ticks -/
  crossings : Nat := 0
  first : Rat := 0
  last : Rat := 0
  prev : Option (Nat × Int) := none
  armed : Bool := true
deriving DecidableEq, Repr

/-- The open period of a thermal channel (R136 to R141). -/
structure ThermalSums where
  /-- temperatures of the tick in progress: valid samples, samples and sums for the flow and the return pipe -/
  nF : Nat := 0
  countF : Nat := 0
  sumF : Rat := 0
  nR : Nat := 0
  countR : Nat := 0
  sumR : Rat := 0
  /-- last valid temperatures and factor -/
  held : Option (Rat × Rat × Rat) := none
  /-- power and flow at the last tick -/
  lastP : Option Rat := none
  lastQ : Option Rat := none
  /-- ticks of continuous TEMP_HELD -/
  heldTicks : Nat := 0
  /-- energy forward and reverse, then uncertified forward and reverse, in J; volume forward and reverse in mL -/
  eF : Rat := 0
  eR : Rat := 0
  uF : Rat := 0
  uR : Rat := 0
  vF : Rat := 0
  vR : Rat := 0
  /-- for the published values: theta, flow, sums of p and k, ticks -/
  theta : Rat × Rat := (0, 0)
  delta : Rat := 0
  q : Rat := 0
  sumP : Rat := 0
  sumK : Rat := 0
  ticks : Nat := 0
deriving DecidableEq, Repr

/-- A modulator's sample as metering takes it (R132, R137): channel, instant, v, flags, and the resistance it stands
for. -/
structure MtrIn where
  channel : Nat
  tick : Nat
  v : Int
  flags : Word
  ohm : Rat
deriving DecidableEq, Repr

/-- What waits for the metering DSP while it is re-initialised (R79). -/
inductive MtrWork where
  | sample (x : MtrIn)
  /-- a channel's tick at an instant, with its flow before its limits and FLOW_LOST -/
  | tick (n at' : Nat) (flow : Rat × Bool)
  /-- a counted edge of an input -/
  | volume (k : Nat) (forward : Bool)
  /-- a period boundary, with SERVO and LEGAL time at it -/
  | close (at' : Nat) (servo legal : Ts)
  /-- a second boundary -/
  | write
deriving DecidableEq, Repr

/-- The global record (R129). -/
structure MtrGlobal where
  snapMin : Nat
  signSlot : Nat
  signAlg : Nat
deriving DecidableEq, Repr

/-- One metering channel (R126 to R164). -/
structure MtrChan where
  record : MtrRecord := {}
  /-- record and table accepted and not yet in force (R128, R142) -/
  next : Option MtrRecord := none
  table : Option (List (Word × Word)) := none
  nextTable : Option (List (Word × Word)) := none
  accs : Accs := {}
  /-- the 64-bit value that a read of MTR_ACCn_kL latched (R145) -/
  latch : List Dword := [0, 0, 0, 0, 0, 0, 0, 0]
  electric : ElectricSums := {}
  thermal : ThermalSums := {}
  /-- flags of the open period and of the last closed period (R164) -/
  opened : Word := 0
  closed : Word := 0
  /-- channel flags since the previous snapshot (R157) -/
  since : Half := 0
  values : List Word := [0, 0, 0, 0, 0, 0, 0, 0, 0, 0]
  /-- identity state (R152), 0 before any read; accepted serial; last valid read: TYPE, CAL_DAY, LIFE_MONTHS -/
  identity : Nat := 0
  serial : Option Bytes := none
  readType : Nat := 0
  calDay : Nat := 0
  lifeMonths : Nat := 0
  /-- expiry as last judged; certified billing resumes at the next period boundary (R153, R154) -/
  expired : Bool := false
  resumes : Bool := false
  /-- the 10 ms tick last formed, and the interval of 86,400 s in which the chip was last read (R136, R152) -/
  tickedAt : Nat := 0
  dayRead : Nat := 0
deriving DecidableEq, Repr

/-- A pulse output (R148, R149). -/
structure Pulse where
  source : Nat := 0xFF
  threshold : Nat := 0
  residue : Nat := 0
  pending : Nat := 0
  backlog : Bool := false
  /-- counter value at which the pulse being emitted ends: 30 ms high, then 30 ms low -/
  idleAt : Nat := 0
deriving DecidableEq, Repr

/-- A signed snapshot (R157): its number, its 944-byte body and its signatures. -/
structure Snapshot where
  number : Nat
  body : Bytes
  signatures : Bytes
deriving DecidableEq, Repr

/-- One bank of the ferroelectric copy (R147). -/
structure MtrBank where
  seq : Nat
  crcOk : Bool
  accs : List Accs
  pulses : List Pulse
  snapNext : Nat
  snapHash : Bytes
deriving DecidableEq, Repr

/-- MTR_ (R126 to R166). -/
structure Mtr where
  channels : Table MtrChan := []
  snapMin : Nat := 15
  signSlot : Nat := 0
  signAlg : Nat := 1
  /-- a global record accepted and not yet in force (R128) -/
  nextGlobal : Option MtrGlobal := none
  pulses : Table Pulse := []
  snapNext : Nat := 0
  snapHash : Bytes := List.replicate 48 0
  ring : List Snapshot := []
  banks : Option MtrBank × Option MtrBank := (none, none)
  /-- pending snapshot flags (R156, R157) -/
  due : Byte := 0
  /-- the next snapshot carries GAP (R158) -/
  gap : Bool := false
  /-- the scheduling instants last passed at a boundary: in counter time from step 10, and in LEGAL time (R156, R344) -/
  lastSched : Nat := 0
  schedLegal : Nat := 0
  /-- counter values of the period boundary last closed and of the second boundary last written (R131, R147) -/
  closedAt : Nat := 0
  writtenAt : Nat := 0
  /-- what waits for the DSP while it is re-initialised (R79) -/
  held : List MtrWork := []
  periods : Word := 0
  flags : BitVec 8 := 0
  running : Bool := false
  /-- counter value at step 10, and of the last DSP failure (R162) -/
  startedAt : Nat := 0
  failedAt : Option Nat := none
  /-- stopped until the next BOOT by a second failure (R162) -/
  stopped : Bool := false
  /-- LEGAL and SERVO time at the end of the last closed period -/
  endLegal : Ts := {}
  endServo : Ts := { view := 1 }
  /-- expiry has been judged since LEGAL time became valid (R153) -/
  expiryJudged : Bool := false
deriving DecidableEq, Repr

/-- A resident point (R185); `updated` is false before its first update. -/
structure Point where
  ident : Nat
  kind : Nat := 0
  staleMs : Nat := 0
  stored : Nat := 3
  pinned : Bool := false
  timeLocal : Bool := false
  source : Nat := 0
  value : Dword := 0
  sample : Ts := { view := 1 }
  arrival : Nat := 0
  updates : Word := 0
  reportSeq : Word := 0
  previous : Dword := 0
  updated : Bool := false
deriving DecidableEq, Repr

/-- A substation unit (R174 to R188). -/
structure Substation where
  /-- it has been set by PTS_UNIT_SET; its CREDITS and flags -/
  credits : Nat := 0
  enable : Bool := false
  exc : Bool := false
  anySlot : Bool := false
  /-- CREDITS of the balance now in force -/
  balance : Nat := 0
  allowance : Nat := 0
  /-- counter values of its violations in the window (R177) -/
  violations : List Nat := []
  /-- counter value at which it entered THROTTLED -/
  throttled : Option Nat := none
  silent : Bool := false
  /-- last admitted SEQ; none before the first -/
  lastSeq : Option Word := none
  lastAt : Ts := { view := 1 }
  admitted : Word := 0
  refused : Word := 0
  offSlot : Word := 0
  skipped : Word := 0
  missed : Nat := 0
  /-- the last slot window reached, by its minute, and the counter value at its start; none before the first (R175,
  R344) -/
  window : Option (Nat × Nat) := none
  /-- a REPORT was admitted since that start -/
  heard : Bool := false
  /-- refills by counter time made since the collector's start (R176) -/
  refills : Nat := 0
  /-- the Ethernet port of its association -/
  port : Nat := 2
deriving DecidableEq, Repr

/-- A record of a datagram (R172): local index, quality code, age, value as f64 bits. -/
structure UppValue where
  index : Nat
  qual : Nat
  age : Nat
  value : Dword
deriving DecidableEq, Repr

/-- An admitted datagram in the queue (R180, R181). -/
structure Datagram where
  unit : Nat
  report : Bool
  seq : Word
  /-- header time in ns of SERVO time, and TIME_VALID -/
  time : Nat
  timeValid : Bool
  /-- SERVO time of arrival in units of 2^-16 ns, and whether SERVO time was valid -/
  arrived : Nat
  servoValid : Bool
  records : List UppValue
  /-- bytes it takes in ingress or spill -/
  bytes : Nat
deriving DecidableEq, Repr

/-- PTS_ (R167 to R194). -/
structure Pts where
  /-- the database: resident points by record position, in rising order -/
  points : Table Point := []
  units : Table Substation := []
  /-- units with a DTLS association (R170) -/
  assocs : List Nat := []
  ingress : List Datagram := []
  spill : List Datagram := []
  spillActive : Bool := false
  spillPeak : Nat := 0
  /-- client addresses whose handshake is in progress (R170) -/
  handshakes : List Nat := []
  running : Bool := false
  /-- counter value of the collector's start (R176) -/
  startedAt : Nat := 0
  paused : Bool := false
  flags : BitVec 5 := 0
  applied : Word := 0
  /-- records applied since the second of `rateAt` began, and in the second before it -/
  rateNow : Nat := 0
  rateLast : Nat := 0
  rateAt : Nat := 0
  dgrams : Word := 0
  dropFull : Word := 0
  refused : Word := 0
  authFail : Word := 0
  missLimit : Nat := 3
deriving DecidableEq, Repr

end Sys2Proof.Machine
end

