-- ==== Sys2Proof/Machine/BlocksSolve.lean ====
section
/-! DEFINITION. The state of the courses (CRS), the solver fabric (SLV_) and the planner (PLN_). -/

namespace Sys2Proof.Machine

/-- A course in the course area (R197): its image; deltas change the resident one's VALUES, VECTORS and VARMAP
weights in place (R214). -/
structure Course where
  bytes : Nat
  image : Memory
deriving DecidableEq, Repr

/-- An open load (R208, R209): the session, the image bytes, the signature given, the staged bytes and the numbers of
the 64-byte blocks written. -/
structure CourseLoad where
  sid : Word
  bytes : Nat
  signature : Bytes
  image : Memory
  blocks : List Nat
deriving DecidableEq, Repr

/-- The courses of one partition (R207). -/
structure Courses where
  resident : Option Course := none
  coming : Option Course := none
  load : Option CourseLoad := none
deriving DecidableEq, Repr

/-- An iterate (R261): v, z_l, z_u and d by column. -/
structure Iterate where
  v : List Dword := []
  zl : List Dword := []
  zu : List Dword := []
  d : List Dword := []
deriving DecidableEq, Repr

/-- The iterate kept in a partition's iterate area (R220, R264): with its job's number, status, T0 and result hash, its
course's signature, and whether that course has been replaced. -/
structure Kept where
  iterate : Iterate
  signature : Bytes
  job : Nat
  status : Half
  t0 : Nat
  hash : Bytes
  replaced : Bool
deriving DecidableEq, Repr

/-- What started a job (R250). -/
inductive Trigger where
  | period
  | event
  | run
  | partner
deriving DecidableEq, Repr

/-- A job as it is created (R250, R251): number, kind, trigger, deadline in ns of SERVO time, T0 (ns of SERVO time for
ESTIMATE, seconds for PLAN). -/
structure Job where
  number : Nat
  plan : Bool
  trigger : Trigger
  deadline : Option Nat
  t0 : Nat
deriving DecidableEq, Repr

/-- A measurement of an ESTIMATE (R259): column, value, effective weight. -/
structure Measured where
  column : Nat
  z : Dword
  weight : Dword
deriving DecidableEq, Repr

/-- A column of the factor (R228): its pivot, and L below it by row. -/
structure Column where
  d : Dword
  l : List (Nat × Dword)
deriving DecidableEq, Repr

/-- Data of a supernode in a pool (R219, R227): factored or working values, the bytes moved, the columns. -/
structure Panel where
  factored : Bool
  bytes : Nat
  columns : Table Column
deriving DecidableEq, Repr

/-- The reductions of an iteration (R237, R261). -/
inductive Reduction where
  /-- step 1: the two sums of mu, the norms of r_p and r_d -/
  | opening
  /-- step 4: the affine step, then mu at it -/
  | affine
  | centring
  /-- step 5: the norms of b and of r, and of r after a refinement (R236) -/
  | residual
  | refined
  /-- step 6: the longest step -/
  | step
  /-- step 7: what the tests of R262 are taken on -/
  | closing
deriving DecidableEq, Repr

/-- The solves of an iteration (R236, R261). -/
inductive Solve where
  | affine
  | marked
  | refine
deriving DecidableEq, Repr

/-- Where a job stands in its iteration: the span between two of its phase boundaries (R229, R261). -/
inductive Stage where
  | reduce (k : Reduction)
  | assemble
  | factor
  /-- a solve's forward steps, and its backward steps -/
  | up (k : Solve)
  | down (k : Solve)
  | update
  | done
deriving DecidableEq, Repr

/-- A job on the fabric within an iteration (R227 to R239): the reaches' places in the schedule, the factor area, the
working vectors, and the confluence unit's context. -/
structure Fab where
  stage : Stage := .reduce .opening
  /-- records that each reach has ended in this pass -/
  place : Table Nat := []
  /-- children of each supernode that have not finished their FACTOR -/
  left : Table Nat := []
  factored : List Nat := []
  stored : List Nat := []
  /-- SENDs that have landed: reach and supernode -/
  landed : List (Nat × Nat) := []
  /-- supernodes whose step of the present solve has ended -/
  stepped : List Nat := []
  /-- K, as assembled: row, column, value -/
  k : List (Nat × Nat × Dword) := []
  /-- the factor area -/
  factor : Table Column := []
  replaced : List Nat := []
  wrong : Nat := 0
  /-- the arrival queue: the partials that have come, by reach; the last result broadcast -/
  arrivals : Table (List Dword) := []
  result : List Dword := []
  mu : Dword := 0
  alpha : Dword := 0
  centre : Dword := 0
  /-- the vector in the solve; the marked solve's b, x, r, best -/
  sol : List Dword := []
  b : List Dword := []
  x : List Dword := []
  r : List Dword := []
  best : List Dword := []
  normB : Dword := 0
  rbest : Dword := 0
  steps : Nat := 0
  /-- directions in v, z_l, z_u: the affine one, and the step -/
  affine : List Dword × List Dword × List Dword := ([], [], [])
  step : List Dword × List Dword × List Dword := ([], [], [])
  /-- the iterate that step 6 forms -/
  next : Iterate := {}
  fault : Bool := false
  /-- steps of the fabric so far, for the free order in which records end -/
  count : Nat := 0
deriving DecidableEq, Repr

/-- A partition's running job (R225 to R247). -/
structure Running where
  job : Job
  /-- the 152-byte parameter record (R253), taken at the start -/
  record : Bytes
  /-- PHASE of SLV_PROG (R249): 1 created, 3 iterating, 8 ended and hashing, 9 preempted, 10 waiting -/
  phase : Nat
  wide : Bool := false
  /-- deadline counter value (R241) -/
  d : Option Nat := none
  /-- counter value of step 1 of R225 -/
  since : Nat := 0
  iterations : Nat := 0
  iterate : Iterate := {}
  /-- the kept iterate that it starts from; none for a cold start (R264) -/
  basis : Option Kept := none
  /-- where it stands in its iteration -/
  fab : Fab := {}
  /-- the working copy of the course (step 4) -/
  work : Memory := []
  measured : List Measured := []
  mBound : Nat := 0
  /-- SERVO time of the gather, ns -/
  gathered : Nat := 0
  /-- replaced pivots: how many, and the first 64 columns (R234) -/
  replaced : Nat := 0
  pivots : List Nat := []
  warm : Half := 0
  /-- W reserved, MiB -/
  mib : Nat := 0
  /-- the status it has ended with; none while it goes on -/
  ended : Option Half := none
  /-- an ESTIMATE's or a PLAN's estimate: number of the estimate it starts from; hash of the job whose iterate it
  starts from -/
  estimate : Nat := 0
  startHash : Bytes := []
  /-- the last iteration ended with its primal feasibility test passed (R262) -/
  feasible : Bool := false
  /-- SHADOW: the holder's finished iterations, and its count at the end (R367) -/
  holderDone : Nat := 0
  holderEnd : Option Nat := none
  /-- SHADOW: the iterate before the last iteration, for a holder that stopped one iteration earlier -/
  prior : Iterate := {}
  /-- SHADOW: the values the holder gathered -/
  holderGather : Option (List (Dword × Nat)) := none
deriving DecidableEq, Repr

/-- What the SLV_ registers of a partition show after its job has ended (R249). -/
structure Shown where
  number : Nat := 0
  iterations : Nat := 0
  d : Option Nat := none
  replaced : Nat := 0
  wrongSigns : Nat := 0
  steps : Nat := 0
  ratio : Dword := 0
  elapsed : Nat := 0
  /-- a job has shown itself since PD6 was powered -/
  any : Bool := false
deriving DecidableEq, Repr

/-- A reach (R218, R249): its counters, and its microcode store loaded at the wake of its domain. -/
structure Reach where
  microcode : Bool := false
  ecc1 : Nat := 0
  records : Word := 0
  busy : Word := 0
deriving DecidableEq, Repr

/-- SLV_ (R218 to R249). -/
structure Slv where
  /-- E of R223 -/
  reaches : Nat := 16
  flags : BitVec 5 := 0
  reductions : Word := 0
  shown : Table Shown := []
  reach : Table Reach := []
  /-- the pools by reach, and the pool save area of a preempted PLAN: panels by supernode (R219, R220, R244) -/
  pools : Table (Table Panel) := []
  saved : Table (Table Panel) := []
  /-- jobs running, by partition -/
  running : Table Running := []
  kept : Table Kept := []
  /-- the partition's last job was refused with ST_NO_LINEAGE and none has started since (R264) -/
  refused : Table Bool := []
deriving DecidableEq, Repr

/-- A job's result (R256). -/
structure JobResult where
  job : Nat
  plan : Bool
  status : Half
  warm : Half
  iterations : Nat
  replaced : Nat
  pivots : List Nat
  hash : Bytes
  /-- a PLAN withdrawn for want of a fit estimate: its number gives ST_NOT_FOUND (R255) -/
  withdrawn : Bool
deriving DecidableEq, Repr

/-- One bank of the fallback schedule in ferroelectric memory (R272): 24 hourly values by quantity. -/
structure FallbackBank where
  seq : Nat
  crcOk : Bool
  ledger : Nat
  t0 : Nat
  rows : Table (List Word)
deriving DecidableEq, Repr

/-- A recorded matrix-2 list (R275): its payload, SERVO time of execution in ns, and how many days it has been
replayed. -/
structure Forecast where
  payload : Bytes
  time : Nat
  days : Nat
deriving DecidableEq, Repr

/-- The default parameter record of R253: ESTIMATE's or PLAN's. -/
def defaultRecord (plan : Bool) : Bytes :=
  le32 (if plan then 900000 else 1000) ++ le32 (if plan then 500 else 0) ++ le32 (if plan then 60000 else 500)
    ++ le16 (if plan then 100 else 25) ++ [2, 0, 1, if plan then 0x0F else 0] ++ le16 (if plan then 60 else 0)
    ++ le16 (if plan then 600 else 0) ++ le16 (if plan then 1800 else 0) ++ List.replicate 32 0xFF
    ++ le64 0x3E112E0BE826D695 ++ le64 0x3D3C25C268497682 ++ le64 0x3E7AD7F29ABCAF48 ++ le64 0x3DA5FD7FE1796495
    ++ le64 0x3EB0C6F7A0B5ED8D ++ le64 0x3EB0C6F7A0B5ED8D ++ le64 0x3EB0C6F7A0B5ED8D ++ le64 0x3E45798EE2308C3A
    ++ le64 0x3FEFD70A3D70A3D7 ++ le64 0x426D1A94A2000000 ++ le64 (if plan then 0 else 0x3FECCCCCCCCCCCCD)
    ++ le64 (if plan then 0x4039000000000000 else 0x4022000000000000)

/-- PLN_ (R250 to R277). -/
structure Pln where
  /-- parameter records accepted (R253), and those in effect since the last job start of the kind (R254) -/
  recordE : Bytes := defaultRecord false
  recordP : Bytes := defaultRecord true
  effectE : Bytes := defaultRecord false
  effectP : Bytes := defaultRecord true
  next : Nat := 1
  waiting : Table Job := []
  results : List JobResult := []
  estimate : Option Estimate := none
  /-- the last estimate that this half published itself -/
  ownEstimate : Option Estimate := none
  /-- the estimate before it, which a half in SHADOW also keeps (R361) -/
  earlier : Option Estimate := none
  ledger : Option Ledger := none
  /-- ledger number last used (R269) -/
  ledgerNumber : Nat := 0
  banks : Option FallbackBank × Option FallbackBank := (none, none)
  /-- the ledger being written as a fallback schedule, with the bank, and the later one that waits -/
  writing : Option (Bool × Ledger) := none
  writeNext : Option Ledger := none
  /-- last read was from the ledger (R270) -/
  fromLedger : Bool := false
  fallback : Bool := false
  /-- end of the transient hold in SERVO seconds while it is raised -/
  hold : Option Nat := none
  ring : List Forecast := []
  frozen : Bool := false
  /-- PERIOD instants: whether the last one was counted in valid SERVO time, and its index, by partition -/
  periods : Table (Bool × Nat) := []
  /-- counter value at the end of BOOT -/
  bootEnd : Nat := 0
  /-- EVENT conditions that have come about and not yet triggered (R252) -/
  events : BitVec 4 := 0
  /-- counter value of the start of the last EVENT-started PLAN -/
  lastEvent : Option Nat := none
  /-- LEDGER_LOW has been seen for the ledger in force -/
  lowSeen : Bool := false
  flags : BitVec 5 := 0
  skipE : Word := 0
  skipP : Word := 0
deriving DecidableEq, Repr

end Sys2Proof.Machine
end

