-- ==== Sys2Proof/Machine/BlocksPair.lean ====
section
/-! DEFINITION. The state of the pair: the ownership token, the Braid lane and what it carries (BRD_). -/

namespace Sys2Proof.Machine

/-- The pair record (R352), factory values. -/
structure PairRecord where
  paired : Bool := false
  side : Bool := false
  hbMs : Nat := 2
  miss : Nat := 3
  pairId : Nat := 0
  bulkMbs : Nat := 1000
  actWaitS : Nat := 600
deriving DecidableEq, Repr

/-- What a Braid frame carries (R359). -/
inductive Frame where
  | hello (pairId : Nat) (side : Bool)
  | heartbeat (payload : Bytes)
  | notice (k : NoticeKind)
  | ackOnly
  | integrators (slots : Table SlotSnap)
  | pairStatus (u : PairUpdate)
  | jobStart (j : JobStartInfo)
  | gather (values : List (Dword × Nat))
  | iterDone (iteration : Nat)
  | jobEnd (iterations : Nat) (hash : Bytes)
  | compare (job : Word) (hash : Bytes) (outcome : Nat)
  | ledger (l : LedgerFrame)
  | delta (payload : Bytes)
  | declare (payload : Bytes)
  | points (records : List MirrorPoint)
  | records (records : List PartnerRecord)
  | bulk (item : BulkItem)
  /-- a bulk transfer asked for (R363, R368): 0 ESTIMATE course, 1 points, 2 estimate and ledger, 3 PLAN course, 4 and 5
  the kept iterates of partitions 0 and 1 -/
  | request (item : Nat)
deriving DecidableEq, Repr

/-- A sequenced frame not yet acknowledged (R358). -/
structure Unacked where
  seq : Word
  tagged : Half
  frame : Frame
  /-- counter value at which it was last sent; none while it waits for the window -/
  sentAt : Option Nat
deriving DecidableEq, Repr

/-- A compare on a job (R368): own and partner's hash, empty while unknown; 0 pending, 1 match, 2 mismatch, 3 not
comparable. -/
structure Compare where
  job : Nat
  partition : Nat
  own : Bytes := []
  partner : Bytes := []
  outcome : Nat := 0
  /-- SHADOW: the holder's iteration count once its JOB_END has come; own count; the start hash and the estimate that
  the holder started from -/
  count : Option Nat := none
  iterations : Nat := 0
  holderStart : Bytes := []
  holderEstimate : Nat := 0
  /-- SHADOW: the start differed; the start, the course, the estimate or the firmware differed -/
  startDiffers : Bool := false
  differs : Bool := false
deriving DecidableEq, Repr

/-- BRD_ (R352 to R371). -/
structure Brd where
  record : PairRecord := {}
  /-- LINK: 0 down, 1 training, 2 up, 3 refused -/
  link : Nat := 0
  /-- both halves hold -/
  contention : Bool := false
  /-- partner's mode; none while unknown -/
  pmode : Option Nat := none
  partnerHolds : Bool := false
  missed : Nat := 0
  health : BitVec 10 := 1
  partnerHealth : Word := 0
  partnerFirmware : Word := 0
  partnerLedger : Word := 0
  mismatches : Word := 0
  tokenAt : Ts := { view := 1 }
  offset : Int := 0
  /-- counter value at which the lease ends; none without a lease -/
  lease : Option Nat := none
  flags : BitVec 6 := 0
  tx : Word := 0
  rx : Word := 0
  resent : Word := 0
  bad : Word := 0
  hbMiss : Word := 0
  seqOut : Word := 0
  seqIn : Word := 0
  unacked : List Unacked := []
  /-- the sequenced frame last discarded, and how many times in a row -/
  discarded : Word × Nat := (0, 0)
  /-- REQUEST is on OWN_OUT since this counter value -/
  requesting : Option Nat := none
  /-- counter value at which this half began to take the token (R355) -/
  takenAt : Option Nat := none
  /-- the cause with which a requesting half will enter its mode (R364, R366) -/
  taking : Half := 0x0007
  /-- OWN_IN shows a REQUEST -/
  requested : Bool := false
  /-- counter value of the last heartbeat received and of the last miss counted -/
  lastBeat : Option Nat := none
  lastMiss : Option Nat := none
  beat : Option Beat := none
  /-- the partner's mode when its heartbeat last said that it held the token (R69) -/
  former : Nat := 0
  /-- counter value of the last heartbeat sent -/
  beatSent : Option Nat := none
  /-- misses are not counted before this counter value (Braid re-initialisation) -/
  quietUntil : Nat := 0
  /-- a NOTICE of announced reset: the counter value from which a REQUEST is due -/
  announced : Option Nat := none
  /-- values of a handover NOTICE: applied outputs and final integrators (R366) -/
  handover : Option (Table Word × Table SlotSnap) := none
  /-- this half has begun a handover -/
  givingUp : Bool := false
  snapshot : Table SlotSnap := []
  topJob : Nat := 0
  compares : List Compare := []
  /-- delta lists received before the job or the course they follow (R367) -/
  held : List Bytes := []
  /-- bulk transfers still to end, in order (R363) -/
  rebuild : List Nat := []
  /-- counter value since which the partner offset has been above 100 us, and the ledger numbers have differed -/
  offsetHigh : Option Nat := none
  ledgerDiffers : Option Nat := none
  /-- outcomes of the last compare and of the one before, by partition: mismatch -/
  lastCompares : Table (Bool × Bool) := []
deriving DecidableEq, Repr

end Sys2Proof.Machine
end

