-- ==== Sys2Proof/Machine/BlocksDrive.lean ====
section
/-! DEFINITION. The state of the loop engine (LPE_), the outputs (OUT_) and the sluice (SLC_). -/

namespace Sys2Proof.Machine

/-- A run of bit-identical samples (R288): stamp and raw value of the newest, and the length of the run. -/
structure Freeze where
  stamp : Option Nat := none
  raw : Int := 0
  run : Nat := 0
deriving DecidableEq, Repr

/-- A loop slot (R280 to R294); the values are binary32. -/
structure Slot where
  /-- the 96-byte record in force, and one accepted that takes effect at the next sample instant -/
  record : Bytes := []
  next : Option Bytes := none
  /-- gain table: error, gain -/
  table : List (Word × Word) := []
  enabled : Bool := false
  /-- evaluated since it was last enabled -/
  evaluated : Bool := false
  /-- its first evaluation is still to come: y_prev := y, dd_prev := 0 -/
  fresh : Bool := true
  i : Word := 0
  ddPrev : Word := 0
  yPrev : Word := 0
  /-- the output applied at the last evaluation -/
  u : Word := 0
  /-- setpoint and feed-forward value last used -/
  sp : Option Word := none
  ff : Option Word := none
  feedback : Word := 0
  error : Word := 0
  /-- the slot state word (R310) -/
  bits : Half := 0
  primary : Freeze := {}
  backup : Freeze := {}
  /-- good evaluations of the primary source in succession while a policy acts -/
  good : Nat := 0
  /-- consecutive evaluations above the following-error limit -/
  feTimer : Nat := 0
  /-- the output in force that the next evaluation must equal (R68, R293) -/
  resume : Option Word := none
  /-- counter value of the last publication of its points -/
  published : Option Nat := none
  /-- the sample instant last evaluated -/
  instant : Option Nat := none
  /-- the policy that acts: true for lost, false for frozen; on the backup source -/
  acting : Option Bool := none
  onBackup : Bool := false
  /-- the backup has been lost: HOLD until recovery -/
  backupGone : Bool := false
  /-- following error declared -/
  fe : Bool := false
  /-- express: an injection is awaited; what was formed at its instant: sp, ff, SP_HELD, the instant -/
  express : Option (Word × Word × Bool × Nat) := none
deriving DecidableEq, Repr

/-- A trace buffer (R307). -/
structure Trace where
  slot : Nat := 0
  signal : Nat := 0
  cond : Nat := 0
  pre : Nat := 0
  dec : Nat := 0
  level : Word := 0
  /-- STATE: 0 idle, 1 armed, 2 triggered, 3 complete -/
  state : Nat := 0
  holder : Word := 0
  /-- samples held, oldest first -/
  samples : List Word := []
  skip : Nat := 0
  /-- the signal's value at the sample before, and the slot's state bits then -/
  last : Option Word := none
  lastBits : Half := 0
  tripped : Bool := false
  counter : Nat := 0
deriving DecidableEq, Repr

/-- LPE_ (R280 to R294, R307 to R311). -/
structure Lpe where
  slots : Table Slot := []
  traces : Table Trace := []
  running : Bool := false
  alive : Bool := false
  flags : BitVec 3 := 0
  evals : Word := 0
  rateNow : Nat := 0
  rateLast : Nat := 0
  rateAt : Nat := 0
  latMax : Nat := 0
  /-- the 10 ms snapshot of the integrators (R286) -/
  snapshot : Table SlotSnap := []
  /-- counter values of the last snapshot and of the last turn of ALIVE (R286, R305) -/
  snapAt : Option Nat := none
  aliveAt : Option Nat := none
deriving DecidableEq, Repr

/-- OUT_ (R278, R295 to R300). -/
structure Out where
  /-- bound sources; unlisted 0xFFFF -/
  binding : Table Nat := []
  /-- values in MANUAL: set by OUT_SET, or last applied -/
  manual : Table Word := []
  /-- the latch's values while it is engaged; counter value at which it engaged -/
  hold : Option (Table Word) := none
  holdAt : Nat := 0
  /-- what the latch keeps beside the values: GPIO directions and PWM periods (R300) -/
  holdDir : BitVec 64 := 0
  holdPwm : Table Nat := []
  holdMs : Nat := 0
  flags : BitVec 2 := 0
  /-- from the end of hold-up to the end of BOOT after rung 4 (R81) -/
  undriven : Bool := true
  /-- configuration fields in force (R299); unlisted PWM period 40,000 -/
  pwmPeriod : Table Nat := []
  gpioDir : BitVec 64 := 0
  gpioDrive : BitVec 64 := 0
deriving DecidableEq, Repr

/-- SLC_ (R297 to R305). -/
structure Slc where
  /-- safe values; unlisted 2.0 -/
  safe : Table Word := []
  latch : Word := 0
  enable : Word := 0xFFFFFFFF
  polarity : Word := 0
  locals : Word := 0
  /-- latches whose trip was of class LOCAL as it latched (R299) -/
  latchedLocal : Word := 0
  /-- TRIP_MASK by output; unlisted 0xFFFF_FFFF -/
  masks : Table Word := []
  releaseMs : Nat := 100
  /-- counter value since which a trip's input has not been active; unlisted: since reset -/
  inactive : Table Nat := []
  firstValid : Bool := false
  first : Nat := 0
  trips : Word := 0
  times : Table Nat := []
  flags : BitVec 2 := 0
  /-- the mode manager has left BOOT since the last device reset (status port byte 6) -/
  leftBoot : Bool := false
deriving DecidableEq, Repr

end Sys2Proof.Machine
end

