-- ==== Sys2Proof/Machine/BlocksCan.lean ====
section
/-! DEFINITION. The state of the field bus channels (CAN_). -/

namespace Sys2Proof.Machine

/-- A message object (R315 to R331). -/
structure CanObj where
  /-- the 112-byte configuration record; empty: unused -/
  record : Bytes := []
  /-- STATE: 0 IDLE, 1 PENDING, 2 ACTIVE -/
  state : Nat := 0
  /-- RESULT of R321 -/
  result : Nat := 0
  /-- the frame that waits or is on the bus, and the frame queued behind it -/
  data : Option CanFrame := none
  queued : Option CanFrame := none
  /-- failed attempts of the current or last frame -/
  attempts : Nat := 0
  held : Bool := false
  clamp : Bool := false
  short : Bool := false
  cancelReq : Bool := false
  /-- a cancel came after arbitration was won: no further attempt -/
  cancelLate : Bool := false
  /-- last raw value field, as the frame carries it -/
  last : Option Bytes := none
  /-- counter at the start of frame of the last completed frame, and frames completed -/
  stamp : Nat := 0
  count : Word := 0
  /-- the due instant last reached -/
  instant : Option Nat := none
deriving DecidableEq, Repr

/-- The frame a channel has on the bus: its object, arbitration won, the counter at its start of frame, and whether
its object still stands for it. -/
structure CanActive where
  object : Nat
  won : Bool
  start : Nat
  live : Bool
  frame : CanFrame
deriving DecidableEq, Repr

/-- A channel (R312 to R331). -/
structure CanChan where
  /-- the 16-byte timing record; empty: never set, off the bus -/
  record : Bytes := []
  objects : Table CanObj := []
  active : Option CanActive := none
  /-- another node has the bus since this channel lost arbitration -/
  busy : Bool := false
  integrating : Bool := false
  /-- in bus-off, counting recessive sequences -/
  busOff : Bool := false
  flags : BitVec 5 := 0
  lec : Nat := 0
  recount : Nat := 0
  tecount : Nat := 0
  /-- measured transmitter delay -/
  delay : BitVec 7 := 0
  txOk : Word := 0
  rxOk : Word := 0
  errors : Word := 0
  busOffs : Word := 0
  unmatched : Word := 0
  skipped : Word := 0
deriving DecidableEq, Repr

/-- The sixteen channels. -/
structure Can where
  channels : Table CanChan := []
deriving DecidableEq, Repr

end Sys2Proof.Machine
end

