-- ==== Sys2Proof/Machine/BlocksTrust.lean ====
section
/-! DEFINITION. The state of the key vault and life cycle (KEY_), of the field update (UPD_) and of the configuration
copies. -/

namespace Sys2Proof.Machine

/-- A key slot in vault SRAM (R378, R383): states 0 EMPTY, 1 ACTIVE, 2 REVOKE_PENDING, 3 REVOKED, 4 FAULT. -/
structure KeySlot where
  parent : Nat := 0xFF
  state : Nat := 0
  policy : Nat := 0
  secret : Bytes := []
deriving DecidableEq, Repr

/-- A slot's record in ferroelectric memory (R378): never cleared by a wipe. -/
structure KeyRecord where
  generation : Nat := 0
  parentGen : Nat := 0
  uses : Word := 0
  state : Nat := 0
  parent : Nat := 0xFF
  policy : Nat := 0
deriving DecidableEq, Repr

/-- An entry of the role table (R391): algorithm 1 ECDSA P-384, 2 ML-DSA-87. -/
structure RoleEntry where
  role : Nat
  alg : Nat
  key : Bytes
deriving DecidableEq, Repr

/-- The key journal (R387): the change, and whether it is COMMITTED. -/
structure KeyJournal where
  slot : Nat
  secret : Bytes
  parent : Nat
  policy : Nat
  generation : Nat
  committed : Bool
deriving DecidableEq, Repr

/-- KEY_ and the vault (R372 to R395). -/
structure Key where
  /-- blown LC_FUSES (R373): the part is delivered SHIPPED (log entry 60) -/
  fuses : Nat := 2
  slots : Table KeySlot := []
  records : Table KeyRecord := []
  /-- the owner root, in OWNED -/
  root : Option Bytes := none
  rootGen : Nat := 0
  journal : Option KeyJournal := none
  /-- the previous pair key and its expiry in real-time-counter seconds (R393) -/
  previous : Option (Bytes × Nat) := none
  /-- counter value from which the half sends under the new pair key -/
  switchAt : Option Nat := none
  /-- the role table by entry; the claim key stands in entry 63 of a part as shipped -/
  roles : Table RoleEntry := [(63, { role := 3, alg := 1, key := Config.claimKey })]
  /-- the role table that a life-cycle move has still to write, with the claim key (R377, R378) -/
  rolesNext : Option (Table RoleEntry) := none
  /-- slots with an operation in flight (R388) -/
  inFlight : List Nat := []
  flags : BitVec 6 := 0
  /-- the last wipe, kept in PD0 (R380): sources, real-time-counter seconds -/
  tamper : Byte := 0
  tamperAt : Nat := 0
  /-- a wipe in VAULT, to be reported at step 11 -/
  wiped : Bool := false
  tampEn : Nat := 15
  pubSlot : Nat := 0
  pubForm : Nat := 0
  /-- scramble key and mask (R379), and the real-time-counter second of the last refresh -/
  scramble : Word := 0
  mask : Dword := 0
  refreshed : Nat := 0
deriving DecidableEq, Repr

/-- A copy of the boot selector (R396). -/
structure Selector where
  sequence : Nat := 0
  slotB : Bool := false
  trial : Bool := false
  trials : Nat := 0
  floorPending : Nat := 0
  firmware : Word := 0
deriving DecidableEq, Repr

/-- UPD_ and the update journal (R396 to R415). -/
structure Upd where
  /-- the selector's copies; none while invalid -/
  selectors : Option Selector × Option Selector := (none, none)
  /-- stage codes of R401 -/
  stage : Nat := 0
  bytes : Nat := 0
  hash : Bytes := []
  version : Nat := 0
  /-- durable offset, and bytes held -/
  durable : Nat := 0
  held : Nat := 0
  /-- the holder's credential, the counter value of its last UPD_ command, and whether it has lapsed -/
  holder : Option Word := none
  last : Nat := 0
  lapsed : Bool := false
  /-- activation time T -/
  arm : Option Ts := none
  lock : Bool := false
  /-- security-version floor (OTP) -/
  floor : Nat := 0
  outcome : Nat := 0
  outcomeStatus : Half := 0
  flags : BitVec 8 := 0
  /-- what the download has programmed into the inactive slot -/
  image : Memory := []
  /-- the holder waits for its partner since this counter value (R407) -/
  waiting : Option Nat := none
deriving DecidableEq, Repr

/-- The configuration copies (R416 to R422). -/
structure Cfg where
  copyA : Memory := []
  copyB : Memory := []
  staging : Memory := []
  /-- copy in force: 0 none, 1 CFG_A, 2 CFG_B -/
  inForce : Nat := 0
  err : Half := 0
  errOff : Nat := 0
  /-- DTLS_ID certificate chain in force (R392) -/
  chain : Bytes := []
  confirmS : Nat := 600
deriving DecidableEq, Repr

end Sys2Proof.Machine
end

