-- ==== Sys2Proof/Machine/BlocksSent.lean ====
section
/-! DEFINITION. What the device emits: the entries of the log `State.sent`. -/

namespace Sys2Proof.Machine

/-- One thing the device sends, drives or returns. -/
inductive Sent where
  /-- a VCP response packet (R29, R30): transport, association or ring, header fields, status, payload; the CRC-32C
  trailer of PCIe and SPI (R32), and the response buffer it is written to on PCIe (R47) -/
  | response (t : Transport) (assoc : Nat) (seq sid : Word) (opcode : Half) (flags : Byte) (status : Half)
      (payload trailer : Bytes) (address : Dword)
  /-- a DTLS KeyUpdate of the device on an association (R49) -/
  | keyUpdate (assoc : Nat)
  /-- response bytes written to host memory at an address by DMA_OUT (R36) -/
  | hostWrite (address : Dword) (data : Bytes)
  /-- a completion entry (R47) -/
  | completion (ring : Nat) (tag : Word) (status : Half) (phase : Bool) (bytes : Nat) (head : Nat)
  /-- an MSI-X message on a vector, with the address and data of its entry in the BAR2 table (R48, R454, R455) -/
  | msix (vector : Nat) (address : Dword) (data : Word)
  /-- a completion with the bytes that a read of register space returns (R6) -/
  | registerRead (offset : Nat) (data : Bytes)
  /-- an Unsupported Request completion for a memory request (R481) -/
  | unsupported
  /-- bytes returned on the SPI port (R51) -/
  | spi (data : Bytes)
  /-- a DTLS handshake answered: accepted or not (R49) -/
  | handshake (assoc : Nat) (accepted : Bool)
  /-- a HelloRetryRequest with a cookie (R170) -/
  | helloRetry
  /-- a UPP handshake answered (R170) -/
  | uppHandshake (unit : Nat) (accepted : Bool)
  /-- a UPP ACK (R173): unit, SEQ, CODE, unit state, balance, applied, skipped, next slot window -/
  | uppAck (unit : Nat) (seq : Word) (code state balance applied skipped next : Nat)
  /-- a transfer of an identity chip: bus, 7-bit address; memory address 0x00 written, repeated START, 64 bytes read
  (R150) -/
  | i2c (bus address : Nat)
  /-- a pulse driven on PULSEp (R149) -/
  | pulse (p : Nat)
  /-- the byte on the sluice status port (R305) -/
  | statusPort (address : Nat) (value : Byte)
  /-- a PTP message sent on a port (R345): 0 Sync, 1 Follow_Up, 2 Announce, 3 Delay_Req, 4 Pdelay_Req, 5 Delay_Resp,
  6 Pdelay_Resp, 7 Pdelay_Resp_Follow_Up; its transport and domain (R347), its timestamp in ns with the rest in units of 2^-16 ns in correctionField,
  whether the timestamp is degraded (R88), and what an Announce says -/
  | ptp (port kind transport domain : Nat) (stamp : Nat) (correction : Nat) (degraded : Bool) (fields : List Nat)
  /-- PRP supervision frames of a pair (R22) -/
  | prpSupervision (pair : Nat)
  /-- an Ethernet frame that carries a datagram or a supervision frame: port, source MAC and IP address, and on a PRP
  pair the sequence and LAN (0xA, 0xB) of its redundancy control trailer (R22) -/
  | lan (port : Nat) (mac : BitVec 48) (ip : Bytes) (trailer : Option (Half × Nat))
  /-- a frame put on a field bus (R318) -/
  | can (channel : Nat) (frame : CanFrame)
  /-- a Braid frame (R357): SEQ, ACK and TAGGED of its header, and what it carries -/
  | braid (seq ack : Word) (tagged : Half) (frame : Frame)
deriving DecidableEq, Repr

end Sys2Proof.Machine
end

