-- ==== Sys2Proof/Machine/State.lean ====
section
/-! DEFINITION. The state of the block, its reset, and the reasons a step can stop. -/

namespace Sys2Proof.Machine

/-- The VZD-7700's whole state: plain data. -/
structure State where
  /-- the commands that are waiting, first in, first out -/
  pending : List Instr := []
  /-- everything the device has emitted, newest last -/
  sent : List Sent := []
  /-- the number of the next free value (log entry 1) -/
  free : Nat := 0
  board : Board := {}
  sys : Sys := {}
  policy : Option Policy := none
  pmu : Pmu := {}
  evt : Evt := {}
  pcie : Pcie := {}
  vcp : Vcp := {}
  tim : Tim := {}
  rtc : Rtc := {}
  log : Log := {}
  dmp : Dmp := {}
  net : Net := {}
  mem : Mem := {}
  adc : Adc := {}
  mtr : Mtr := {}
  pts : Pts := {}
  courses : Table Courses := []
  slv : Slv := {}
  pln : Pln := {}
  brd : Brd := {}
  lpe : Lpe := {}
  out : Out := {}
  slc : Slc := {}
  can : Can := {}
  key : Key := {}
  upd : Upd := {}
  cfg : Cfg := {}
deriving DecidableEq, Repr

/-- The reasons a command can end in a fault: none, since the spec gives every command of the table an effect. -/
inductive Fault where
deriving DecidableEq, Repr

/-- The reasons a command can be refused by the model. -/
inductive Refusal where
  /-- raised by an arm of `exec` that has no meaning yet; safe: nothing is claimed of it -/
  | notModelled (mnemonic : String)
deriving DecidableEq, Repr

/-- The machine right after reset: main supplies just valid, PD1 powered, the start-up timeline at step 1, every
register at its reset value, no command waiting. -/
def State.reset : State := {}

end Sys2Proof.Machine
end

