-- ==== Sys2Proof/Machine/Ops.lean ====
section
/-! DEFINITION. The operations every family shares: time and its views, power domains, event sources and messages,
the recorder's intake, free values. -/

namespace Sys2Proof.Machine

/-- Ticks of the free-running counter in a second, a millisecond and a microsecond (R332). -/
def tickS : Nat := 250000000
def tickMs : Nat := 250000
def tickUs : Nat := 250

/-- One nanosecond in the units of a view, 2^-48 ns (R332). -/
def nsUnit : Int := 2 ^ 48

/-- One second in the units of a view. -/
def secUnit : Int := 1000000000 * 2 ^ 48

/-- The mode's code (R52). -/
def modeCode : Mode → Nat
  | .vault => 0
  | .boot => 1
  | .provision => 2
  | .commission => 3
  | .shadow => 4
  | .steer => 5
  | .hold => 6
  | .island => 7
  | .manual => 8
  | .safe => 9
  | .service => 10
  | .dump => 11

/-- The mode of a code; none above 11. -/
def modeOf : Nat → Option Mode
  | 0 => some .vault
  | 1 => some .boot
  | 2 => some .provision
  | 3 => some .commission
  | 4 => some .shadow
  | 5 => some .steer
  | 6 => some .hold
  | 7 => some .island
  | 8 => some .manual
  | 9 => some .safe
  | 10 => some .service
  | 11 => some .dump
  | _ => none

/-- Live: every mode except VAULT and BOOT (R53). -/
def Mode.live (m : Mode) : Bool := decide (m ≠ .vault ∧ m ≠ .boot)

/-- Whether a power domain is powered and awake (R98); PD0 follows VBAT. -/
def pd (s : State) (n : Nat) : Bool := if n = 0 then s.board.vbat else s.pmu.powered.getLsbD n

/-- A bit vector with one bit set, or cleared. -/
def bset {w : Nat} (x : BitVec w) (i : Nat) : BitVec w := x ||| BitVec.ofNat w (2 ^ i)
def bclr {w : Nat} (x : BitVec w) (i : Nat) : BitVec w := x &&& ~~~BitVec.ofNat w (2 ^ i)
def bput {w : Nat} (x : BitVec w) (i : Nat) (b : Bool) : BitVec w := if b then bset x i else bclr x i

/-- The number of a truth value. -/
def bit (b : Bool) : Nat := if b then 1 else 0

/-! ### Time (R332 to R336) -/

/-- The free-running counter. -/
def now (s : State) : Nat := s.tim.counter

/-- A view at a counter value, in units of 2^-48 ns: BASE + (c - C_BASE) x INC (R332). -/
def viewAt (v : View) (c : Nat) : Int := v.base + ((c : Int) - v.cbase) * v.inc

/-- A time value formed by truncation (R333). -/
def tsOf (view : Nat) (valid : Bool) (u : Int) : Ts :=
  { s := (u / secUnit).toNat, ns := (u % secUnit / nsUnit).toNat, frac := (u % nsUnit / 2 ^ 32).toNat,
    view := view, valid := valid }

/-- SERVO and LEGAL time at the present tick. -/
def servo (s : State) : Ts := tsOf 1 s.tim.servo.valid (viewAt s.tim.servo (now s))
def legal (s : State) : Ts := tsOf 0 s.tim.legal.valid (viewAt s.tim.legal (now s))

/-- The front end as it stands, until the present tick. -/
def frontNow (s : State) : Front :=
  { stop := now s, records := s.adc.records, readyM := s.adc.readyM, readyP := s.adc.readyP, refM := s.adc.refM
    refP := s.adc.refP, refin := s.adc.refin, avdd := s.adc.avdd, token := s.sys.token, ownIn := s.board.ownIn
    servo := s.tim.servo }

/-- What the front end stands on is about to change: it is kept for 10 ms, beyond any sample's delay. -/
def noteFront (s : State) : State :=
  { s with adc := { s.adc with
    past := s.adc.past.filter (fun f => decide (now s < f.stop + 10 * tickMs)) ++ [frontNow s] } }

/-- The state with the front end as it stood at an instant: what a sample of that instant is formed from (R100, R107,
R120). -/
def asOf (t : Nat) (s : State) : State := match s.adc.past.find? (fun f => decide (t < f.stop)) with
  | none => s
  | some f => { s with
    adc := { s.adc with
      records := f.records, readyM := f.readyM, readyP := f.readyP, refM := f.refM, refP := f.refP, refin := f.refin
      avdd := f.avdd }
    sys := { s.sys with token := f.token }
    board := { s.board with ownIn := f.ownIn }
    tim := { s.tim with servo := f.servo } }

/-- SERVO time at a counter value. -/
def servoAt (s : State) (c : Nat) : Ts := tsOf 1 s.tim.servo.valid (viewAt s.tim.servo c)

/-- A time value in whole nanoseconds. -/
def tsNs (t : Ts) : Nat := t.s * 1000000000 + t.ns

/-- SERVO and LEGAL time in whole nanoseconds. -/
def servoNs (s : State) : Nat := tsNs (servo s)
def legalNs (s : State) : Nat := tsNs (legal s)

/-- The units of a view that a time value stands for. -/
def tsUnits (t : Ts) : Int := t.s * secUnit + t.ns * nsUnit + t.frac * 2 ^ 32

/-- A time value as its 16 bytes (R54). -/
def tsBytes (t : Ts) : Bytes := le64 t.s ++ le32 t.ns ++ le16 t.frac ++ le 1 t.view ++ le 1 (bit t.valid)

/-- A view with its present value captured as BASE and another increment, continuous at the tick (R332). -/
def rebase (v : View) (c : Nat) (inc : Int) : View := { v with base := viewAt v c, cbase := c, inc := inc }

/-- The increment of a rate in ns per s: 4 x 2^48 x (1 + rate x 10^-9), to the nearest unit (log entry 6). -/
def incOf (rate : Rat) : Int := roundNear ((4 * 2 ^ 48 : Int) * (1 + rate / 1000000000))

/-- UTC seconds of a view's seconds: the view less the UTC offset (R333). -/
def utcSeconds (s : State) (t : Ts) : Int := (t.s : Int) - signed 16 s.tim.utcOffset.toNat

/-- Whether PD1 runs: powered, and not held in reset after a clock loss. -/
def alwaysOn (s : State) : Bool := pd s 1 && !s.pmu.clockLost

/-- Counter ticks that `dt` ticks of real time bring: all while the TIME PLL is locked, ten per 25 MHz cycle while it
is unlocked (R88), none before it first locks (R87). -/
def counted (s : State) (dt : Nat) : Nat :=
  if s.tim.degraded then (s.tim.phase + dt) / 10 * 10
  else if s.pmu.lock.getLsbD 4 then dt else 0

/-- The time views and their counter after `dt` ticks. -/
def elapseTim (s : State) (dt : Nat) : Tim :=
  let c := (s.tim.counter + counted s dt) % 2 ^ 64
  { s.tim with
    counter := c
    phase := if s.tim.degraded then (s.tim.phase + dt) % 10 else 0
    holdS := match s.tim.holdSince with
      | some c0 => (c - c0) / tickS
      | none => s.tim.holdS }

/-- The operating counter after `dt` ticks: seconds during which PD1 has been powered, saturating (R427). -/
def elapseLog (l : Log) (dt : Nat) : Log :=
  { l with opTicks := (l.opTicks + dt) % tickS, opsec := min (l.opsec + (l.opTicks + dt) / tickS) (2 ^ 32 - 1) }

/-- The collector's rate register after the counter has reached `c` (R194). -/
def elapsePts (p : Pts) (c : Nat) : Pts :=
  let second := c / tickS
  if second = p.rateAt then p
  else { p with rateAt := second, rateNow := 0, rateLast := if second = p.rateAt + 1 then p.rateNow else 0 }

/-- The loop engine's evaluations of a second after the counter has reached `c` (R311). -/
def elapseLpe (l : Lpe) (c : Nat) : Lpe :=
  let second := c / tickS
  if second = l.rateAt then l
  else { l with rateAt := second, rateNow := 0, rateLast := if second = l.rateAt + 1 then l.rateNow else 0 }

/-- `dt` ticks of 4 ns pass: what counts by itself between two commands (log entry 2). -/
def State.advance (s : State) (dt : Nat) : State :=
  let r : Rtc := if s.board.vbat then { s.rtc with ticks := s.rtc.ticks + dt } else s.rtc
  if alwaysOn s then
    let t := elapseTim s dt
    { s with
      rtc := r, tim := t, log := elapseLog s.log dt, pts := elapsePts s.pts t.counter
      lpe := elapseLpe s.lpe t.counter
      pmu := { s.pmu with
        fabATicks := if pd s 6 then s.pmu.fabATicks + dt else s.pmu.fabATicks
        fabBTicks := if pd s 7 then s.pmu.fabBTicks + dt else s.pmu.fabBTicks } }
  else { s with rtc := r }

/-- Whether `n` ticks have passed since counter value `c`. -/
def passed (s : State) (c n : Nat) : Bool := decide (c + n ≤ now s)

/-- What comes once every `n` ticks is due: it has not come yet, or `n` ticks have passed since (log entry 2). -/
def everyDue (s : State) (last : Option Nat) (n : Nat) : Bool := match last with
  | none => true
  | some c => passed s c n

/-! ### Free values and what the device emits -/

/-- The state with the free-value number advanced (log entry 1). -/
def tickFree (s : State) (n : Nat) : State := { s with free := s.free + n }

/-- The state with one more thing emitted. -/
def emit (e : Sent) (s : State) : State := { s with sent := s.sent ++ [e] }

/-! ### What goes out on an Ethernet port (R22) -/

/-- The PRP pair that a port belongs to, when the pair is configured for PRP: 0 NET0/NET1, 1 NET2/NET3 (R22). -/
def prpPairOf (s : State) (p : Nat) : Option Nat :=
  if p < 4 ∧ s.net.prpOn.testBit (p / 2) = true then some (p / 2) else none

/-- The MAC and the IP address that a port sends from: its own, or its pair's one (R22; log entry 118). -/
def macOf (s : State) (p : Nat) : BitVec 48 := Config.portMac (((prpPairOf s p).map (2 * ·)).getD p)
def ipOf (s : State) (p : Nat) : Bytes := Config.portIp (((prpPairOf s p).map (2 * ·)).getD p)

/-- The frame of what the device sends on a port: one, or on a PRP pair one on each LAN, with the pair's sequence in
their redundancy control trailers (R22). -/
def sendFrame (p : Nat) (s : State) : State := match prpPairOf s p with
  | none => emit (.lan p (macOf s p) (ipOf s p) none) s
  | some q =>
    let x := tget s.net.prp q {}
    { s with
      sent := s.sent ++ [.lan (2 * q) (macOf s p) (ipOf s p) (some (x.sequence, 0xA)),
                         .lan (2 * q + 1) (macOf s p) (ipOf s p) (some (x.sequence, 0xB))]
      net := { s.net with prp := tset s.net.prp q { x with sequence := x.sequence + 1 } } }

/-! ### Event sources (R451 to R455) -/

/-- Source n is signalling: pending and not masked (R452). -/
def signalling (e : Evt) (n : Nat) : Bool := e.pend.getLsbD n && !e.mask.getLsbD n

/-- At least one signalling source is routed to vector v. -/
def vectorSignalled (e : Evt) (v : Nat) : Bool :=
  e.routes.any (fun r => r.2.ven && decide (r.2.vector.toNat = v) && signalling e r.1)

/-- The hold-off of vector v has run (R454). -/
def heldOff (s : State) (v : Nat) : Bool :=
  let x := tget s.evt.vecs v {}
  match x.cleared with
  | none => true
  | some c => passed s c (x.holdoff.toNat * tickUs)

/-- The conditions of R454 for an event message on vector v, and MSI-X enabled (R455). -/
def messageDue (s : State) (v : Nat) : Bool :=
  s.pcie.linkUp && s.pcie.msix && vectorSignalled s.evt v && s.evt.armed.getLsbD v && heldOff s v

/-- The MSI-X message of a vector, by its table entry (R455). -/
def msixOf (s : State) (v : Nat) : Sent := let x := tget s.pcie.table v (0, 0); .msix v x.1 x.2

/-- An MSI-X message goes out. -/
def sendMsix (v : Nat) (s : State) : State := emit (msixOf s v) s

/-- Posts an MSI-X message on a vector, or sets its Pending Bit while it is masked (R455). -/
def postMsix (v : Nat) (s : State) : State :=
  if s.pcie.functionMask || s.pcie.vmask.getLsbD v then { s with pcie := { s.pcie with pba := bset s.pcie.pba v } }
  else sendMsix v s

/-- An event message on vector v if it is due: ARMED clears and the hold-off starts (R454). -/
def sendMessage (v : Nat) (s : State) : State :=
  if messageDue s v then
    let x := tget s.evt.vecs v {}
    postMsix v { s with evt := { s.evt with
      armed := bclr s.evt.armed v
      vecs := tset s.evt.vecs v { x with msgs := x.msgs + 1, cleared := some (now s) } } }
  else s

/-- The event messages due on any vector. -/
def sendMessages (s : State) : State := (List.range 64).foldl (fun t v => sendMessage v t) s

/-- EVENT_RAISE (R451): sets the pending bit and counts; the routed vector then gets its message if one is due. -/
def raise (n : Nat) (s : State) : State :=
  let r := tget s.evt.routes n {}
  let t := { s with evt := { s.evt with
    pend := bset s.evt.pend n
    routes := tset s.evt.routes n { r with count := r.count + 1 } } }
  if r.ven then sendMessage r.vector.toNat t else t

/-- The event balls asserted: EN and a signalling source routed to them (R453). -/
def ballsAsserted (e : Evt) : Nat :=
  (List.range 8).foldl (fun m b =>
    if e.balls.getLsbD (2 * b) && e.routes.any (fun r => r.2.balls.getLsbD b && signalling e r.1)
    then m + 2 ^ b else m) 0

/-! ### The recorder's intake (R425 to R431) -/

/-- The CYCLE word: the power-cycle count and LEGAL_VALID (R425). -/
def cycleWord (s : State) : Nat := s.log.cycles + (if s.tim.legal.valid then 2 ^ 24 else 0)

/-- A record stamped now (R427); its index is fixed when its write begins. -/
def stamp (s : State) (code subject aux data : Nat) : Record :=
  let l := legal s
  { index := 0, opsec := s.log.opsec, cycle := cycleWord s, code := code, subject := subject % 65536,
    legalS := if l.valid then l.s % 2 ^ 32 else 0, legalNs := if l.valid then l.ns else 0,
    repeats := 0, aux := aux % 65536, data := data % 2 ^ 32 }

/-- The records of the LOST, CLEARED and START kinds (R426). -/
def codeLost : Nat := 0x0100
def codeCleared : Nat := 0x0101
def codeStart : Nat := 0x0102

/-- The FIFO with its first record of a source that is queued and not yet begun changed; none without such a record. -/
def mergeInto (p : Intake → Bool) (f : Record → Record) : List Intake → Option (List Intake)
  | [] => none
  | e :: es =>
    if !e.begun && p e then some ({ e with record := f e.record } :: es)
    else match mergeInto p f es with
      | some t => some (e :: t)
      | none => none

/-- The index that the record at the head of the FIFO takes as its write begins (R428, R433). -/
def takesIndex (l : Log) (e : Intake) : Nat :=
  if !e.partner && decide (l.permanent.length < 2048) then l.permanent.length else l.next

/-- The write of the record at the head begins, unless one has begun or the supervisor is not writing; a partner
record is discarded while the permanent area is not full (R429, R433). -/
def beginWrites : Nat → Log → Log
  | 0, l => l
  | fuel + 1, l => match l.fifo with
    | [] => l
    | e :: es =>
      if !l.running || e.begun then l
      else if e.partner && decide (l.permanent.length < 2048) then
        beginWrites fuel { l with fifo := es, partnerDrop := l.partnerDrop + 1 }
      else { l with fifo := { e with record := { e.record with index := takesIndex l e }, begun := true } :: es }

/-- A record's write begins if it can. -/
def beginWrite (l : Log) : Log := beginWrites (l.fifo.length + 1) l

/-- One report enters the intake: the first row of R430 that applies; whether EV_REC_LOST is raised. -/
def intake (e : Intake) (l : Log) : Log × Bool :=
  if l.fifo.length < 64 then (beginWrite { l with fifo := l.fifo ++ [e] }, false)
  else match mergeInto (fun q => decide (q.record.code = e.record.code ∧ q.record.subject = e.record.subject
        ∧ q.partner = e.partner)) (fun r => { r with repeats := min (r.repeats + 1) 65535 }) l.fifo with
    | some f => ({ l with fifo := f }, false)
    | none => match mergeInto (fun q => decide (q.record.code = codeLost ∧ q.partner = false))
          (fun r => { r with data := (r.data + 1) % 2 ^ 32 }) l.fifo with
      | some f => ({ l with fifo := f, lost := l.lost + 1 }, false)
      | none => ({ l with pendingLost := l.pendingLost + 1, lost := l.lost + 1, flag := true }, !l.flag)

/-- A stamped report goes to the intake. -/
def submit (e : Intake) (s : State) : State :=
  let r := intake e s.log
  let t := { s with log := r.1 }
  if r.2 then raise 120 t else t

/-- A block reports to the recorder: CODE, SUBJECT, AUX, DATA (R425, R430). -/
def report (code subject aux data : Nat) (s : State) : State :=
  submit { record := stamp s code subject aux data, partner := false, begun := false } s

/-- A signed amount in ns as a record's DATA, saturating (R425). -/
def amountData (ns : Int) : Nat := twos 32 (clampI (-2147483648) 2147483647 ns)

/-- A list of changes applied in order. -/
def applyAll {α : Type} (f : α → State → State) (l : List α) (s : State) : State := l.foldl (fun t a => f a t) s

end Sys2Proof.Machine
end

