-- ==== Sys2Proof/Machine/Flags.lean ====
section
/-! DEFINITION. The RW1C flags of every block: raising one, which raises its event source when the flag goes from 0 to
1 (R450), and clearing them by a host write. -/

namespace Sys2Proof.Machine

/-- ADC_FLAGS bits raise EV_ADC_OVERRANGE (16) to EV_INJ_DELAYED (20) (R124). -/
def adcFlag (b : Nat) (s : State) : State :=
  if s.adc.flags.getLsbD b then s else raise (16 + b) { s with adc := { s.adc with flags := bset s.adc.flags b } }

/-- The event source of a bit of MTR_FLAGS (R165, R166). -/
def mtrEvent : Nat → Nat
  | 1 => 24
  | 2 => 26
  | 3 => 27
  | 4 => 29
  | 5 => 30
  | 6 => 31
  | _ => 25

/-- A bit of MTR_FLAGS is raised. -/
def mtrFlag (b : Nat) (s : State) : State :=
  if s.mtr.flags.getLsbD b then s else raise (mtrEvent b) { s with mtr := { s.mtr with flags := bset s.mtr.flags b } }

/-- The event source of a bit of PTS_FLAGS (R193, R194). -/
def ptsEvent : Nat → Nat
  | 0 => 36
  | 1 => 32
  | 2 => 33
  | 3 => 34
  | _ => 35

/-- A bit of PTS_FLAGS is raised. -/
def ptsFlag (b : Nat) (s : State) : State :=
  if s.pts.flags.getLsbD b then s else raise (ptsEvent b) { s with pts := { s.pts with flags := bset s.pts.flags b } }

/-- The event source of a bit of TIM_FLAGS; DEGRADED raises none (R350, R351). -/
def timEvent : Nat → Option Nat
  | 0 => some 88
  | 1 => some 89
  | 2 => some 90
  | 3 => some 91
  | 4 => some 92
  | _ => none

/-- A bit of TIM_FLAGS is raised. -/
def timFlag (b : Nat) (s : State) : State :=
  if s.tim.flags.getLsbD b then s
  else
    let t := { s with tim := { s.tim with flags := bset s.tim.flags b } }
    match timEvent b with
    | some e => raise e t
    | none => t

/-- A bit of PMU_FLAGS is set without its event. -/
def pmuSet (b : Nat) (s : State) : State := { s with pmu := { s.pmu with flags := bset s.pmu.flags b } }

/-- A bit of PMU_FLAGS is raised with its event source, when it goes from 0 to 1 (R450). -/
def pmuFlag (b event : Nat) (s : State) : State := if s.pmu.flags.getLsbD b then s else raise event (pmuSet b s)

/-- DMP_FLAGS: READY raises EV_DMP_READY (125), SHORT raises EV_DMP_SHORT (126) (R445). -/
def dmpFlag (b : Nat) (s : State) : State :=
  if s.dmp.flags.getLsbD b then s else raise (125 + b) { s with dmp := { s.dmp with flags := bset s.dmp.flags b } }

/-- A bit of CMD_ERR is set (R48). -/
def cmdErr (b : Nat) (s : State) : State := { s with vcp := { s.vcp with err := bset s.vcp.err b } }

/-- An RW1C field after a host write: written ones clear, but for a flag raised in the same cycle (R450). -/
def rw1c {w : Nat} (x : BitVec w) (v raised : Word) : BitVec w :=
  (x &&& ~~~v.setWidth w) ||| (x &&& raised.setWidth w)

end Sys2Proof.Machine
end

