-- ==== Sys2Proof/Machine/Operands.lean ====
section
/-! DEFINITION. The operand forms of a command: its status codes, what an opcode's body sees and answers, the mode
sets, the payload fields. -/

namespace Sys2Proof.Machine

/-! ### Status codes (R56) -/

def stOk : Half := 0x0000
def stBadCrc : Half := 0x0101
def stBadMagic : Half := 0x0102
def stBadVersion : Half := 0x0103
def stBadHeader : Half := 0x0104
def stTooLong : Half := 0x0105
def stLength : Half := 0x0106
def stCount : Half := 0x0107
def stBadOpcode : Half := 0x0108
def stSeqStale : Half := 0x0109
def stBadDma : Half := 0x010A
def stRspSpace : Half := 0x010B
def stNoSession : Half := 0x0201
def stSessionsFull : Half := 0x0202
def stAuth : Half := 0x0203
def stRole : Half := 0x0204
def stMode : Half := 0x0205
def stTransition : Half := 0x0206
def stTooMany : Half := 0x0207
def stBusy : Half := 0x0208
def stOwnerLock : Half := 0x0209
def stLifecycle : Half := 0x020A
def stNotReady : Half := 0x020B
def stOutOfRange : Half := 0x0301
def stNotFound : Half := 0x0302
def stNoSpace : Half := 0x0303
def stNoSlot : Half := 0x0304
def stReadCount : Half := 0x0305
def stDeltaCount : Half := 0x0306
def stSectionSize : Half := 0x0307
def stDlc : Half := 0x0308
def stStructure : Half := 0x0309
def stLegalLocked : Half := 0x030A
def stSensorIdentity : Half := 0x030B
def stTripActive : Half := 0x030C
def stConverged : Half := 0x0401
def stDeadlineBetween : Half := 0x0402
def stDeadlineInFactor : Half := 0x0403
def stIterLimit : Half := 0x0404
def stInfeasible : Half := 0x0405
def stNumeric : Half := 0x0406
def stAborted : Half := 0x0407
def stNoLineage : Half := 0x0408
def stRunning : Half := 0x0409
def stNoAck : Half := 0x0501
def stCancelLate : Half := 0x0502
def stBusOff : Half := 0x0503
def stKeyRevoked : Half := 0x0601
def stKeyPolicy : Half := 0x0602
def stDestroyVerify : Half := 0x0603
def stSignature : Half := 0x0604
def stSecurityVersion : Half := 0x0605
def stStaged : Half := 0x0606
def stIncomplete : Half := 0x0607
def stVbatLow : Half := 0x0608
def stTransientHold : Half := 0x0609
def stPartner : Half := 0x060A
def stCfgInvalid : Half := 0x060B
def stInternal : Half := 0x0F01
def stTimeout : Half := 0x0F02
/-! ### What a body sees and answers -/

/-- What the body of an opcode sees of a command that has passed steps 1 to 11 of R33. -/
structure Call where
  /-- the request payload; with DMA_IN the bytes fetched, with DMA_OUT the request fields -/
  payload : Bytes
  /-- the payload limit by which step 13 judges read counts (R35) -/
  limit : Nat
  /-- the response payload bytes that step 14 allows -/
  cap : Nat
  dmaOut : Bool
  transport : Transport
  assoc : Nat
  seq : Word
  sid : Word
  role : Nat
  credential : Word
  /-- the packet fields its response goes back with, where the body answers later -/
  tag : Word
  rspBuf : Nat
  rspAddr : Dword := 0
  sqHead : Nat := 0
  flags : Byte
  /-- with DMA_OUT the entries of the descriptor: host address and bytes (R36) -/
  out : List (Dword × Nat) := []
  /-- the body applies a record of a configuration copy, not a command (R417) -/
  config : Bool
deriving DecidableEq, Repr

/-- What a body answers. -/
inductive Reply where
  /-- executed: ST_OK and the response payload -/
  | ok (data : Bytes)
  /-- refused by a check of steps 12 to 16: no trace but the response (R33) -/
  | refuse (st : Half)
  /-- executed, with a status other than ST_OK -/
  | fail (st : Half)
  /-- refused with ST_BUSY and the holder's 12 bytes (R41) -/
  | busy (holder : Bytes)
  /-- executing: the response posts later -/
  | later
deriving DecidableEq, Repr

/-- A body: the effect of an opcode and what it answers. -/
abbrev Body := Call → State → State × Reply

/-- A refusal of the body: the state as it was. -/
def no (st : Half) (s : State) : State × Reply := (s, .refuse st)

/-- Success with a response payload. -/
def yes (data : Bytes) (s : State) : State × Reply := (s, .ok data)

/-- The row of an opcode (R54): its code, role (none for the session openers), modes, and the bytes of its request
fields, which stand before the descriptor with DMA_OUT (R36). -/
structure OpRow where
  code : Nat
  role : Option Nat
  modes : Mode → Bool
  fields : Bytes → Nat

/-! ### Mode sets (R53) -/

/-- Any: every mode except VAULT. -/
def mAny (m : Mode) : Bool := decide (m ≠ .vault)
/-- Live: Any except BOOT. -/
def mLive (m : Mode) : Bool := decide (m ≠ .vault ∧ m ≠ .boot)
/-- Ops: STEER, HOLD, ISLAND, MANUAL. -/
def mOps (m : Mode) : Bool := decide (m = .steer ∨ m = .hold ∨ m = .island ∨ m = .manual)
/-- Cfg: COMMISSION, SERVICE. -/
def mCfg (m : Mode) : Bool := decide (m = .commission ∨ m = .service)
/-- Run: COMMISSION, SHADOW, STEER, HOLD, ISLAND, MANUAL, SAFE, SERVICE. -/
def mRun (m : Mode) : Bool := mOps m || mCfg m || decide (m = .shadow ∨ m = .safe)
/-- Sets joined (R53). -/
def mCfgOps (m : Mode) : Bool := mCfg m || mOps m
def mUpdate (m : Mode) : Bool := mOps m || decide (m = .shadow ∨ m = .service)

/-- A request of a fixed size. -/
def fixed (n : Nat) : Bytes → Nat := fun _ => n

/-! ### Payload fields -/

/-- A u16, u32 or u64 field of the payload as a word. -/
def w16 (b : Bytes) (o : Nat) : Half := BitVec.ofNat 16 (u16 b o)
def w32 (b : Bytes) (o : Nat) : Word := BitVec.ofNat 32 (u32 b o)
def w64 (b : Bytes) (o : Nat) : Dword := BitVec.ofNat 64 (u64 b o)

/-- A ts field (R54). -/
def tsField (b : Bytes) (o : Nat) : Ts :=
  { s := u64 b o, ns := u32 b (o + 8), frac := u16 b (o + 12), view := u8 b (o + 14), valid := decide (u8 b (o + 15) = 1) }

/-- `n` records of `size` bytes from an offset on. -/
def rowsOf (b : Bytes) (o size : Nat) : Nat → List Bytes
  | 0 => []
  | n + 1 => slice b o size :: rowsOf b (o + size) size n

/-- A binary32 field as response bytes. -/
def f32Bytes (x : Word) : Bytes := le32 x.toNat

/-! ### Blocks and functions that a command addresses (R44, R55, R79) -/

/-- The functions, each with its instance, that an opcode addresses with a request (R79; log entry 84): SLV_ work its
partition's reach microcode, LPE_, MTR_, CAN_, PTS_ and PAIR_ commands their block's function, TIM_PTP_SET its port. -/
def addressed (code : Nat) (b : Bytes) : List (Nat × Nat) :=
  if code = 0x0020 then [(u16 b 0, u16 b 2)]
  else if code = 0x0602 then [(1, u8 b 0)]
  else if code = 0x0606 then [(1, 0xFFFF)]
  else if code = 0x0A03 then [(8, u8 b 0)]
  else match code / 256 with
    | 3 => [(3, 0)]
    | 4 => [(6, 0)]
    | 7 => [(2, 0)]
    | 9 => [(4, u8 b 0)]
    | 11 => [(7, 0)]
    | _ => []

/-- Two instances of a function meet: the same, or 0xFFFF for both partitions (R55). -/
def sameUnit (f i j : Nat) : Bool := decide (i = j ∨ (f = 1 ∧ (i = 0xFFFF ∨ j = 0xFFFF)))

/-- A function's instance is re-initialising (R55). -/
def reinitRuns (s : State) (f i : Nat) : Bool := s.sys.reinit.any (fun x => decide (x.func = f) && sameUnit f x.unit i)

/-- A command addresses a function that is re-initialising: ST_NOT_READY (R45, R55, R79). -/
def notReady (code : Nat) (b : Bytes) (s : State) : Bool := (addressed code b).any (fun x => reinitRuns s x.1 x.2)

/-- The block a command addresses, by the first byte of its opcode; FUNC_REINIT that of its function (R44, R55). -/
def blockOf (code : Nat) (b : Bytes) : Nat :=
  if code = 0x0020 then match u16 b 0 with
    | 1 => 6
    | 2 => 7
    | 3 => 3
    | 4 => 9
    | 6 => 4
    | 7 => 11
    | 8 => 10
    | _ => 0
  else code / 256

/-- A command waits behind another of its block: one that has not answered, or one that itself waits (R44). A
re-initialisation holds nothing behind it (R55). -/
def mustWait (code : Nat) (b : Bytes) (s : State) : Bool :=
  let k := blockOf code b
  k ≠ 0 && (s.vcp.deferred.any (fun d => decide (d.opcode ≠ 0x0020 ∧ d.opcode.toNat / 256 = k))
    || s.vcp.held.any (fun h => decide (blockOf h.code h.cmd.payload = k)))

/-- A signed Q1.31 value as response bytes. -/
def q31Bytes (x : Int) : Bytes := le32 (twos 32 x)

end Sys2Proof.Machine
end

