-- ==== Sys2Proof/Machine/Accept.lean ====
section
/-! DEFINITION. The acceptance of a VCP command: the checks of R33 in their order, sequence numbers (R42), the DMA
descriptor (R36), and the response. -/

namespace Sys2Proof.Machine

/-- The firmware serves a transport: SPI from step 5 of R73 in every mode except VAULT, PCIe and UDP from the end of
BOOT; after a short summary nothing is served (R51, R441). -/
def served (t : Transport) (s : State) : Bool :=
  !s.sys.stopped && decide (s.sys.mode ≠ .vault) && s.sys.started && pd s 5 &&
  match t with
  | .spi => true
  | .pcie => s.vcp.ready && s.pcie.linkUp && s.pcie.enumerated
  | .udp => s.vcp.ready && pd s 8

/-- The opcodes served on SPI while start-up has failed (R74). -/
def servedInFailure (code : Nat) : Bool :=
  decide (code = 0x0001 ∨ code = 0x0002 ∨ code = 0x0010 ∨ code = 0x0011 ∨ code = 0x0D07)

/-- Step 10 of R33: the present mode is among the opcode's; in BOOT over SPI only (R53), and after a failed start-up
only the opcodes of R74. -/
def modeAccepted (o : OpRow) (t : Transport) (s : State) : Bool :=
  o.modes s.sys.mode && (decide (s.sys.mode ≠ .boot) ||
    (decide (t = .spi) && (decide (s.sys.bootFail = 0) || servedInFailure o.code)))

/-- An open session of a transport (step 5 of R33); a UDP session belongs to its association (R49). -/
def sessionOf (s : State) (t : Transport) (assoc : Nat) (sid : Word) : Option Session :=
  s.vcp.sessions.find? (fun x => decide (x.sid = sid ∧ x.transport = t ∧ (t ≠ .udp ∨ x.assoc = assoc)))

/-- What step 6 of R33 makes of a sequence (R42). -/
inductive SeqVerdict where
  | newer
  | late
  | cached (r : Cached)
  | executing
  | stale
deriving DecidableEq, Repr

/-- The table of R42, for d = (s - H) mod 2^32. -/
def seqVerdict (x : Session) (seq : Word) : SeqVerdict :=
  let d := (seq - x.high).toNat
  if 1 ≤ d ∧ d < 2 ^ 31 then .newer
  else if d = 0 ∨ 2 ^ 32 - 63 ≤ d then
    if x.seen.getLsbD ((2 ^ 32 - d) % 2 ^ 32) then
      match x.cached.find? (fun r => decide (r.seq = seq)) with
      | some r => .cached r
      | none => .executing
    else .late
  else .stale

/-- A session after it accepts a sequence: H and the record of H - 63 to H (R42); responses out of it are dropped. -/
def acceptSeq (x : Session) (seq : Word) : Session :=
  let d := (seq - x.high).toNat
  if 1 ≤ d ∧ d < 2 ^ 31 then
    { x with
      high := seq
      seen := (if d < 64 then x.seen <<< d else 0) ||| 1
      cached := x.cached.filter (fun r => decide ((seq - r.seq).toNat < 64))
      outstanding := x.outstanding ++ [seq] }
  else { x with seen := bset x.seen ((2 ^ 32 - d) % 2 ^ 32), outstanding := x.outstanding ++ [seq] }

/-- The entries of a descriptor: host address and bytes (R36). -/
def descriptorEntries (d : Bytes) : List (Dword × Nat) := (rowsOf d 8 16 (u16 d 0)).map (fun e => (w64 e 0, u32 e 8))

/-- The descriptor of R36: its status when it is refused, and TOTAL_BYTES. -/
def descriptor (d : Bytes) : Half × Nat :=
  let n := u16 d 0
  let total := u32 d 4
  if d.length < 8 then (stBadDma, 0)
  else if n = 0 ∨ 256 < n then (stCount, 0)
  else
    let es := rowsOf d 8 16 n
    if d.length ≠ 8 + 16 * n then (stBadDma, 0)
    else if es.any (fun e => decide (u64 e 0 % 64 ≠ 0)) then (stBadDma, 0)
    else if (es.dropLast).any (fun e => decide (u32 e 8 % 64 ≠ 0)) then (stBadDma, 0)
    else if total = 0 ∨ 268435456 < total ∨ total ≠ es.foldl (fun a e => a + u32 e 8) 0 then (stBadDma, 0)
    else (stOk, total)

/-- The payload limit of a transport (R35, R50). A UDP command that names no session (SES_CHALLENGE, SES_OPEN) has no
MAX_PAYLOAD: the model takes the largest there is, 8,176 (DESIGN CHOICE, log entry 110). -/
def transportLimit (t : Transport) (x : Option Session) : Nat :=
  match t with
  | .udp => match x with
    | some y => y.maxPayload
    | none => 8176
  | _ => 16384

/-- The bits of the flags byte (R31). -/
def flagDmaIn (f : Byte) : Bool := f.getLsbD 1
def flagDmaOut (f : Byte) : Bool := f.getLsbD 2

/-- Step 3 of R33: no reserved flag, RESP or DUP, not both DMA flags, and none outside PCIe. -/
def flagsOk (t : Transport) (f : Byte) : Bool :=
  decide (f &&& 0xF9 = 0) && !(flagDmaIn f && flagDmaOut f) &&
    (decide (t = .pcie) || (!flagDmaIn f && !flagDmaOut f))

/-- What the acceptance checks make of a command. -/
inductive Verdict where
  /-- discarded without a response -/
  | drop
  /-- refused with a status -/
  | refuse (st : Half)
  /-- a cached response goes again with DUP set -/
  | again (r : Cached)
  /-- goes on to its body -/
  | run (call : Call)
  /-- goes on to its body with a PCIe response buffer that holds no response packet -/
  | tight (call : Call)
  /-- waits behind another command of its block -/
  | wait
deriving DecidableEq, Repr

/-- A PCIe response buffer too small for the smallest packet that can answer: header, status word and trailer, and the
u32 of DMA_OUT. What steps 12 and 13 refuse is refused there; the rest is ST_RSP_SPACE at step 14 (R33, R35). -/
def withRoom (c : Cmd) (least : Nat) (call : Call) : Verdict :=
  if decide (c.transport = .pcie ∧ c.rspBuf < least) then .tight call else .run call

/-- Step 11 of R33, and the call that the body sees. -/
def callOf (o : OpRow) (c : Cmd) (x : Option Session) : Verdict :=
  let limit := transportLimit c.transport x
  let small := match c.transport with
    | .pcie => min 16384 (c.rspBuf - 24)
    | _ => limit
  let call : Call :=
    { payload := c.payload, limit := limit, cap := small, dmaOut := false, transport := c.transport, assoc := c.assoc,
      seq := c.seq, sid := (x.map (·.sid)).getD 0, role := (x.map (·.role)).getD 0,
      credential := (x.map (·.credential)).getD 0, tag := c.tag, rspBuf := c.rspBuf
      rspAddr := c.rspAddr, sqHead := c.sqHead, flags := c.flags, config := false }
  if flagDmaIn c.flags then
    let d := descriptor c.payload
    if d.1 ≠ stOk then .refuse d.1
    else match c.host with
      | none => .refuse stBadDma
      | some h => if h.length < d.2 then .refuse stBadDma else withRoom c 24 { call with payload := h.take d.2 }
  else if flagDmaOut c.flags then
    let n := o.fields c.payload
    let d := descriptor (c.payload.drop n)
    if d.1 ≠ stOk then .refuse d.1
    else withRoom c 28 { call with
      payload := c.payload.take n, limit := 268435456, cap := d.2, dmaOut := true
      out := descriptorEntries (c.payload.drop n) }
  else withRoom c 24 call

/-- A command addressed to a function that re-initialises ends as its descriptor has passed (R55; log entry 84). -/
def unlessReinit (code : Nat) (v : Verdict) (s : State) : Verdict := match v with
  | .run call => if notReady code call.payload s then .refuse stNotReady else .run call
  | .tight call => if notReady code call.payload s then .refuse stNotReady else .tight call
  | _ => v

/-- Steps 8 to 10 of R33: the status that refuses. -/
def rightsStatus (o : OpRow) (c : Cmd) (x : Option Session) (s : State) : Half :=
  if decide ((x.map (·.role)).getD 0 < o.role.getD 0) then stRole
  else if !modeAccepted o c.transport s then stMode
  else stOk

/-- Steps 8 to 11 of R33. -/
def laterChecks (o : OpRow) (c : Cmd) (x : Option Session) (s : State) : Verdict :=
  if rightsStatus o c x s ≠ stOk then .refuse (rightsStatus o c x s) else unlessReinit o.code (callOf o c x) s

/-- What steps 3 to 7 of R33 make of a command: an end, or the session it goes on with (none for a session opener). -/
inductive Early where
  | done (v : Verdict)
  | go (x : Option Session)
deriving DecidableEq, Repr

/-- Steps 3 to 7 of R33; `opener` for SES_CHALLENGE and SES_OPEN (R34). -/
def earlyChecks (opener : Bool) (c : Cmd) (s : State) : Early :=
  let x := sessionOf s c.transport c.assoc c.sid
  if !served c.transport s then .done .drop
  else if decide (c.transport = .udp) && (tfind s.vcp.assocs c.assoc).isNone then .done .drop
  else if !flagsOk c.transport c.flags then .done (.refuse stBadHeader)
  else if transportLimit c.transport x < c.payload.length then .done (.refuse stTooLong)
  else if c.sid = 0 then (if opener then .go none else .done (.refuse stNoSession))
  else match x with
    | none => .done (.refuse stNoSession)
    | some y => match seqVerdict y c.seq with
      | .stale => .done (.refuse stSeqStale)
      | .cached r => .done (.again r)
      | .executing => .done .drop
      | _ =>
        let waits := s.vcp.held.filter (fun h => decide (h.cmd.sid = c.sid))
        if waits.any (fun h => decide (h.cmd.seq = c.seq)) then .done .drop
        else if 32 ≤ y.outstanding.length + waits.length then .done (.refuse stTooMany)
        else .go x

/-- Steps 3 to 11 of R33 for a command whose opcode is assigned; one that passes step 10 may have to wait (R44). -/
def acceptance (o : OpRow) (c : Cmd) (s : State) : Verdict := match earlyChecks o.role.isNone c s with
  | .done v => v
  | .go x => if rightsStatus o c x s = stOk ∧ mustWait o.code c.payload s = true then .wait else laterChecks o c x s

/-- The sessions with one changed. -/
def updSession (sid : Word) (f : Session → Session) (s : State) : State :=
  { s with vcp := { s.vcp with sessions := s.vcp.sessions.map (fun x => if x.sid = sid then f x else x) } }

/-- A completion entry goes to the ring's completion queue and its vector, with the submission-queue head after the
command's own entry (R47, R48). -/
def complete (ring : Nat) (tag : Word) (st : Half) (bytes head : Nat) (s : State) : State :=
  let r := tget s.vcp.rings ring {}
  let t := (r.cqt + 1) % 2 ^ r.cqLog
  let s1 := emit (.completion ring tag st r.phase bytes head) { s with vcp := { s.vcp with
    rings := tset s.vcp.rings ring { r with cqt := t, phase := if t = 0 then !r.phase else r.phase } } }
  if s1.pcie.msix then postMsix r.vector s1 else s1

/-- A command of the ring waits for its response, or no longer does; EN written 0 takes effect with the last (R48). -/
def ringWaits (ring : Nat) (s : State) : State :=
  let r := tget s.vcp.rings ring {}
  { s with vcp := { s.vcp with rings := tset s.vcp.rings ring { r with waiting := r.waiting + 1 } } }
def ringDone (ring : Nat) (s : State) : State :=
  let r := tget s.vcp.rings ring {}
  let last := r.closing && decide (r.waiting ≤ 1)
  let x := { r with waiting := r.waiting - 1, en := r.en && !last, closing := r.closing && !last }
  { s with vcp := { s.vcp with rings := tset s.vcp.rings ring x } }

/-- The bytes of a response packet before its trailer (R29, R30). -/
def packetHead (seq sid : Word) (opcode : Nat) (flags : Byte) (st : Half) (data : Bytes) : Bytes :=
  le16 0x5A56 ++ [0x01, flags] ++ le32 seq.toNat ++ le16 opcode ++ le16 data.length ++ le32 sid.toNat
    ++ le16 st.toNat ++ [0, 0] ++ data

/-- The trailer that a response packet carries itself: CRC-32C on PCIe and SPI (R32). -/
def packetTrailer (t : Transport) (seq sid : Word) (opcode : Nat) (flags : Byte) (st : Half) (data : Bytes) : Bytes :=
  match t with
  | .udp => []
  | _ => le32 (crc32c (packetHead seq sid opcode flags st data)).toNat

/-- A record sent on an association: after 2^24 records the device updates its key (R49; log entry 112). -/
def countRecord (assoc : Nat) (s : State) : State := match tfind s.vcp.assocs assoc with
  | none => s
  | some a =>
    if a.records + 1 < 2 ^ 24 then
      { s with vcp := { s.vcp with assocs := tset s.vcp.assocs assoc { a with records := a.records + 1 } } }
    else emit (.keyUpdate assoc)
      { s with vcp := { s.vcp with assocs := tset s.vcp.assocs assoc { a with records := 0, keyOut := a.keyOut + 1 } } }

/-- Where a response goes: transport, association or ring, tag, response buffer, and the submission-queue head after
the command's entry (R47). -/
structure Return where
  transport : Transport
  assoc : Nat := 0
  tag : Word := 0
  address : Dword := 0
  head : Nat := 0
deriving DecidableEq, Repr

/-- Posts a response over its transport (R30, R32, R47, R51). A PCIe response buffer too small even for a refusal's 24
bytes gets the refusal all the same, and its completion counts 24 (DESIGN CHOICE, log entry 111). -/
def post (w : Return) (seq sid : Word) (opcode : Nat) (flags : Byte) (st : Half) (data : Bytes) (s : State) : State :=
  let trailer := packetTrailer w.transport seq sid opcode flags st data
  let s1 := emit (.response w.transport w.assoc seq sid (BitVec.ofNat 16 opcode) flags st data trailer w.address) s
  match w.transport with
  | .udp => sendFrame ((tfind s1.vcp.assocs w.assoc).map (·.port) |>.getD 0) (countRecord w.assoc s1)
  | .spi => { s1 with vcp := { s1.vcp with
      spiBusy := false, spiRsp := some (packetHead seq sid opcode flags st data ++ trailer) } }
  | .pcie => complete w.assoc w.tag st (data.length + 24) w.head s1

/-- Flags of a response: RESP, the DMA bits copied, DUP for a cached copy (R31). -/
def rspFlags (f : Byte) (dup : Bool) : Byte := 1 ||| (f &&& 6) ||| (if dup then 8 else 0)

/-- Where a command's response goes. -/
def returnOf (c : Cmd) : Return :=
  { transport := c.transport, assoc := c.assoc, tag := c.tag, address := c.rspAddr, head := c.sqHead }

/-- A response for a command. Its header has the command's own session field, so that of SES_OPEN reads 0 as the
command's did (DESIGN CHOICE, log entry 113). -/
def respond (o : OpRow) (c : Cmd) (dup : Bool) (st : Half) (data : Bytes) (s : State) : State :=
  post (returnOf c) c.seq c.sid o.code (rspFlags c.flags dup) st data s

/-- A cached response goes again with DUP set, as it was cached (R42); one that the copy's PCIe response buffer does not
hold is ST_RSP_SPACE (log entry 114). -/
def respondAgain (c : Cmd) (r : Cached) (s : State) : State :=
  if decide (c.transport = .pcie ∧ c.rspBuf < r.payload.length + 24) then
    post (returnOf c) c.seq c.sid r.opcode.toNat (rspFlags c.flags false) stRspSpace [] s
  else post (returnOf c) c.seq c.sid r.opcode.toNat r.flags r.status r.payload s

/-- The session's record of a command answered: no longer outstanding, its response cached (R42). -/
def settle (o : OpRow) (c : Cmd) (st : Half) (data : Bytes) (s : State) : State :=
  updSession c.sid (fun x => { x with
    outstanding := x.outstanding.filter (fun q => decide (q ≠ c.seq))
    cached := x.cached ++ [{ seq := c.seq, opcode := BitVec.ofNat 16 o.code, flags := rspFlags c.flags true,
                             status := st, payload := data }] }) s

/-- Contact with the control room: an accepted command of role OPERATOR or higher on PCIe or UDP (R66). -/
def contactBy (call : Call) (s : State) : State :=
  if decide (1 ≤ call.role ∧ call.transport ≠ .spi) then { s with sys := { s.sys with contact := some (now s) } } else s

/-- The state in which a body runs: the sequence accepted, the contact timer restarted. -/
def enter (call : Call) (s : State) : State :=
  contactBy call (updSession call.sid (fun x => acceptSeq x call.seq) s)

/-- The session's idle timer restarts at a command that names it (R40, log entry 12). -/
def touch (c : Cmd) (s : State) : State :=
  if (sessionOf s c.transport c.assoc c.sid).isSome then updSession c.sid (fun x => { x with last := now s }) s else s

/-- A response payload as its packet carries it: with DMA_OUT the bytes written (R36). -/
def carried (call : Call) (data : Bytes) : Bytes := if call.dmaOut then le32 data.length else data

/-- Data laid into the entries of a descriptor in their order: the writes to host memory (R36). -/
def scatter : List (Dword × Nat) → Bytes → List Sent
  | [], _ => []
  | _, [] => []
  | e :: es, data => .hostWrite e.1 (data.take e.2) :: scatter es (data.drop e.2)

/-- Response data written to host memory with DMA_OUT (R36). -/
def written (call : Call) (data : Bytes) (s : State) : State :=
  if call.dmaOut then { s with sent := s.sent ++ scatter call.out data } else s

/-- A command that has passed steps 1 to 11 runs its body, and its response posts. -/
def runBody (o : OpRow) (body : Body) (c : Cmd) (call : Call) (s : State) : State :=
  let r := body call (enter call s)
  match r.2 with
  | .refuse st => respond o c false st [] s
  | .busy holder => respond o c false stBusy holder s
  | .fail st => settle o c st [] (respond o c false st [] r.1)
  | .later => if c.transport = .pcie then ringWaits c.assoc r.1 else r.1
  | .ok data =>
    if call.cap < data.length then respond o c false stRspSpace [] s
    else settle o c stOk (carried call data) (respond o c false stOk (carried call data) (written call data r.1))

/-- A status of step 12 or 13 of R33: the payload's size, or a count field. -/
def sizeStatus (st : Half) : Bool :=
  decide (st = stLength ∨ st = stCount ∨ st = stDeltaCount ∨ st = stReadCount ∨ st = stDlc)

/-- A command whose response buffer holds no response: what steps 12 and 13 refuse, and ST_RSP_SPACE (R33, R35). -/
def refuseTight (o : OpRow) (body : Body) (c : Cmd) (call : Call) (s : State) : State :=
  match (body call (enter call s)).2 with
  | .refuse st => respond o c false (if sizeStatus st then st else stRspSpace) [] s
  | _ => respond o c false stRspSpace [] s

/-- A command joins those that wait behind another of their block (R44). -/
def holdCommand (code : Nat) (c : Cmd) (s : State) : State :=
  let t := touch c s
  let u := { t with vcp := { t.vcp with held := t.vcp.held ++ [{ code := code, cmd := c }] } }
  if c.transport = .pcie then ringWaits c.assoc u else u

/-- What a verdict of the acceptance checks does. -/
def conclude (o : OpRow) (body : Body) (c : Cmd) (v : Verdict) (s : State) : State := match v with
  | .drop => s
  | .refuse st => respond o c false st [] (touch c s)
  | .again r => respondAgain c r (touch c s)
  | .run call => runBody o body c call (touch c s)
  | .wait => holdCommand o.code c s
  | .tight call => refuseTight o body c call (touch c s)

/-- A VCP command: the checks of R33, the body, the response. -/
def runCommand (o : OpRow) (body : Body) (c : Cmd) (s : State) : State :=
  conclude o body c (acceptance o c s) s

/-- A held command's turn: the checks from step 8 on are made again, and it runs; one whose session has closed has gone
with it (R33, R40, R44). -/
def runHeld (o : OpRow) (body : Body) (c : Cmd) (s : State) : State :=
  let t := if c.transport = .pcie then ringDone c.assoc s else s
  match sessionOf t c.transport c.assoc c.sid with
  | none => t
  | some x => conclude o body c (laterChecks o c (some x) t) t

end Sys2Proof.Machine
end

