-- ==== Sys2Proof/Machine/KeyOps.lean ====
section
/-! DEFINITION. The key tree: slots, roots, uses, revocation and the journal's write (R372 to R390). -/

namespace Sys2Proof.Machine

/-- The life-cycle code of a fuse count (R372, R373): 0 BLANK, 1 FACTORY, 2 SHIPPED, 3 OWNED, 4 RETURNED, 5 SCRAPPED. -/
def lifeOf (n : Nat) : Nat := if n < 2 then n else if 13 < n then 5 else (n - 2) % 3 + 2

/-- The life-cycle state. -/
def lifecycle (s : State) : Nat := lifeOf s.key.fuses

/-- KEY_LC.RESHIP (R373). -/
def reships (s : State) : Nat := if 2 ≤ s.key.fuses ∧ s.key.fuses ≤ 13 then (s.key.fuses - 2) / 3 else 0

/-- The root feeding the tree (R372). -/
def rootSecret (s : State) : Option Bytes := match lifecycle s with
  | 1 => some Config.factoryRoot
  | 2 => some Config.factoryRoot
  | 3 => s.key.root
  | 4 => some Config.diagRoot
  | _ => none

/-- The policies of R384. -/
def polDerive : Nat := 1
def polWrap : Nat := 2
def polMeter : Nat := 4
def polBraid : Nat := 8

/-- A slot as a command sees it; slot 0 is the root (R382, R383). -/
def keySlot (s : State) (n : Nat) : KeySlot :=
  if n = 0 then
    match rootSecret s with
    | some r => { parent := 0xFF, state := 5, policy := polDerive, secret := r }
    | none => {}
  else tget s.key.slots n {}

/-- A slot's ferroelectric record. -/
def keyRecord (s : State) (n : Nat) : KeyRecord := tget s.key.records n {}

/-- A slot's generation; slot 0 bears the root generation (R382). -/
def keyGen (s : State) (n : Nat) : Nat := if n = 0 then s.key.rootGen else (keyRecord s n).generation

/-- A bit of KEY_FLAGS is raised: events 104 to 109 (R394). -/
def keyFlag (b : Nat) (s : State) : State :=
  if s.key.flags.getLsbD b then s else raise (104 + b) { s with key := { s.key with flags := bset s.key.flags b } }

/-- An operation of a slot completes (R383); slot 0's are the derivations from the root (log entry 107). -/
def countUse (n : Nat) (s : State) : State :=
  { s with key := { s.key with records := tmod s.key.records n {} (fun r => { r with uses := r.uses + 1 }) } }

/-- The slots above a slot, itself first, up to the root or to a slot that is EMPTY. -/
def ancestry (s : State) : Nat → Nat → List Nat
  | 0, _ => []
  | fuel + 1, n => if n = 0 ∨ (keySlot s n).state = 0 then [n] else n :: ancestry s fuel (keySlot s n).parent

/-- A slot's depth: a child of slot 0 has 1 (R383). -/
def keyDepth (s : State) (n : Nat) : Nat := (ancestry s 6 n).length - 1

/-- `d` lies below `n` in the tree. -/
def isBelow (s : State) (n d : Nat) : Bool := decide (d ≠ n) && (ancestry s 6 d).any (fun a => decide (a = n))

/-- The slots below a slot. -/
def descendants (s : State) (n : Nat) : List Nat :=
  (s.key.slots.filter (fun e => decide (e.2.state ≠ 0) && isBelow s n e.1)).map (·.1)

/-- A slot's metadata written in vault SRAM and in its ferroelectric record. -/
def setSlotState (n st : Nat) (s : State) : State :=
  { s with key := { s.key with
    slots := tmod s.key.slots n {} (fun x => { x with state := st, secret := if st = 2 then x.secret else [] })
    records := tmod s.key.records n {} (fun r => { r with state := st }) } }

/-- A revoked slot is overwritten: REVOKED, the flag and its event (R389). -/
def overwriteSlot (n : Nat) (s : State) : State := keyFlag 1 (setSlotState n 3 s)

/-- A slot leaves ACTIVE when an ancestor is invalidated: overwritten, or pending behind its operation (R388). -/
def revokeSlot (n : Nat) (s : State) : State :=
  if (keySlot s n).state ≠ 1 then s
  else if s.key.inFlight.contains n then setSlotState n 2 s
  else overwriteSlot n s

/-- The descendants of an invalidated slot (R388). -/
def invalidateBelow (n : Nat) (s : State) : State := applyAll revokeSlot (descendants s n) s

/-- The pair key's slot: the lowest-numbered ACTIVE slot of policy BRAID (R392). -/
def braidSlot (s : State) : Option Nat :=
  (s.key.slots.find? (fun e => decide (8 ≤ e.1 ∧ e.2.state = 1 ∧ e.2.policy = polBraid))).map (·.1)

/-- One Braid frame is one operation of the pair key (R388). -/
def useBraidKey (s : State) : State := match braidSlot s with
  | some n => countUse n s
  | none => s

/-- The metering signing slot is usable (R129, R392). -/
def meterKey (s : State) : Option KeySlot :=
  let x := keySlot s s.mtr.signSlot
  if x.state = 1 ∧ x.policy = polMeter then some x else none

/-- A signature padded to its fixed size. -/
def signed96 (alg : Nat) (key m : Bytes) (k n : Nat) : Bytes := (Config.sign alg key m k ++ zeros n).take n

/-- The signatures on a snapshot by SIGN_ALG: ECDSA, ML-DSA, or both (R129, R157). -/
def snapshotSignature (s : State) (m : Bytes) : Bytes := match meterKey s with
  | none => []
  | some x =>
    (if s.mtr.signAlg % 2 = 1 then signed96 1 x.secret m s.free 96 else [])
      ++ (if 2 ≤ s.mtr.signAlg then signed96 2 x.secret m (s.free + 1) 4627 else [])

/-- A slot whose policy permits metering signatures (R129). -/
def meterSlotOk (s : State) (n : Nat) : Bool := decide ((keySlot s n).policy = polMeter)

/-- A change written through the journal: the slot's descendants are invalidated, then its secret, metadata and record
(R387). -/
def writeSlot (j : KeyJournal) (parentGen : Nat) (s : State) : State :=
  let t := invalidateBelow j.slot s
  { t with key := { t.key with
    journal := none
    slots := tset t.key.slots j.slot { parent := j.parent, state := 1, policy := j.policy, secret := j.secret }
    records := tset t.key.records j.slot
      { generation := j.generation, parentGen := parentGen, uses := 0, state := 1, parent := j.parent
        policy := j.policy } } }

/-- Slots 1 and 2 derived from the root (R382): the secrets they should hold. -/
def deviceSecret (root : Bytes) (n : Nat) : Bytes :=
  hkdf384 [] root (ascii (if n = 1 then "VZD-DTLS-ID" else "VZD-CFG-MAC"))

/-- Slots 1 and 2 are derived from the current root, unless they already are; without a root they are EMPTY (R377,
R382). -/
def deriveDevice (s : State) : State :=
  applyAll (fun n t => match rootSecret t with
    | none => setSlotState n 0 t
    | some r =>
      if (keySlot t n).state = 1 ∧ (keySlot t n).secret = deviceSecret r n then t
      else
        let j : KeyJournal := { slot := n, secret := deviceSecret r n, parent := 0, policy := 0,
                                generation := (keyRecord t n).generation + 1, committed := true }
        countUse 0 (writeSlot j t.key.rootGen t)) [1, 2] s

/-- Owner slots EMPTY: 8 to 255, or every slot (R374, R377). -/
def emptySlots (first : Nat) (s : State) : State :=
  { s with key := { s.key with
    slots := s.key.slots.filter (fun e => decide (e.1 < first))
    records := s.key.records.map (fun e => if e.1 < first then e else (e.1, { e.2 with state := 0 })) } }

/-- An owner root is generated (R374, R377): 48 open bytes, no use of it yet (R383). -/
def newOwnerRoot (s : State) : State :=
  keyFlag 4 (tickFree (emptySlots 8 { s with key := { s.key with
    root := some (Config.freeBytes s.free 48)
    rootGen := s.key.rootGen + 1
    records := tdel s.key.records 0 } }) 1)

/-- Everything in vault SRAM zeroised (R374, R380); the ferroelectric records stay. -/
def zeroise (s : State) : State :=
  { s with key := { s.key with
    slots := [], root := none, journal := none, previous := none, switchAt := none, inFlight := [] } }

/-- The slot's public key in a form (R384, R395): slot 1 and policies WRAP and METER; empty otherwise. -/
def slotPublic (s : State) (n form : Nat) : Bytes :=
  let x := keySlot s n
  let has := decide (x.state = 1) && (match form with
    | 0 => decide (n = 1 ∨ (8 ≤ n ∧ (x.policy = polWrap ∨ x.policy = polMeter)))
    | 1 => decide (8 ≤ n ∧ x.policy = polMeter)
    | _ => false)
  let size := if form = 0 then 97 else 2592
  if has then (Config.publicKey form x.secret ++ zeros size).take size else []

end Sys2Proof.Machine
end

