-- ==== Sys2Proof/Machine/PairOps.lean ====
section
/-! DEFINITION. Sending on the Braid lane and what the halves mirror (R357 to R361), and the flags of BRD_FLAGS. -/

namespace Sys2Proof.Machine

/-- A bit of BRD_FLAGS is raised: LINK raises event 96, TOKEN 97, MISMATCH 98, SPLIT 99, CONFLICT 100, UNHEALTHY 101
(R370). -/
def brdFlag (b : Nat) (s : State) : State :=
  if s.brd.flags.getLsbD b then s else raise (96 + b) { s with brd := { s.brd with flags := bset s.brd.flags b } }

/-- The Braid link is up (R356). -/
def linkUp (s : State) : Bool := decide (s.brd.link = 2) && pd s 11

/-- TAGGED of a frame that bears no tag (R357). -/
def untagged : Half := 0xFFFF

/-- The tag of a job: bit 14 the partition, bits 13:0 the number modulo 16,384 (R367). -/
def jobTag (p number : Nat) : Half := BitVec.ofNat 16 (p * 16384 + number % 16384)

/-- A control frame: SEQ 0, never resent (R358, R359). -/
def sendControl (f : Frame) (s : State) : State :=
  if linkUp s then
    useBraidKey (emit (.braid 0 s.brd.seqIn untagged f) { s with brd := { s.brd with tx := s.brd.tx + 1 } })
  else s

/-- A sequenced frame takes the next SEQ and waits for its acknowledgement; with 256 outstanding it waits to be sent
(R357, R358). -/
def sendSequenced (tagged : Half) (f : Frame) (s : State) : State :=
  if linkUp s then
    let seq := s.brd.seqOut + 1
    let sent := decide (s.brd.unacked.length < 256)
    let u : Unacked := { seq := seq, tagged := tagged, frame := f, sentAt := if sent then some (now s) else none }
    let t := { s with brd := { s.brd with seqOut := seq, unacked := s.brd.unacked ++ [u] } }
    if sent then
      useBraidKey (emit (.braid seq s.brd.seqIn tagged f) { t with brd := { t.brd with tx := t.brd.tx + 1 } })
    else t
  else s

/-- This half is the holder of a pair whose partner is in SHADOW: it mirrors (R361). -/
def mirrors (s : State) : Bool := linkUp s && s.sys.token && decide (s.brd.pmode = some (modeCode .shadow))

/-- The holder mirrors a frame. -/
def mirror (tagged : Half) (f : Frame) (s : State) : State := if mirrors s then sendSequenced tagged f s else s

/-- The mirrored record of a point (R359). -/
def mirrorPoint (hostPin : Option Bool) (p : Point) : MirrorPoint :=
  { ident := p.ident, reportSeq := p.reportSeq, value := p.value, quality := p.stored, sample := tsNs p.sample,
    hostPin := hostPin }

/-- Point deltas of the points that changed between two states, in both directions of a pair (R361). -/
def sendPoints (records : List MirrorPoint) (s : State) : State :=
  if records.isEmpty then s else sendSequenced untagged (.points records) s

/-- A PAIR STATUS frame with nothing in it. -/
def noUpdate : PairUpdate := { release := none, identity := [], policy := none, jobs := [], part := none }

end Sys2Proof.Machine
end

