-- ==== Sys2Proof/Machine/TimeOps.lean ====
section
/-! DEFINITION. District time: steps, the servo, LEGAL's rate, holdover and the PTP ports' state (R332 to R351). -/

namespace Sys2Proof.Machine

/-- PTP portStates that the rules name (IEEE 1588-2019). -/
def portDisabled : Nat := 0
def portInitializing : Nat := 1
def portFaulty : Nat := 2
def portListening : Nat := 4
def portMaster : Nat := 6
def portPassive : Nat := 7
def portSlave : Nat := 9

/-- A PTP port, and the eight ports with one changed. -/
def ptpPort (s : State) (p : Nat) : PtpPort := s.tim.ports.getD p {}
def setPort (p : Nat) (f : PtpPort → PtpPort) (s : State) : State :=
  { s with tim := { s.tim with
    ports := (List.range 8).map (fun q => if q = p then f (ptpPort s q) else ptpPort s q) } }

/-- A port is in SLAVE state. -/
def slaveOn (t : Tim) : Bool := t.ports.any (fun p => decide (p.state = portSlave))

/-- 500 ppm and 200 ppm in ns per s (R338, R340). -/
def servoLimit : Rat := 500000
def legalLimit : Rat := 200000

/-- SERVO runs on at another rate, continuous at the tick (R332). -/
def servoRate (r : Rat) (s0 : State) : State :=
  let s := noteFront s0
  { s with tim := { s.tim with rServo := r, servo := rebase s.tim.servo (now s) (incOf r) } }

/-- LEGAL runs on at another rate. -/
def legalRate (r : Rat) (s : State) : State :=
  { s with tim := { s.tim with rLegal := r, legal := rebase s.tim.legal (now s) (incOf r) } }

/-- A step of SERVO by an amount in units of the view: BASE, TIM_STEPS, the flag, the record (R340). -/
def servoStep (units : Int) (s0 : State) : State :=
  let s := noteFront s0
  let t := { s with tim := { s.tim with
    servo := { s.tim.servo with base := s.tim.servo.base + units }, steps := s.tim.steps + 1 } }
  report 89 0 0 (amountData (units / nsUnit)) (timFlag 1 t)

/-- SERVO time is valid from now on (R340, R341). -/
def servoValid (s0 : State) : State :=
  let s := noteFront s0
  { s with tim := { s.tim with servo := { s.tim.servo with valid := true } } }

/-- LEGAL's one step, to a value in units: the valid bit, the flag, the record (R337). -/
def legalStep (target : Int) (s : State) : State :=
  let amount := target - viewAt s.tim.legal (now s)
  let t := { s with tim := { s.tim with
    legal := { s.tim.legal with base := s.tim.legal.base + amount, valid := true } } }
  report 91 0 0 (amountData (amount / nsUnit)) (timFlag 3 t)

/-- LEGAL takes its step from SERVO when SERVO becomes valid with SOURCE 0, and SERVO's rate, clamped (R337). -/
def legalFromServo (s : State) : State :=
  if s.tim.legal.valid || decide (s.tim.record.source ≠ 0) then s
  else legalRate (clampR (-legalLimit) legalLimit s.tim.rServo) (legalStep (viewAt s.tim.servo (now s)) s)

/-- Entry into LOCKED: the flag; the first lock makes SERVO time valid (R340). -/
def enterLocked (s : State) : State :=
  let t := timFlag 0 { s with tim := { s.tim with state := .locked, everLocked := true } }
  if t.tim.servo.valid then t
  else legalFromServo (servoValid t)

/-- HOLDOVER: the rate held at integ, nothing stepped (R342). -/
def enterHoldover (s : State) : State :=
  if s.tim.state = .locked ∨ s.tim.state = .acquiring then
    timFlag 2 (servoRate s.tim.integ { s with tim := { s.tim with
      state := .holdover, holdSince := some (now s), holdS := 0, holdExpired := false, lockRun := 0 } })
  else s

/-- The servo enters HOLDOVER when its last SLAVE port has left SLAVE and no other is SLAVE (R342). -/
def slaveLeft (s : State) : State := if slaveOn s.tim then s else enterHoldover s

/-- The servo leaves free running or HOLDOVER at a sample. -/
def beginAcquiring (s : State) : State :=
  if s.tim.state = .free ∨ s.tim.state = .holdover then
    { s with tim := { s.tim with state := .acquiring, holdSince := none, holdExpired := false, lockRun := 0 } }
  else s

/-- The sample's offset is stepped away, not slewed (R340). -/
def stepsAway (t : Tim) (theta : Rat) : Bool :=
  decide ((t.record.stepNs : Rat) < absR theta) && (!t.servo.valid || t.record.stepEn)

/-- integ and the rate after a slewed sample, `t` the Sync interval in s (R340). -/
def slew (theta t : Rat) (s : State) : State :=
  let integ := clampR (-servoLimit) servoLimit (s.tim.integ - num32 s.tim.record.ki * theta / t)
  servoRate (clampR (-servoLimit) servoLimit (integ - num32 s.tim.record.kp * theta / t))
    { s with tim := { s.tim with integ := integ } }

/-- The lock count and the state after a sample (R340). -/
def judgeLock (theta : Rat) (s : State) : State :=
  let run := if absR theta ≤ s.tim.record.lockNs then s.tim.lockRun + 1 else 0
  let t := { s with tim := { s.tim with lockRun := run } }
  match t.tim.state with
  | .locked => if (10 * t.tim.record.lockNs : Rat) < absR theta
      then { t with tim := { t.tim with state := .acquiring } } else t
  | .acquiring => if t.tim.record.lockN ≤ run then enterLocked t else t
  | _ => t

/-- d = LEGAL - SERVO in ns (R338). -/
def legalLessServo (s : State) : Rat :=
  ((viewAt s.tim.legal (now s) - viewAt s.tim.servo (now s) : Int) : Rat) / nsUnit

/-- |d| is judged against ALARM_MS once LEGAL time is valid: the flag as it rises above it (R338). -/
def judgeAlarm (s : State) : State :=
  let beyond := s.tim.legal.valid && decide ((s.tim.record.alarmMs : Rat) * 1000000 < absR (legalLessServo s))
  let u := { s with tim := { s.tim with diverged := beyond } }
  if beyond && !s.tim.diverged then timFlag 4 u else u

/-- The setting of LEGAL's rate, each second of counter time (R338), and its alarm. -/
def setLegalRate (s : State) : State :=
  judgeAlarm (if !s.tim.legal.valid then s
    else if s.tim.record.source = 1 then legalRate (clampR (-legalLimit) legalLimit s.tim.rServo) s
    else if s.tim.servo.valid then
      legalRate (clampR (-legalLimit) legalLimit (s.tim.rServo - legalLessServo s / s.tim.record.legalTauS)) s
    else s)

/-- HOLD_EXPIRED: in HOLDOVER for HOLD_S seconds (R342). -/
def judgeHoldover (s : State) : State := match s.tim.holdSince with
  | some c => if s.tim.state = .holdover
      then { s with tim := { s.tim with holdExpired := passed s c (s.tim.record.holdS * tickS) } } else s
  | none => s

/-- The other port of a port's PRP pair, when the pair is configured for PRP (R22, R348). -/
def prpPartner (s : State) (p : Nat) : Option Nat :=
  (prpPairOf s p).map (fun _ => if p % 2 = 0 then p + 1 else p - 1)

/-- A port restarts in INITIALIZING, or disabled (R347). -/
def restartPort (p : Nat) (s : State) : State :=
  slaveLeft (setPort p (fun x => { record := x.record, sync := x.sync, delay := x.delay, heardAt := now s,
                                   state := if x.record.enable then portInitializing else portDisabled }) s)

/-- A SLAVE port leaves SLAVE for another state; a PASSIVE PRP partner takes over (R348). -/
def portLeaves (p st : Nat) (s : State) : State :=
  let was := decide ((ptpPort s p).state = portSlave)
  let t := setPort p (fun x => { x with state := st }) s
  let u := match prpPartner t p with
    | some q => if was && decide ((ptpPort t q).state = portPassive)
        then setPort q (fun x => { x with state := portSlave }) t else t
    | none => t
  if was then slaveLeft u else u

/-- A link below 1,000 Mbit/s in SGMII form puts an enabled PTP port in FAULTY; at 1,000 it starts again (R347). -/
def ptpLink (p : Nat) (sgmii up : Bool) (speed : Nat) (s : State) : State :=
  if !(ptpPort s p).record.enable || !sgmii || !up then s
  else if speed < 2 then portLeaves p portFaulty s
  else if (ptpPort s p).state = portFaulty then setPort p (fun x => { x with state := portInitializing }) s
  else s

/-- The clockClass announced while the device's own clock is the best master (R346). -/
def clockClass (t : Tim) : Nat :=
  if !t.everLocked || decide (t.record.source = 1) then 248
  else if t.holdExpired then 52 else 7

/-- A mean path delay in ns as TIM_PDLYp shows it, saturating (R351). -/
def pathDelay (d : Int) : Word := BitVec.ofNat 32 (min (d / 65536).toNat (2 ^ 32 - 1))

end Sys2Proof.Machine
end

