-- ==== Sys2Proof/Machine/PointOps.lean ====
section
/-! DEFINITION. The point database (R167 to R169, R185 to R187): points by identifier, effective quality, records. -/

namespace Sys2Proof.Machine

/-- The resident limit of R28. -/
def pointLimit : Nat := 33554432

/-- The resident count (R28). -/
def resident (s : State) : Nat := s.pts.points.length

/-- The resident point of an identifier. -/
def findPoint (s : State) (ident : Nat) : Option Point :=
  (s.pts.points.find? (fun e => decide (e.2.ident = ident))).map (·.2)

/-- The lowest free position at or above a number (R169). -/
def lowestFree : Table Point → Nat → Nat
  | [], n => n
  | (k, _) :: t, n => if k = n then lowestFree t (n + 1) else n

/-- The database with a new point at the lowest free position. -/
def addPoint (p : Point) (t : Table Point) : Table Point := tset t (lowestFree t 0) p

/-- The database without an identifier. -/
def dropPoint (ident : Nat) (t : Table Point) : Table Point := t.filter (fun e => decide (e.2.ident ≠ ident))

/-- The database with the point of an identifier changed. -/
def modPoint (ident : Nat) (f : Point → Point) (t : Table Point) : Table Point :=
  t.map (fun e => if e.2.ident = ident then (e.1, f e.2) else e)

/-- The state with the database changed. -/
def withPoints (f : Table Point → Table Point) (s : State) : State :=
  { s with pts := { s.pts with points := f s.pts.points } }

/-- Age in ns of a point at a SERVO time; 0 for a sample ahead of it (R186). -/
def ageNs (t : Nat) (p : Point) : Nat := t - tsNs p.sample

/-- Effective quality at a read: the first row of R186 that applies. -/
def effQuality (t : Nat) : Option Point → Nat
  | none => 5
  | some p =>
    if !p.updated then 3
    else if p.pinned then p.stored
    else if p.staleMs ≠ 0 ∧ p.staleMs * 1000000 < ageNs t p then 4
    else p.stored

/-- A quality usable as loop feedback (R186). -/
def usable (q : Nat) : Bool := decide (q = 0 ∨ q = 1 ∨ q = 2)

/-- The STATE field of a point record (R185). -/
def pointState (p : Point) : Nat := p.stored + 16 * bit p.pinned + 32 * bit p.timeLocal + 64 * p.source

/-- The SAMPLE field: zeros before the first update. -/
def sampleBytes (p : Point) : Bytes := if p.updated then tsBytes p.sample else zeros 16

/-- The 64-byte record of an identifier, as of a SERVO time (R185, R189). -/
def pointRecord (t ident : Nat) : Option Point → Bytes
  | none => le32 ident ++ [5] ++ zeros 59
  | some p =>
    le32 ident ++ le 1 (effQuality t (some p)) ++ le 1 p.kind ++ le16 (pointState p) ++ le64 p.value.toNat
      ++ sampleBytes p ++ le64 p.arrival ++ le32 p.staleMs ++ le32 p.updates.toNat ++ le32 p.reportSeq.toNat
      ++ le32 (if p.updated then min (ageNs t p / 1000000) (2 ^ 32 - 1) else 0) ++ le64 p.previous.toNat

/-- A free position as PTS_SNAPSHOT copies it (R185). -/
def freeRecord : Bytes := le32 0xFFFFFFFF ++ [5] ++ zeros 59

/-- An update of a point's value (R185). -/
def updatePoint (source : Nat) (value : Dword) (quality : Nat) (sample : Ts) (arrival : Nat) (seq : Word) (p : Point) :
    Point :=
  { p with
    previous := p.value, value := value, stored := quality, source := source, sample := sample, arrival := arrival,
    updates := p.updates + 1, reportSeq := seq, updated := true, timeLocal := false }

/-- A device-own point exists: it is created with its source (R168). -/
def ownPoint (localIndex staleMs : Nat) (s : State) : State :=
  if (findPoint s localIndex).isSome then
    withPoints (modPoint localIndex (fun p => { p with staleMs := staleMs })) s
  else withPoints (addPoint { ident := localIndex, staleMs := staleMs }) s

/-- A device-own point goes with its source (R168). -/
def dropOwn (localIndex : Nat) (s : State) : State := withPoints (dropPoint localIndex) s

/-- Device-own points that a command would create, against the limit of R28 (R168). -/
def roomFor (s : State) (idents : List Nat) : Bool :=
  decide (resident s + (idents.filter (fun i => (findPoint s i).isNone)).length ≤ pointLimit)

/-- The device publishes a value as its own point (R109, R163, R168). -/
def publishOwn (localIndex : Nat) (value : Dword) (quality : Nat) (sample : Ts) (s : State) : State :=
  withPoints (modPoint localIndex (updatePoint 1 value quality sample (now s) 0)) s

/-- The value and the effective quality that a consumer reads now (R186). -/
def readPoint (s : State) (ident : Nat) : Dword × Nat :=
  let p := findPoint s ident
  (((p.map (·.value)).getD 0), effQuality (servoNs s) p)

/-- A sequence is newer by the rule of step 7 of R174. -/
def seqNewer (seq last : Word) : Bool := decide (1 ≤ (seq - last).toNat ∧ (seq - last).toNat < 2 ^ 31)

end Sys2Proof.Machine
end

