-- ==== Sys2Proof/Machine/Points.lean ====
section
/-! DEFINITION. The point collector: UPP admission, the weir, ingress and spill, the point engine, and the PTS_
opcodes (R167 to R194). -/

namespace Sys2Proof.Machine

/-! ### Slots and units (R175 to R179, R188) -/

/-- The slot of a unit (R175). -/
def slotOf (u : Nat) : Nat := u * 7919 % 3000

/-- A minute and the window of a slot, in ns (R175). -/
def minuteNs : Nat := 60000000000
def slotStartNs (u : Nat) : Nat := slotOf u * 20000000

/-- Whether a SERVO time lies in a unit's window: from 20 ms before the slot start to 40 ms after it (R175). -/
def inSlot (u t : Nat) : Bool := decide ((t + 20000000 + minuteNs - slotStartNs u) % minuteNs < 60000000)

/-- SERVO seconds of the start of a unit's next slot window (R173). -/
def nextWindow (u t : Nat) : Nat :=
  (t + (minuteNs - (t + 20000000 + minuteNs - slotStartNs u) % minuteNs)) / 1000000000

/-- A unit's record. -/
def unitOf (s : State) (u : Nat) : Substation := tget s.pts.units u {}

/-- The state with one unit changed. -/
def modUnit (u : Nat) (f : Substation → Substation) (s : State) : State :=
  { s with pts := { s.pts with units := tmod s.pts.units u {} f } }

/-- STATE of a unit (R188): SILENT shows over THROTTLED. -/
def unitState (x : Substation) : Nat :=
  if !x.enable then 0 else if x.silent then 3 else if x.throttled.isSome then 2 else 1

/-- Violations of the sliding 600 s window (R177). -/
def recentViolations (s : State) (x : Substation) : List Nat :=
  x.violations.filter (fun c => decide (now s < c + 600 * tickS))

/-- Ingress and spill in use, in bytes (R180). -/
def bytesIn (l : List Datagram) : Nat := l.foldl (fun n d => n + d.bytes) 0
def ingressSize : Nat := 16777216
def spillSize : Nat := 268435456

/-- Bytes a datagram of `n` bytes of plaintext takes: rounded up to 64, and a 64-byte descriptor (R180). -/
def storedBytes (n : Nat) : Nat := (n + 63) / 64 * 64 + 64

/-- The spill is at or above 75 % (R177). -/
def spillHigh (s : State) : Bool := decide (3 * spillSize ≤ 4 * bytesIn s.pts.spill)

/-- SERVO time in units of 2^-16 ns, the fraction that a time value carries (R333). -/
def servo16 (s : State) : Nat := servoNs s * 65536 + (servo s).frac

/-- The collector runs in the modes of R57, unless it is re-initialising (R79). -/
def collectorRuns (s : State) : Bool := pd s 8 && s.pts.running && mRun s.sys.mode && !reinitRuns s 6 0

/-! ### Datagrams (R171 to R174) -/

/-- A record's value as a binary64: FORM 0 an f32, FORM 1 an i32, FORM 2 the next 8 bytes (R172, R185). -/
def recordValue (form : Nat) (v : Word) (wide : Bytes) : Dword :=
  if form = 0 then widen v
  else if form = 1 then fp64 ((signed 32 v.toNat : Int) : Rat)
  else w64 wide 0

/-- The records of a datagram after its header; none when step 6 of R174 refuses them. -/
def uppRecords : Nat → Bytes → Option (List UppValue)
  | 0, b => if b.length = 0 then some [] else none
  | fuel + 1, b =>
    if b.length = 0 then some []
    else
      let q := u8 b 2 % 16
      let form := u8 b 2 / 16
      let wide := slice b 8 8
      if b.length < 8 ∨ 2 < form ∨ 240 < u8 b 3 ∨ ¬(q = 0 ∨ q = 1 ∨ q = 8 ∨ q = 9 ∨ q = 10)
          ∨ (form = 2 ∧ b.length < 16) then none
      else match uppRecords fuel (b.drop (if form = 2 then 16 else 8)) with
        | none => none
        | some rs => some ({ index := u16 b 0, qual := q, age := u8 b 3,
                             value := recordValue form (w32 b 4) wide } :: rs)

/-- What the weir decides of a datagram (R174): the code of the first check that fails, or its admission. -/
inductive Admission where
  | refused (code : Nat)
  | malformed (code : Nat)
  /-- admitted: its records, and whether it was off slot -/
  | admitted (d : Datagram) (offSlot : Bool)
deriving DecidableEq, Repr

/-- Steps 2 to 6 of R174, in order: the code of the first that fails. -/
def formCode (s : State) (u : Nat) (b : Bytes) : Option Nat :=
  let type := u8 b 3
  let count := u16 b 6
  if b.length < 32 ∨ u16 b 0 ≠ 0x5055 ∨ u8 b 2 ≠ 1 ∨ ¬(type = 1 ∨ type = 3) ∨ u16 b 26 ≠ 0 ∨ u32 b 28 ≠ 0
      ∨ 1 < u16 b 24 ∨ 1000000000 ≤ u32 b 12 then some 0x07
  else if u16 b 4 ≠ u ∨ ¬(unitOf s u).enable then some 0x08
  else if count = 0 ∨ (if type = 1 then 1024 else 16) < count then some 0x05
  else if b.length ≠ 32 + 8 * count then some 0x06
  else if (uppRecords (count + 1) (b.drop 32)).isNone then some 0x07
  else none

/-- Step 7 of R174: the code of a sequence that is not newer. -/
def seqCode (x : Substation) (seq : Word) : Option Nat := match x.lastSeq with
  | none => none
  | some l => if seq = l then some 0x01 else if seqNewer seq l then none else some 0x09

/-- A REPORT is off slot: judged only while SERVO time is valid, and never with ANY_SLOT (R175 to R177). -/
def offSlot (s : State) (u : Nat) (report : Bool) : Bool :=
  report && s.tim.servo.valid && !(unitOf s u).anySlot && !inSlot u (servoNs s)

/-- Step 8 of R174 (R177). -/
def slotCode (s : State) (u : Nat) (report : Bool) : Option Nat :=
  if !offSlot s u report then none
  else if (unitOf s u).throttled.isSome then some 0x03
  else if spillHigh s then some 0x04
  else none

/-- Step 9 of R174 (R178, R179). -/
def creditCode (x : Substation) (report : Bool) (count : Nat) : Option Nat :=
  if report then (if x.balance < count then some 0x02 else none)
  else if !x.exc then some 0x08
  else if x.allowance < count then some 0x02 else none

/-- Where a datagram of a size goes (R181): ingress (false), the spill (true), or nowhere. -/
def placeFor (s : State) (bytes : Nat) : Option Bool :=
  if !s.pts.spillActive && decide (bytesIn s.pts.ingress + bytes ≤ ingressSize) then some false
  else if bytesIn s.pts.spill + bytes ≤ spillSize then some true
  else none

/-- The checks of R174 from step 2 on. -/
def admission (s : State) (u : Nat) (b : Bytes) : Admission :=
  let x := unitOf s u
  let report := decide (u8 b 3 = 1)
  let count := u16 b 6
  match formCode s u b with
  | some code => .malformed code
  | none => match seqCode x (w32 b 8) with
    | some code => .refused code
    | none => match slotCode s u report with
      | some code => .refused code
      | none => match creditCode x report count with
        | some code => .refused code
        | none => match placeFor s (storedBytes b.length) with
          | none => .refused 0x04
          | some _ => .admitted
            { unit := u, report := report, seq := w32 b 8, time := u64 b 16 * 1000000000 + u32 b 12,
              timeValid := decide (u16 b 24 = 1), arrived := servo16 s, servoValid := s.tim.servo.valid,
              records := (uppRecords (count + 1) (b.drop 32)).getD [], bytes := storedBytes b.length }
            (offSlot s u report)

/-- An ACK to a unit (R173). -/
def sendAck (u : Nat) (seq : Word) (code applied skipped : Nat) (s : State) : State :=
  let x := unitOf s u
  sendFrame x.port (emit (.uppAck u seq code (unitState x) x.balance applied skipped (nextWindow u (servoNs s))) s)

/-- UNIT_THROTTLE (R177): a violation is recorded, and the third in 600 s throttles the unit. -/
def recordViolation (u : Nat) (s : State) : State :=
  let v := recentViolations s (unitOf s u) ++ [now s]
  if 3 ≤ v.length then
    report 32 u 0 0 (ptsFlag 1 (modUnit u (fun x => { x with violations := [], throttled := some (now s) }) s))
  else modUnit u (fun x => { x with violations := v }) s

/-- A datagram goes to ingress or to the spill; SPILL_BEGIN when ingress cannot take it (R181). -/
def queueDatagram (d : Datagram) (s : State) : State :=
  if placeFor s d.bytes = some false then { s with pts := { s.pts with ingress := s.pts.ingress ++ [d] } }
  else
    let t := { s with pts := { s.pts with
      spill := s.pts.spill ++ [d], spillActive := true
      spillPeak := max s.pts.spillPeak (bytesIn s.pts.spill + d.bytes) } }
    if s.pts.spillActive then t else ptsFlag 2 t

/-- Step 11 of R174: charged, counted, a violation recorded when off slot, L set, queued; the unit is heard again. -/
def admitDatagram (d : Datagram) (count : Nat) (off : Bool) (s : State) : State :=
  let t := modUnit d.unit (fun x => { x with
    balance := if d.report then x.balance - count else x.balance
    allowance := if d.report then x.allowance else x.allowance - count
    lastSeq := some d.seq, lastAt := servo s, admitted := x.admitted + 1
    offSlot := if off then x.offSlot + 1 else x.offSlot
    missed := if d.report then 0 else x.missed
    heard := x.heard || d.report
    silent := x.silent && !d.report }) s
  queueDatagram d (if off then recordViolation d.unit t else t)

/-- A refused datagram: its counters, its flag, its ACK (R173, R174, R193, R194). -/
def refuseDatagram (u : Nat) (seq : Word) (code : Nat) (bad off : Bool) (s : State) : State :=
  let t := if code = 0x04 then ptsFlag 3 { s with pts := { s.pts with dropFull := s.pts.dropFull + 1 } }
    else { s with pts := { s.pts with refused := s.pts.refused + 1 } }
  let t := if bad then ptsFlag 0 t else t
  sendAck u seq code 0 0 (modUnit u (fun x => { x with
    refused := x.refused + 1, offSlot := if off then x.offSlot + 1 else x.offSlot }) t)

/-- A datagram that passed DTLS goes through the weir (R174). -/
def weir (u : Nat) (b : Bytes) (s : State) : State :=
  match admission s u b with
  | .malformed code => refuseDatagram u (w32 b 8) code true false s
  | .refused code => refuseDatagram u (w32 b 8) code false (offSlot s u (decide (u8 b 3 = 1)) && decide (code = 0x03)) s
  | .admitted d off => admitDatagram d (u16 b 6) off s

/-- A record or handshake that fails, or IPv4 on the UPP port (R170). -/
def uppAuthFail (s : State) : State := { s with pts := { s.pts with authFail := s.pts.authFail + 1 } }

/-- UPP is accepted on the ports bound to it (R24). -/
def uppBound (s : State) (port : Nat) : Bool := s.net.bindUpp.testBit port

/-- A frame of a service that arrives on a port not bound to it is dropped and counted (R24). -/
def unbound (port : Nat) (s : State) : State :=
  { s with net := { s.net with ports := tmod s.net.ports port {} (fun p => { p with unbound := p.unbound + 1 }) } }

/-- UPP_DATAGRAM: a datagram on the UPP port (R170, R174). While the collector re-initialises it is dropped and counted,
in PTS_REFUSED (R79; DESIGN CHOICE of the counter, log entry 84). -/
def uppDatagram (r : UppRecord) (s : State) : State :=
  if !pd s 8 then s
  else if !uppBound s r.port then unbound r.port s
  else if r.ipv6 && r.authentic && s.pts.assocs.contains r.unit then
    (if collectorRuns s then weir r.unit r.bytes s
    else if reinitRuns s 6 0 then { s with pts := { s.pts with refused := s.pts.refused + 1 } }
    else s)
  else uppAuthFail s

/-- A handshake in progress ends: with a unit number and a chain that verifies the unit's association opens (R170). -/
def uppFinish (known : Bool) (h : UppHello) (s : State) : State :=
  let t := { s with pts := { s.pts with handshakes := s.pts.handshakes.filter (· ≠ h.client) } }
  let u := h.unit.getD 0
  if known && decide (1 ≤ u ∧ u ≤ 4095) then
    sendFrame h.port (emit (.uppHandshake u true) (modUnit u (fun x => { x with port := h.port }) { t with pts := { t.pts with
      assocs := if t.pts.assocs.contains u then t.pts.assocs else t.pts.assocs ++ [u] } }))
  else sendFrame h.port (emit (.uppHandshake u false) t)

/-- UPP_CLIENT_HELLO: the cookie exchange, then a handshake while fewer than 64 are in progress, and its end with the
unit's certificate (R170). -/
def uppHello (known : Bool) (h : UppHello) (s : State) : State :=
  if !pd s 8 || !s.pts.running then s
  else if !uppBound s h.port then unbound h.port s
  else if !h.ipv6 then uppAuthFail s
  else if h.finished then (if s.pts.handshakes.contains h.client then uppFinish known h s else s)
  else if !h.cookie then sendFrame h.port (emit .helloRetry s)
  else if s.pts.handshakes.contains h.client || decide (64 ≤ s.pts.handshakes.length) then s
  else { s with pts := { s.pts with handshakes := s.pts.handshakes ++ [h.client] } }

/-! ### The point engine (R183) -/

/-- SAMPLE of a record: the header time, or the arrival when that is not to be used, less AGE x 250 ms, to 2^-16 ns
(R185). -/
def sampleOf (d : Datagram) (age : Nat) : Ts × Bool :=
  let useLocal := !d.timeValid || decide (d.arrived + 1000000000 * 65536 < d.time * 65536)
  let t := (if useLocal then d.arrived else d.time * 65536) - age * 250000000 * 65536
  let ns := t / 65536
  ({ s := ns / 1000000000, ns := ns % 1000000000, frac := t % 65536, view := 1, valid := d.servoValid }, useLocal)

/-- A unit record applied to its point; a pinned point keeps VALUE and quality (R183). -/
def applyRecord (d : Datagram) (arrival : Nat) (r : UppValue) (p : Point) : Point :=
  let t := sampleOf d r.age
  if p.pinned then
    { p with sample := t.1, timeLocal := t.2, arrival := arrival, updates := p.updates + 1, reportSeq := d.seq,
             updated := true }
  else { updatePoint 0 r.value r.qual t.1 arrival d.seq p with timeLocal := t.2 }

/-- One record of a datagram: applied to its resident point, or skipped (R183). -/
def applyOne (d : Datagram) (arrival : Nat) (acc : Table Point × Nat × Nat) (r : UppValue) :
    Table Point × Nat × Nat :=
  let ident := d.unit * 65536 + r.index
  if acc.1.any (fun e => decide (e.2.ident = ident)) then
    (modPoint ident (applyRecord d arrival r) acc.1, acc.2.1 + 1, acc.2.2)
  else (acc.1, acc.2.1, acc.2.2 + 1)

/-- One datagram applied whole, and its AK_OK (R173, R183). -/
def applyDatagram (d : Datagram) (s : State) : State :=
  let a := d.records.foldl (applyOne d (now s)) (s.pts.points, 0, 0)
  let t := { s with pts := { s.pts with
    points := a.1, applied := s.pts.applied + BitVec.ofNat 32 a.2.1, rateNow := s.pts.rateNow + a.2.1
    dgrams := s.pts.dgrams + 1 } }
  sendAck d.unit d.seq 0x00 a.2.1 a.2.2
    (modUnit d.unit (fun x => { x with skipped := x.skipped + BitVec.ofNat 32 a.2.2 }) t)

/-- POINT_ENGINE_APPLY: the next datagram in order; the spill's last clears SPILL_ACTIVE (R181, R183). -/
def engineApply (s : State) : State :=
  if !collectorRuns s || s.pts.paused then s
  else match s.pts.ingress with
    | d :: ds => applyDatagram d { s with pts := { s.pts with ingress := ds } }
    | [] => match s.pts.spill with
      | d :: ds => applyDatagram d { s with pts := { s.pts with spill := ds, spillActive := !ds.isEmpty } }
      | [] => s

/-- The minute that a unit's slot window belongs to: the last window that has begun at a SERVO time (R175). -/
def windowOf (u t : Nat) : Nat := (t + 20000000 + minuteNs - slotStartNs u) / minuteNs

/-- A unit's window has begun that SERVO time had not reached before (R344). -/
def windowDue (s : State) (u : Nat) : Bool := match (unitOf s u).window with
  | none => true
  | some w => decide (w.1 < windowOf u (servoNs s))

/-- The balance and the allowance of a unit are set (R178, R179). -/
def refill (u : Nat) (s : State) : State :=
  modUnit u (fun x => { x with balance := x.credits, allowance := if x.exc then 64 else 0 }) s

/-- A slot window of a unit begins, and a minute with it: the one before counts as without a REPORT when an enabled unit
sent none in it (R188). -/
def beginWindow (u : Nat) (s : State) : State :=
  modUnit u (fun x => { x with
    missed := if x.enable && x.window.isSome && !x.heard then x.missed + 1 else x.missed
    window := some (windowOf u (servoNs s), now s), heard := false }) s

/-- Refills by counter time that are due since the collector's start, while SERVO time is not valid (R176). -/
def refillsDue (s : State) : Nat := (now s - s.pts.startedAt) / (60 * tickS)

/-- SLOT_WINDOW_START: a window of the unit begins; the balance is set then, or every 60 s of counter time while SERVO
time is not valid (R176, R178). -/
def slotWindow (u : Nat) (s : State) : State :=
  if !collectorRuns s || decide (u = 0 ∨ 4095 < u) then s
  else
    let t := if windowDue s u then beginWindow u s else s
    if s.tim.servo.valid then (if windowDue s u then refill u t else t)
    else if (unitOf s u).refills < refillsDue s then
      modUnit u (fun x => { x with refills := refillsDue s }) (refill u t)
    else t

/-- The unit's present window has ended, 60 ms after its start, without a REPORT (R175, R188). -/
def windowMissed (s : State) (x : Substation) : Bool := match x.window with
  | none => false
  | some w => !x.heard && passed s w.2 (60 * tickMs)

/-- Consecutive minutes without an admitted REPORT (R188). -/
def minutesMissed (s : State) (x : Substation) : Nat := x.missed + bit (windowMissed s x)

/-- THROTTLE_EXPIRY: 600 s after entering THROTTLED (R177). -/
def throttleEnd (u : Nat) (s : State) : State := match (unitOf s u).throttled with
  | none => s
  | some c => if passed s c (600 * tickS) then modUnit u (fun x => { x with throttled := none }) s else s

/-- UNIT_SILENT: the window of the MISS_LIMIT-th minute without an admitted REPORT has ended (R188). -/
def unitSilent (u : Nat) (s : State) : State :=
  let x := unitOf s u
  if x.enable && !x.silent && windowMissed s x && decide (s.pts.missLimit ≤ minutesMissed s x) then
    ptsFlag 4 (modUnit u (fun y => { y with silent := true }) s)
  else s

/-! ### The opcodes -/

/-- A declaration in range (R167). -/
def declOk (d : Bytes) : Bool :=
  let ident := u32 d 0
  let stale := u32 d 8
  decide (ident < 2 ^ 28 ∧ ident / 65536 ≠ 0 ∧ u8 d 4 ≤ 2 ∧ u8 d 5 ≤ 1 ∧ u16 d 6 = 0 ∧ u32 d 12 = 0
    ∧ (stale = 0 ∨ (100 ≤ stale ∧ stale ≤ 86400000)))

/-- One declaration applied (R167). -/
def declare (t : Table Point) (d : Bytes) : Table Point :=
  let ident := u32 d 0
  if u8 d 5 = 1 then dropPoint ident t
  else if t.any (fun e => decide (e.2.ident = ident)) then
    modPoint ident (fun p => { p with kind := u8 d 4, staleMs := u32 d 8 }) t
  else addPoint { ident := ident, kind := u8 d 4, staleMs := u32 d 8 } t

/-- Declarations applied in order; none when the count passes the limit after any of them (R167). -/
def declareAll : Table Point → List Bytes → Option (Table Point)
  | t, [] => some t
  | t, d :: ds =>
    let u := declare t d
    if pointLimit < u.length then none else declareAll u ds

/-- PTS_DECLARE (R167). -/
def ptsDeclareBody (c : Call) (s : State) : State × Reply :=
  let n := u32 c.payload 0
  let ds := rowsOf c.payload 4 16 n
  if c.payload.length ≠ 4 + 16 * n ∨ c.payload.length < 4 then no stLength s
  else if n = 0 then no stCount s
  else if c.cap < 4 then no stRspSpace s
  else if !ds.all declOk then no stOutOfRange s
  else match declareAll s.pts.points ds with
    | none => no stNoSpace s
    | some t => yes (le32 t.length) (withPoints (fun _ => t) s)

/-- PTS_READ (R189). -/
def ptsReadBody (c : Call) (s : State) : State × Reply :=
  let n := u32 c.payload 0
  let ids := (rowsOf c.payload 4 4 n).map (fun b => u32 b 0)
  if c.payload.length ≠ 4 + 4 * n ∨ c.payload.length < 4 then no stLength s
  else if n = 0 then no stCount s
  else if c.cap < 8 + 64 * n then no stRspSpace s
  else if ids.any (fun i => decide (2 ^ 28 ≤ i)) then no stOutOfRange s
  else yes (le32 n ++ le32 0 ++ ids.flatMap (fun i => pointRecord (servoNs s) i (findPoint s i))) s

/-- A host write in range (R190). -/
def writeOk (s : State) (b : Bytes) : Bool :=
  let q := u32 b 4 % 256
  decide (u32 b 0 / 65536 ≠ 0) && (findPoint s (u32 b 0)).isSome && decide (u32 b 4 < 512)
    && decide (q = 0 ∨ q = 1 ∨ q = 8 ∨ q = 9 ∨ q = 10 ∨ q = 11)

/-- One host write applied (R190). -/
def hostWrite (t : Ts) (arrival : Nat) (pts : Table Point) (b : Bytes) : Table Point :=
  let q := u32 b 4 % 256
  modPoint (u32 b 0) (fun p =>
    { updatePoint 2 (w64 b 8) (if q = 0 then 2 else q) t arrival 0 p with pinned := (u32 b 4).testBit 8 }) pts

/-- PTS_WRITE (R190). -/
def ptsWriteBody (c : Call) (s : State) : State × Reply :=
  let n := u32 c.payload 0
  let ws := rowsOf c.payload 4 16 n
  if c.payload.length ≠ 4 + 16 * n ∨ c.payload.length < 4 then no stLength s
  else if n = 0 then no stCount s
  else if !ws.all (writeOk s) then no stOutOfRange s
  else yes [] (withPoints (fun t => ws.foldl (hostWrite (servo s) (now s)) t) s)

/-- The record at a position, as PTS_SNAPSHOT copies it (R185, R191). -/
def positionRecord (s : State) (k : Nat) : Bytes := match tfind s.pts.points k with
  | none => freeRecord
  | some p => pointRecord (servoNs s) p.ident (some p)

/-- PTS_SNAPSHOT (R191). -/
def ptsSnapshotBody (c : Call) (s : State) : State × Reply :=
  let n := u32 c.payload 4
  if c.payload.length ≠ 8 ∨ ¬c.dmaOut then no stLength s
  else if n = 0 ∨ pointLimit < u32 c.payload 0 + n then no stCount s
  else if c.cap < 64 * n then no stRspSpace s
  else yes ((List.range n).flatMap (fun i => positionRecord s (u32 c.payload 0 + i))) s

/-- PTS_UNIT_SET (R188): a new CREDITS acts at the next slot window, ENABLE at once. -/
def ptsUnitSetBody (c : Call) (s : State) : State × Reply :=
  let u := u16 c.payload 0
  let f := u32 c.payload 4
  if c.payload.length ≠ 8 then no stLength s
  else if u = 0 ∨ 4095 < u ∨ 8 ≤ f then no stOutOfRange s
  else yes [] (modUnit u (fun x => { x with
    credits := u16 c.payload 2, enable := f.testBit 0, exc := f.testBit 1, anySlot := f.testBit 2
    silent := x.silent && f.testBit 0
    missed := if x.enable then x.missed else 0, window := if x.enable then x.window else none }) s)

/-- Seconds of THROTTLED that remain. -/
def throttledLeft (s : State) (x : Substation) : Nat := match x.throttled with
  | none => 0
  | some c => (c + 600 * tickS - now s + (tickS - 1)) / tickS

/-- The unit record of R188. -/
def unitRecord (s : State) (u : Nat) : Bytes :=
  let x := unitOf s u
  le16 u ++ le 1 (unitState x) ++ le 1 (recentViolations s x).length ++ le16 (slotOf u) ++ le16 x.credits
    ++ le16 x.balance ++ le16 (throttledLeft s x)
    ++ le32 (s.pts.points.countP (fun e => decide (e.2.ident / 65536 = u))) ++ le32 (x.lastSeq.getD 0).toNat
    ++ le32 x.admitted.toNat ++ tsBytes x.lastAt ++ le32 x.refused.toNat ++ le32 x.offSlot.toNat
    ++ le32 x.skipped.toNat ++ le32 (minutesMissed s x)
    ++ le32 (bit x.enable + 2 * bit x.exc + 4 * bit x.anySlot) ++ le32 0

/-- PTS_UNIT_STATUS (R188). -/
def ptsUnitStatusBody (c : Call) (s : State) : State × Reply :=
  let u := u16 c.payload 0
  if c.payload.length ≠ 4 then no stLength s
  else if c.cap < 64 then no stRspSpace s
  else if u = 0 ∨ 4095 < u ∨ u16 c.payload 2 ≠ 0 then no stOutOfRange s
  else yes (unitRecord s u) s

/-- FUNC_REINIT of the point collector begins: what it holds is discarded, the counters restart at 0 (R79, R182,
R194). -/
def reinitCollector (s : State) : State :=
  { s with pts := { s.pts with
    ingress := [], spill := [], spillActive := false, spillPeak := 0, applied := 0, rateNow := 0, rateLast := 0
    dgrams := 0, dropFull := 0, refused := 0, authFail := 0 } }

/-- The collector is whole again: balances and allowances at their configured values, counter time runs from here (R176,
R182). -/
def collectorWhole (s : State) : State :=
  { s with pts := { s.pts with
    startedAt := now s
    units := s.pts.units.map (fun e => (e.1, { e.2 with
      balance := e.2.credits, allowance := if e.2.exc then 64 else 0, refills := 0 })) } }

end Sys2Proof.Machine
end

