-- ==== Sys2Proof/Machine/Courses.lean ====
section
/-! DEFINITION. Courses, loads and delta lists (R195 to R217). -/

namespace Sys2Proof.Machine

/-- The courses of a partition, and the state with them changed. -/
def coursesOf (s : State) (p : Nat) : Courses := tget s.courses p {}
def modCourses (p : Nat) (f : Courses → Courses) (s : State) : State := { s with courses := tmod s.courses p {} f }

/-- The resident course of a partition. -/
def residentCourse (s : State) (p : Nat) : Option Course := (coursesOf s p).resident

/-! ### The image (R197 to R204) -/

/-- Fields of an image. -/
def img8 (m : Memory) (o : Nat) : Nat := (memRead m o).toNat
def img16 (m : Memory) (o : Nat) : Nat := u16 (memLoad m o 2) 0
def img32 (m : Memory) (o : Nat) : Nat := u32 (memLoad m o 4) 0
def img64 (m : Memory) (o : Nat) : Nat := u64 (memLoad m o 8) 0

/-- Header fields (R198). -/
def hKind (m : Memory) : Nat := img8 m 6
def hFlags (m : Memory) : Nat := img8 m 7
def hSignature (m : Memory) : Bytes := memLoad m 8 16
def hN (m : Memory) : Nat := img32 m 28
def hNnzA (m : Memory) : Nat := img32 m 32
def hS (m : Memory) : Nat := img32 m 36
def hNnzL (m : Memory) : Nat := img64 m 40
def hRows (m : Memory) : Nat := img64 m 48
def hMoves (m : Memory) : Nat := img32 m 56
def hMovesWide (m : Memory) : Nat := img32 m 60
def hBindings (m : Memory) : Nat := img32 m 64
def hHorizon (m : Memory) : Nat := img16 m 68
def hReaches (m : Memory) : Nat := img8 m 70
def hSections (m : Memory) : Nat := img8 m 71
def hStepS (m : Memory) : Nat := img32 m 72
def hPrimal (m : Memory) : Nat := img32 m 76
def hMapped (m : Memory) : Nat := img32 m 84
def hWide (m : Memory) : Bool := (hFlags m).testBit 0

/-- SCHED64 is present: an ESTIMATE with WIDE (R200). -/
def hasWide (m : Memory) : Bool := hWide m && decide (hKind m = 0)
def hLineage (m : Memory) : Bool := (hFlags m).testBit 1

/-- A section's offset by its entry in the table, 0 when it is absent (R199). -/
def sectionAt (m : Memory) (kind : Nat) : Nat :=
  ((List.range (hSections m)).find? (fun i => decide (img16 m (256 + 16 * i) = kind))).elim 0
    (fun i => img32 m (256 + 16 * i + 4))

/-- The sections that R200 gives an image, in increasing TYPE order, with their sizes. -/
def wantedSections (m : Memory) : List (Nat × Nat) :=
  [(1, 4 * hS m), (2, 32 * hS m), (3, 4 * hRows m), (4, 16 * (hS m + hMoves m))]
    ++ (if hasWide m then [(5, 16 * (hS m + hMovesWide m))] else [])
    ++ [(6, 8 * hNnzA m), (7, hN m), (8, 8 * hNnzA m), (9, 32 * hN m), (10, 16 * hBindings m)]
    ++ (if hLineage m then [(11, 32 + 8 * hMapped m)] else [])

/-- Rounded up to a multiple. -/
def roundUp (n k : Nat) : Nat := (n + k - 1) / k * k

/-- The sections with the offsets of R197, and the end of the last. -/
def placed : Nat → List (Nat × Nat) → List (Nat × Nat × Nat) × Nat
  | o, [] => ([], o)
  | o, (t, n) :: r =>
    let x := placed (roundUp (o + n) 64) r
    ((t, o, n) :: x.1, if r.isEmpty then o + n else x.2)

/-- Column and WIDTH, ROWS_S, CHILDREN, ROW_OFF, FACT_OFF of a supernode (R201). -/
def snodeAt (m : Memory) (i : Nat) : Nat := sectionAt m 2 + 32 * i
def snFirst (m : Memory) (i : Nat) : Nat := img32 m (snodeAt m i)
def snWidth (m : Memory) (i : Nat) : Nat := img32 m (snodeAt m i + 4)
def snRows (m : Memory) (i : Nat) : Nat := img32 m (snodeAt m i + 8)
def snChildren (m : Memory) (i : Nat) : Nat := img32 m (snodeAt m i + 12)
def snRowOff (m : Memory) (i : Nat) : Nat := img64 m (snodeAt m i + 16)
def snFactOff (m : Memory) (i : Nat) : Nat := img64 m (snodeAt m i + 24)
def treeParent (m : Memory) (i : Nat) : Nat := img32 m (sectionAt m 1 + 4 * i)
def rowIndex (m : Memory) (i : Nat) : Nat := img32 m (sectionAt m 3 + 4 * i)

/-- Factor entries of a supernode (R201). -/
def snFactor (m : Memory) (i : Nat) : Nat := snWidth m i * (snWidth m i + 1) / 2 + snWidth m i * snRows m i

/-- The supernode of a factor entry. -/
def snodeOf (m : Memory) (position : Nat) : Nat :=
  ((List.range (hS m)).find? (fun i => decide (snFactOff m i ≤ position ∧ position < snFactOff m i + snFactor m i))).getD 0

/-- The places of a supernode's panel, row and column from 0: the triangle on its own columns and the rows below it. -/
def panelPlaces (w r : Nat) : List (Nat × Nat) :=
  (List.range w).flatMap (fun c => (List.range (w + r - c)).map (fun i => (c + i, c)))

/-- The first `n` places of a list in some order, each taken once: the last one left needs no choice. -/
def takeInOrder (pick : Nat → Nat) : Nat → List (Nat × Nat) → List (Nat × Nat)
  | 0, _ => []
  | _ + 1, [x] => [x]
  | n + 1, l => match l[pick n % l.length]? with
    | none => []
    | some x => x :: takeInOrder pick n (l.eraseIdx (pick n % l.length))

/-- Where a factor entry of a supernode stands in its panel: each entry has a place of its own, in an order that is free
(log entry 30). -/
def panelPlace (w r k : Nat) : Nat × Nat :=
  (takeInOrder (Config.panelPick w r) (panelPlaces w r).length (panelPlaces w r)).getD k (0, 0)

/-- ENTRYMAP fields of an entry (R203). -/
def entryPosition (m : Memory) (i : Nat) : Nat := img32 m (sectionAt m 6 + 8 * i)
def entryBlock (m : Memory) (i : Nat) : Nat := img8 m (sectionAt m 6 + 8 * i + 4)

/-- Row and column of an entry, from its position through SNODE and ROWIDX (R203). -/
def entryPlace (m : Memory) (i : Nat) : Nat × Nat :=
  let q := entryPosition m i
  let k := snodeOf m q
  let x := panelPlace (snWidth m k) (snRows m k) (q - snFactOff m k)
  (if x.1 < snWidth m k then snFirst m k + x.1 else rowIndex m (snRowOff m k + (x.1 - snWidth m k)), snFirst m k + x.2)

/-- Values of the image: KKT entries, the four vectors by code 0 c, 1 b, 2 l, 3 u, SIGNS, VARMAP (R200, R203). -/
def valueAt (m : Memory) (i : Nat) : Dword := BitVec.ofNat 64 (img64 m (sectionAt m 8 + 8 * i))
def vectorAt (m : Memory) (block j : Nat) : Dword := BitVec.ofNat 64 (img64 m (sectionAt m 9 + 8 * (hN m * block + j)))
def isDual (m : Memory) (j : Nat) : Bool := decide (img8 m (sectionAt m 7 + j) = 1)
def bindColumn (m : Memory) (i : Nat) : Nat := img32 m (sectionAt m 10 + 16 * i)
def bindTarget (m : Memory) (i : Nat) : Nat := img32 m (sectionAt m 10 + 16 * i + 4)
def bindStep (m : Memory) (i : Nat) : Nat := img16 m (sectionAt m 10 + 16 * i + 8)
def bindKind (m : Memory) (i : Nat) : Nat := img8 m (sectionAt m 10 + 16 * i + 10)
def bindWeight (m : Memory) (i : Nat) : Word := BitVec.ofNat 32 (img32 m (sectionAt m 10 + 16 * i + 12))

/-- The bindings of a kind whose column has the sign that the kind needs (R258), in VARMAP order. -/
def bindings (m : Memory) (kind : Nat) : List Nat :=
  (List.range (hBindings m)).filter (fun i =>
    decide (bindKind m i = kind) && decide (isDual m (bindColumn m i) = decide (kind = 3)))

/-- The lineage map's pairs (R206). -/
def lineagePair (m : Memory) (i : Nat) : Nat × Nat :=
  let o := sectionAt m 11 + 32 + 8 * i
  (img32 m o, img32 m (o + 4))
def lineageOld (m : Memory) : Bytes := memLoad m (sectionAt m 11) 16
def lineageOldN (m : Memory) : Nat := img32 m (sectionAt m 11 + 16)

/-- The structure signature (R205). -/
def signatureOf (m : Memory) : Bytes :=
  let sn := (List.range (hS m)).flatMap (fun i => le32 (snFirst m i) ++ le32 (snWidth m i) ++ le32 (snRows m i))
  let es := (List.range (hNnzA m)).flatMap (fun i => le32 (entryPlace m i).1 ++ le32 (entryPlace m i).2)
  (sha384 (ascii "VZD-CRS-SIG" ++ le 1 (hKind m) ++ le32 (hN m) ++ le32 (hPrimal m) ++ le16 (hHorizon m)
    ++ memLoad m (sectionAt m 7) (hN m) ++ memLoad m (sectionAt m 1) (4 * hS m) ++ sn
    ++ memLoad m (sectionAt m 3) (4 * hRows m) ++ es)).take 16

/-! ### The checks of R210 -/

/-- Order 4: MAGIC, VERSION, FLAGS, IMAGE_BYTES, KIND. -/
def headerOk (p bytes : Nat) (m : Memory) : Bool :=
  decide (img32 m 0 = 0x43535A56 ∧ img16 m 4 = 1 ∧ hFlags m < 4 ∧ img32 m 24 = bytes ∧ hKind m = p)

/-- Order 5, counts within R204. REACHES is judged at order 8; no check of R210 reads HORIZON or STEP_S. -/
def countsOk (m : Memory) : Bool :=
  decide (2 ≤ hN m ∧ hN m ≤ 8388608 ∧ 1 ≤ hPrimal m ∧ hPrimal m < hN m ∧ hN m ≤ hNnzA m ∧ hNnzA m ≤ 134217728)
    && decide (1 ≤ hNnzL m ∧ hNnzL m ≤ 536870912 ∧ 1 ≤ hS m ∧ hS m ≤ 1048576 ∧ hRows m ≤ hNnzL m)
    && decide (hMoves m ≤ 16777216 ∧ hMovesWide m ≤ (if hWide m then 16777216 else 0))
    && decide (1 ≤ hBindings m ∧ hBindings m ≤ 4194304)
    && (if hLineage m then decide (1 ≤ hMapped m ∧ hMapped m ≤ hN m) else decide (hMapped m = 0))

/-- Order 5, the section table as R197, R199 and R200 give it. -/
def partTableOk (bytes : Nat) (m : Memory) : Bool :=
  let w := placed 512 (wantedSections m)
  decide (hSections m = w.1.length)
    && (numbered w.1).all (fun e =>
      let o := 256 + 16 * e.1
      decide (img16 m o = e.2.1 ∧ img16 m (o + 2) = 0 ∧ img32 m (o + 4) = e.2.2.1 ∧ img32 m (o + 8) = e.2.2.2
        ∧ img32 m (o + 12) = 0))
    && (List.range (16 - hSections m)).all (fun i => allZero (memLoad m (256 + 16 * (hSections m + i)) 16))
    && decide (bytes = roundUp (w.2 + 64) 1048576)

/-- Order 5, NNZ_L and ROWS equal to their sums under R201. -/
def sumsOk (m : Memory) : Bool :=
  decide (hRows m = ((List.range (hS m)).map (snRows m)).sum ∧ hNnzL m = ((List.range (hS m)).map (snFactor m)).sum)

/-- Order 6, ETREE in postorder with the children that SNODE counts (R200, R201). -/
def treeOk (m : Memory) : Bool :=
  (List.range (hS m)).all (fun i =>
    decide (treeParent m i = 0xFFFFFFFF ∨ (i < treeParent m i ∧ treeParent m i < hS m))
    && decide (snChildren m i = (List.range (hS m)).countP (fun k => decide (treeParent m k = i)))
    -- a subtree is numbered without a gap: the parent of a supernode between a child and its parent lies there too
    && (List.range i).all (fun k => decide (treeParent m k ≤ i ∨ treeParent m k = 0xFFFFFFFF ∨
        (treeParent m i ≤ treeParent m k ∧ treeParent m i ≠ 0xFFFFFFFF))))

/-- Order 6, SNODE contiguous and in running sums (R201). -/
def snodesOk (m : Memory) : Bool :=
  let f := (List.range (hS m)).foldl (fun (a : Nat × Nat × Nat × Bool) i =>
    (a.1 + snWidth m i, a.2.1 + snRows m i, a.2.2.1 + snFactor m i,
      a.2.2.2 && decide (snFirst m i = a.1 ∧ 1 ≤ snWidth m i ∧ snRowOff m i = a.2.1 ∧ snFactOff m i = a.2.2.1)))
    (0, 0, 0, true)
  f.2.2.2 && decide (f.1 = hN m)

/-- Order 6, ROWIDX strictly increasing, above the supernode's columns and below N (R200). -/
def rowsOk (m : Memory) : Bool :=
  (List.range (hS m)).all (fun i => (List.range (snRows m i)).all (fun k =>
    let r := rowIndex m (snRowOff m i + k)
    decide (snFirst m i + snWidth m i ≤ r ∧ r < hN m ∧ (k = 0 ∨ rowIndex m (snRowOff m i + (k - 1)) < r))))

/-- Order 6, ENTRYMAP as R203. -/
def entriesOk (m : Memory) : Bool :=
  let ps := (List.range (hNnzA m)).map (entryPosition m)
  (List.range (hNnzA m)).all (fun i =>
      decide (entryPosition m i < hNnzL m ∧ entryBlock m i ≤ 2) && allZero (memLoad m (sectionAt m 6 + 8 * i + 5) 3))
    && decide ps.Nodup
    && (List.range (hN m)).all (fun j => (List.range (hNnzA m)).any (fun i => decide (entryPlace m i = (j, j))))

/-- Order 6, a schedule as R202: `n` records at `o` for `reaches` reaches. -/
def scheduleOk (m : Memory) (o n reaches : Nat) : Bool :=
  (List.range n).all (fun i =>
      let a := o + 16 * i
      let op := img8 m a
      decide (1 ≤ op ∧ op ≤ 4 ∧ img8 m (a + 1) < reaches ∧ img16 m (a + 2) = 0 ∧ img32 m (a + 4) < hS m)
      && decide (img32 m (a + 12) ≤ 1048576)
      && (if op = 3 then decide (img32 m (a + 8) < reaches) else decide (img32 m (a + 8) = 0))
      && decide (i = 0 ∨ img8 m (a - 15) ≤ img8 m (a + 1)))
    && (List.range (hS m)).all (fun k =>
      decide ((List.range n).countP (fun i => decide (img8 m (o + 16 * i) = 1 ∧ img32 m (o + 16 * i + 4) = k)) = 1))

/-- Order 6, SIGNS: 0 on the primal columns, 1 on the rest (R200). -/
def signsOk (m : Memory) : Bool :=
  (List.range (hN m)).all (fun j => decide (img8 m (sectionAt m 7 + j) = (if j < hPrimal m then 0 else 1)))

/-- Order 6, a VARMAP record as R203. -/
def bindingOk (m : Memory) (i : Nat) : Bool :=
  let plan := decide (hKind m = 1)
  let w := bindWeight m i
  decide (bindColumn m i < hN m) && decide (img8 m (sectionAt m 10 + 16 * i + 11) = 0) &&
  match bindKind m i with
  | 0 => !plan && decide (bindTarget m i < 2 ^ 28 ∧ bindStep m i = 0) &&
      (match val32 w with
        | some q => decide (0 < q)
        | none => false)
  | 1 => !plan && decide (bindStep m i = 0 ∧ w = 0)
  | 2 => plan && decide (bindTarget m i ≤ 65535 ∧ bindStep m i < hHorizon m ∧ w = 0)
  | 3 => plan && decide (bindStep m i = 0 ∧ w = 0)
  | _ => false

/-- The infinities of binary64. -/
def infNeg : Dword := 0xFFF0000000000000
def infPos : Dword := 0x7FF0000000000000

/-- Order 6, VALUES and VECTORS without NaN, infinities only in l and u. -/
def numbersOk (m : Memory) : Bool :=
  (List.range (hNnzA m)).all (fun i => finite64 (valueAt m i))
    && (List.range (hN m)).all (fun j =>
      finite64 (vectorAt m 0 j) && finite64 (vectorAt m 1 j)
      && (finite64 (vectorAt m 2 j) || decide (vectorAt m 2 j = infNeg))
      && (finite64 (vectorAt m 3 j) || decide (vectorAt m 3 j = infPos)))

/-- A pair of LINEAGE joins columns of one sign, primal or dual; the old column's is known while the course that it maps
from is resident (R200, R206). -/
def sameSign (resident : Option Course) (m : Memory) (e : Nat × Nat) : Bool := match resident with
  | none => true
  | some r => decide (hSignature r.image ≠ lineageOld m) || (decide (e.1 < hPrimal m) == decide (e.2 < hPrimal r.image))

/-- Order 6, LINEAGE as R206. -/
def lineageOk (resident : Option Course) (m : Memory) : Bool :=
  if !hLineage m then true
  else
    let ps := (List.range (hMapped m)).map (lineagePair m)
    decide (img32 m (sectionAt m 11 + 20) = hMapped m) && allZero (memLoad m (sectionAt m 11 + 24) 8)
      && ps.all (fun e => decide (e.1 < hN m ∧ e.2 < lineageOldN m))
      && decide (ps.Pairwise (fun a b => a.1 < b.1)) && decide (ps.map (·.2)).Nodup
      && ps.all (sameSign resident m) && decide (lineageOld m ≠ hSignature m)

/-- All of order 6. -/
def contentsOk (resident : Option Course) (m : Memory) : Bool :=
  treeOk m && snodesOk m && rowsOk m && entriesOk m && scheduleOk m (sectionAt m 4) (hS m + hMoves m) (hReaches m)
    && (if hasWide m then scheduleOk m (sectionAt m 5) (hS m + hMovesWide m) 64 else true)
    && signsOk m && (List.range (hBindings m)).all (bindingOk m) && numbersOk m
    && lineageOk resident m

/-- Reaches of a partition under E (R223). -/
def partitionReaches (e p : Nat) : Nat := if p = 0 then e else 64 - e

/-- The status of the first check of R210 after order 1 that fails; none when all pass. -/
def commitCheck (s : State) (p : Nat) (l : CourseLoad) : Option Half :=
  let m := l.image
  if l.blocks.length ≠ l.bytes / 64 then some stIncomplete
  else if memLoad m (l.bytes - 64) 48 ≠ sha384 (memLoad m 0 (l.bytes - 64)) then some stSignature
  else if !headerOk p l.bytes m then some stOutOfRange
  else if !(countsOk m && partTableOk l.bytes m && sumsOk m) then some stSectionSize
  else if !contentsOk (coursesOf s p).resident m then some stOutOfRange
  else if signatureOf m ≠ hSignature m ∨ signatureOf m ≠ l.signature then some stStructure
  else if hReaches m ≠ partitionReaches s.slv.reaches p then some stOutOfRange
  else none

/-! ### Loading (R207 to R213) -/

/-- Bytes of the course area in use (R207). -/
def courseBytes (x : Courses) : Nat :=
  (x.resident.map (·.bytes)).getD 0 + (x.coming.map (·.bytes)).getD 0 + (x.load.map (·.bytes)).getD 0
def areaUsed (s : State) : Nat := (s.courses.map (fun e => courseBytes e.2)).sum
def areaBytes : Nat := 8589934592

/-- A transport's code in a payload (R41). -/
def transportCode : Transport → Nat
  | .pcie => 0
  | .udp => 1
  | .spi => 2

/-- The 12 bytes of a resource's holder that ST_BUSY carries (R41). -/
def holderBytes (s : State) (sid : Word) : Bytes :=
  match s.vcp.sessions.find? (fun x => decide (x.sid = sid)) with
  | none => le32 sid.toNat ++ zeros 8
  | some x => le32 x.sid.toNat ++ le32 x.credential.toNat ++ le 1 x.role ++ le 1 (transportCode x.transport) ++ le16 0

/-- A load is held on the partition by another session. -/
def loadElsewhere (s : State) (p : Nat) (sid : Word) : Option Word :=
  match (coursesOf s p).load with
  | some l => if l.sid = sid then none else some l.sid
  | none => none

/-- The load of a session on a partition. -/
def ownLoad (s : State) (p : Nat) (sid : Word) : Option CourseLoad :=
  (coursesOf s p).load.filter (fun l => decide (l.sid = sid))

/-- A load is discarded: EV_CRS_LOAD_LOST (R212, R217). -/
def dropLoad (p : Nat) (s : State) : State :=
  if (coursesOf s p).load.isSome then raise 45 (modCourses p (fun x => { x with load := none }) s) else s

/-- The loads of a session that closes are discarded (R212). -/
def dropLoadsOf (sid : Word) (s : State) : State :=
  applyAll (fun p t => if (ownLoad t p sid).isSome then dropLoad p t else t) [0, 1] s

/-- CRS_BEGIN (R208). -/
def crsBeginBody (c : Call) (s : State) : State × Reply :=
  let p := u8 c.payload 0
  let n := u32 c.payload 4
  let own := ((ownLoad s p c.sid).map (·.bytes)).getD 0
  if c.payload.length ≠ 24 then no stLength s
  else if 1 < p ∨ slice c.payload 1 3 ≠ zeros 3 then no stOutOfRange s
  else if n = 0 ∨ n % 1048576 ≠ 0 ∨ 2147483648 < n then no stOutOfRange s
  else match loadElsewhere s p c.sid with
    | some h => (s, .busy (holderBytes s h))
    | none =>
      if areaBytes < areaUsed s - own + n then no stNoSpace s
      else yes [] (modCourses p (fun x => { x with
        load := some { sid := c.sid, bytes := n, signature := slice c.payload 8 16, image := [], blocks := [] } })
        (dropLoad p s))

/-- A number taken into a rising list without repeats. -/
def insertRising (n : Nat) : List Nat → List Nat
  | [] => [n]
  | k :: t => if n < k then n :: k :: t else if n = k then k :: t else k :: insertRising n t

/-- The partition of the session's open load (R207): the lower when it holds both. -/
def loadPartition (s : State) (sid : Word) : Option Nat := [0, 1].find? (fun p => (ownLoad s p sid).isSome)

/-- CRS_DATA (R209). -/
def crsDataBody (c : Call) (s : State) : State × Reply :=
  let o := u32 c.payload 0
  let data := c.payload.drop 4
  if c.payload.length < 4 ∨ data.length = 0 ∨ data.length % 64 ≠ 0 then no stLength s
  else match loadPartition s c.sid with
    | none => no stNotFound s
    | some p => match (coursesOf s p).load with
      | none => no stNotFound s
      | some l =>
        if o % 64 ≠ 0 ∨ l.bytes < o + data.length then no stOutOfRange s
        else yes [] (modCourses p (fun x => { x with load := some { l with
          image := memStore l.image o data
          blocks := (List.range (data.length / 64)).foldl (fun t i => insertRising (o / 64 + i) t) l.blocks } }) s)

/-- CRS_COMMIT (R210, R211). -/
def crsCommitBody (c : Call) (s : State) : State × Reply :=
  let p := u8 c.payload 0
  if c.payload.length ≠ 4 then no stLength s
  else if 1 < p ∨ slice c.payload 1 3 ≠ zeros 3 then no stOutOfRange s
  else match loadElsewhere s p c.sid with
    | some h => (s, .busy (holderBytes s h))
    | none => match ownLoad s p c.sid with
      | none => no stNotFound s
      | some l => match commitCheck s p l with
        | some st => no st s
        | none => yes (le32 (hSections l.image))
            (modCourses p (fun x => { x with coming := some { bytes := l.bytes, image := l.image }, load := none }) s)

/-- CRS_DROP (R212). -/
def crsDropBody (c : Call) (s : State) : State × Reply :=
  let p := u8 c.payload 0
  if c.payload.length ≠ 4 then no stLength s
  else if 1 < p ∨ slice c.payload 1 3 ≠ zeros 3 then no stOutOfRange s
  else match loadElsewhere s p c.sid with
    | some h => (s, .busy (holderBytes s h))
    | none => yes [] (modCourses p (fun _ => {}) s)

/-- The 176 bytes of CRS_INFO (R213). -/
def courseInfo (x : Courses) : Bytes := match x.resident with
  | none => zeros 44 ++ le32 (64 * ((x.load.map (fun l => l.blocks.length)).getD 0)) ++ zeros 128
  | some r =>
    let m := r.image
    hSignature m ++ le 1 (if x.coming.isSome then 2 else 1) ++ le 1 (hKind m) ++ le 1 (hReaches m) ++ le 1 (hFlags m)
      ++ le32 (img32 m 24) ++ le32 (hN m) ++ le32 (hNnzA m) ++ le64 (hNnzL m) ++ le32 (hS m)
      ++ le32 (64 * ((x.load.map (fun l => l.blocks.length)).getD 0))
      ++ (List.range 16).flatMap (fun i => le16 (img16 m (256 + 16 * i)) ++ le16 0 ++ le32 (img32 m (264 + 16 * i)))

/-- CRS_INFO (R213). -/
def crsInfoBody (c : Call) (s : State) : State × Reply :=
  let p := u8 c.payload 0
  if c.payload.length ≠ 4 then no stLength s
  else if c.cap < 176 then no stRspSpace s
  else if 1 < p ∨ slice c.payload 1 3 ≠ zeros 3 then no stOutOfRange s
  else yes (courseInfo (coursesOf s p)) s

/-! ### Delta lists (R214 to R216) -/

/-- Entries of a matrix of a course (R214). -/
def matrixEntries (m : Memory) (code : Nat) : Nat :=
  if code = 0 then hNnzA m else if code = 5 then hBindings m else hN m

/-- The address and the width of an entry of a matrix. -/
def entryAddress (m : Memory) (code e : Nat) : Nat :=
  if code = 0 then sectionAt m 8 + 8 * e
  else if code = 5 then sectionAt m 10 + 16 * e + 12
  else sectionAt m 9 + 8 * (hN m * (code - 1) + e)

/-- The largest finite binary32. -/
def f32Max : Rat := ((2 ^ 24 - 1 : Nat) : Rat) * pow2 104

/-- An entry of a delta list in range (R215, checks of step 15). -/
def deltaOk (m : Memory) (code : Nat) (b : Bytes) : Bool :=
  let e := u32 b 0
  let v := w64 b 8
  decide (e < matrixEntries m code) && decide (u32 b 4 = 0)
    && !(decide (code = 0) && decide (entryBlock m e = 2))
    && (finite64 v || decide (code = 3 ∧ v = infNeg) || decide (code = 4 ∧ v = infPos))
    && (decide (code ≠ 5) || (decide (bindKind m e = 0 ∧ 0 < num64 v ∧ num64 v ≤ f32Max)))

/-- One entry applied (R215): matrix 5 rounded to binary32. -/
def applyDelta (code : Nat) (m : Memory) (b : Bytes) : Memory :=
  let a := entryAddress m code (u32 b 0)
  if code = 5 then memStore m a (le32 (fp32 (num64 (w64 b 8))).toNat) else memStore m a (slice b 8 8)

/-- A whole delta list applied to the resident values of its partition. -/
def applyDeltas (payload : Bytes) (s : State) : State :=
  let n := u32 payload 20
  modCourses (u8 payload 0) (fun x => { x with resident := x.resident.map (fun r => { r with
    image := (rowsOf payload 24 16 n).foldl (applyDelta (u8 payload 1)) r.image }) }) s

/-- Size of the forecast ring (R275). -/
def ringBytes : Nat := 1073741824

/-- Bytes held in the forecast ring: each list's payload. -/
def ringUsed (l : List Forecast) : Nat := (l.map (fun f => f.payload.length)).sum

/-- The oldest lists dropped while the ring would hold more than its size. -/
def dropOldest : List Forecast → List Forecast
  | [] => []
  | f :: t => if ringBytes < ringUsed (f :: t) then dropOldest t else f :: t

/-- The lists that are older than a day are dropped (R275). -/
def dropAged (s : State) (l : List Forecast) : List Forecast :=
  l.filter (fun f => decide (servoNs s ≤ f.time + 86400 * 1000000000))

/-- A matrix-2 list of partition 1 is recorded with its SERVO execution time; lists older than a day go (R275). -/
def recordForecast (payload : Bytes) (s : State) : State :=
  if u8 payload 0 = 1 ∧ u8 payload 1 = 2 ∧ ¬s.pln.frozen then
    let l := s.pln.ring ++ [{ payload := payload, time := servoNs s, days := 0 }]
    { s with pln := { s.pln with ring := dropOldest (dropAged s l) } }
  else s

/-- The number of the job of a partition that last started (R367). -/
def lastStarted (s : State) (p : Nat) : Nat := match tfind s.slv.running p with
  | some r => r.job.number
  | none => (tget s.slv.shown p {}).number

/-- CRS_DELTA (R215, R216). -/
def crsDeltaBody (c : Call) (s : State) : State × Reply :=
  let b := c.payload
  let p := u8 b 0
  let code := u8 b 1
  let n := u32 b 20
  if b.length < 24 ∨ (b.length - 24) % 16 ≠ 0 then no stLength s
  else if n = 0 ∨ n ≠ (b.length - 24) / 16 then no stDeltaCount s
  else if 1 < p ∨ 5 < code ∨ u16 b 2 ≠ 0 then no stOutOfRange s
  else match residentCourse s p with
    | none => no stNotFound s
    | some r =>
      if slice b 4 16 ≠ hSignature r.image then no stStructure s
      else if matrixEntries r.image code < n then no stDeltaCount s
      else if !(rowsOf b 24 16 n).all (deltaOk r.image code) then no stOutOfRange s
      else yes [] (mirror (jobTag p (lastStarted s p)) (.delta b) (recordForecast b (applyDeltas b s)))

end Sys2Proof.Machine
end

