-- ==== Sys2Proof/Machine/Solver.lean ====
section
/-! DEFINITION. The problem of a job and its starting iterate (R253, R257 to R260, R263 to R266). -/

namespace Sys2Proof.Machine

/-! ### Binary64 operations (R231) -/

/-- The larger and the smaller of two finite values. -/
def fmax (a b : Dword) : Dword := if fle a b then b else a
def fmin (a b : Dword) : Dword := if fle a b then a else b

/-- The entry of a vector. -/
def at64 (l : List Dword) (j : Nat) : Dword := l.getD j f0

/-! ### The problem of a job -/

/-- The KKT entries of a course: row, column, value (R203, R257). -/
def kktEntries (m : Memory) : List (Nat × Nat × Dword) :=
  (List.range (hNnzA m)).map (fun i => ((entryPlace m i).1, (entryPlace m i).2, valueAt m i))

/-- Parameters of the record (R253). -/
def recPeriod (r : Bytes) : Nat := u32 r 0
def recOffset (r : Bytes) : Nat := u32 r 4
def recDeadline (r : Bytes) : Nat := u32 r 8
def recMaxIter (r : Bytes) : Nat := u16 r 12
def recRefine (r : Bytes) : Nat := u8 r 14
def recWide (r : Bytes) : Nat := u8 r 15
def recWarm (r : Bytes) : Bool := decide (u8 r 16 = 1)
def recMask (r : Bytes) : Nat := u8 r 17
def recGapS (r : Bytes) : Nat := u16 r 18
def recBeforeS (r : Bytes) : Nat := u16 r 20
def recAfterS (r : Bytes) : Nat := u16 r 22
def recTransient (r : Bytes) : List Nat := (List.range 8).map (fun i => u32 r (24 + 4 * i))
def recRho (r : Bytes) : Dword := w64 r 56
def recTau (r : Bytes) : Dword := w64 r 64
def recDelta (r : Bytes) : Dword := w64 r 72
def recEpsRef (r : Bytes) : Dword := w64 r 80
def recEpsFail (r : Bytes) : Dword := w64 r 88
def recEpsP (r : Bytes) : Dword := w64 r 96
def recEpsD (r : Bytes) : Dword := w64 r 104
def recEpsMu (r : Bytes) : Dword := w64 r 112
def recStepFrac (r : Bytes) : Dword := w64 r 120
def recInfY (r : Bytes) : Dword := w64 r 128
def recMinMeas (r : Bytes) : Dword := w64 r 136
def recResid (r : Bytes) : Dword := w64 r 144

/-- c of a job: with the measurements' terms of R259. -/
def costOf (m : Memory) (ms : List Measured) (j : Nat) : Dword :=
  ms.foldl (fun c x => if x.column = j then fadd c (fneg (fmul x.weight x.z)) else c) (vectorAt m 0 j)

/-- The entries with the measurements' diagonal terms (R259). -/
def withWeights (ms : List Measured) (es : List (Nat × Nat × Dword)) : List (Nat × Nat × Dword) :=
  es.map (fun e => if e.1 = e.2.1 then
    (e.1, e.2.1, ms.foldl (fun v x => if x.column = e.1 then fadd v (fneg x.weight) else v) e.2.2) else e)

/-- A finite lower or upper bound of a primal column (R258). -/
def lowerOf (m : Memory) (j : Nat) : Option Dword :=
  if isDual m j then none else if finite64 (vectorAt m 2 j) then some (vectorAt m 2 j) else none
def upperOf (m : Memory) (j : Nat) : Option Dword :=
  if isDual m j then none else if finite64 (vectorAt m 3 j) then some (vectorAt m 3 j) else none

/-! ### The starting iterate (R263 to R265) -/

def half64 : Dword := 0x3FE0000000000000

/-- A primal column's cold start (R263). -/
def coldX (m : Memory) (j : Nat) : Dword := match lowerOf m j, upperOf m j with
  | some l, some u => fmul half64 (fadd l u)
  | some l, none => fadd l f1
  | none, some u => fsub u f1
  | none, none => f0

/-- The cold start (R263). -/
def coldStart (m : Memory) : Iterate :=
  let js := List.range (hN m)
  { v := js.map (fun j => if isDual m j then f0 else coldX m j)
    zl := js.map (fun j => if (lowerOf m j).isSome then f1 else f0)
    zu := js.map (fun j => if (upperOf m j).isSome then f1 else f0)
    d := js.map (fun _ => f0) }

/-- 10^-4 and 10^-6 in binary64. -/
def f1em4 : Dword := fp64 (1 / 10000)
def f1em6 : Dword := fp64 (1 / 1000000)

/-- A warm x moved into the interior (R264): gamma inside each finite bound, no further than the midpoint. With one
bound infinite gamma is 10^-4 (log entry 31). -/
def interior (m : Memory) (j : Nat) (x : Dword) : Dword := match lowerOf m j, upperOf m j with
  | some l, some u =>
    let mid := fmul half64 (fadd l u)
    let g := fmul f1em4 (fmax f1 (fsub u l))
    fmin (fmax x (fmin (fadd l g) mid)) (fmax (fsub u g) mid)
  | some l, none => fmax x (fadd l f1em4)
  | none, some u => fmin x (fsub u f1em4)
  | none, none => x

/-- A warm iterate moved into the interior (R264). -/
def warmed (m : Memory) (i : Iterate) : Iterate :=
  let js := List.range (hN m)
  { v := js.map (fun j => if isDual m j then at64 i.v j else interior m j (at64 i.v j))
    zl := js.map (fun j => if (lowerOf m j).isSome then fmax (at64 i.zl j) f1em6 else f0)
    zu := js.map (fun j => if (upperOf m j).isSome then fmax (at64 i.zu j) f1em6 else f0)
    d := js.map (fun j => at64 i.d j) }

/-- An iterate carried over by a lineage map: mapped columns from the old, the rest cold (R206, R264). -/
def lineaged (m : Memory) (old : Iterate) : Iterate :=
  let cold := coldStart m
  let js := List.range (hN m)
  let from_ := fun j => ((List.range (hMapped m)).map (lineagePair m)).find? (fun e => decide (e.1 = j))
  let take := fun (o c : List Dword) => js.map (fun j => match from_ j with
    | some e => at64 o e.2
    | none => at64 c j)
  { v := take old.v cold.v, zl := take old.zl cold.zl, zu := take old.zu cold.zu, d := take old.d cold.d }

/-- The column of quantity q at step s; none when no CONTROL binding has it. -/
def controlColumn (m : Memory) (q step : Nat) : Option Nat :=
  ((bindings m 2).find? (fun i => decide (bindTarget m i = q ∧ bindStep m i = step))).map (bindColumn m)

/-- A PLAN's iterate shifted by k steps: a CONTROL column starts from the kept value k steps later (R265). -/
def shifted (m : Memory) (k : Nat) (i : Iterate) : Iterate :=
  let moves := (bindings m 2).map (fun b =>
    (bindColumn m b, controlColumn m (bindTarget m b) (min (bindStep m b + k) (hHorizon m - 1))))
  let take := fun (l : List Dword) => (List.range l.length).map (fun j =>
    match moves.find? (fun e => decide (e.1 = j)) with
    | some (_, some c) => at64 l c
    | _ => at64 l j)
  { v := take i.v, zl := take i.zl, zu := take i.zu, d := take i.d }

/-- The warm-flags bits (R266). -/
def wfWarm : Half := 1
def wfLineage : Half := 2
def wfPartial : Half := 4
def wfColdNone : Half := 8
def wfColdUnfit : Half := 16
def wfColdSet : Half := 32
def wfColdAfter : Half := 64
def wfInitDefault : Half := 128
def wfMeasLow : Half := 256
def wfFit : Half := 512
def wfPublished : Half := 1024
def wfWide : Half := 2048
def wfSplit : Half := 4096

/-- The first row of R264 that applies: the kept iterate that the job starts from (none for a cold start), the flags and
the hash of the job whose iterate it is; none when the job is refused with ST_NO_LINEAGE. -/
def startRow (m : Memory) (record : Bytes) (kept : Option Kept) (refused : Bool) : Option (Option Kept × Half × Bytes) :=
  if !recWarm record then some (none, wfColdSet, zeros 48)
  else match kept with
    | none => some (none, wfColdNone, zeros 48)
    | some k =>
      if k.status = stNumeric ∨ k.status = stAborted then some (none, wfColdUnfit, zeros 48)
      else if refused then some (none, wfColdAfter, zeros 48)
      else if k.signature = hSignature m then some (some k, wfWarm, k.hash)
      else if hLineage m && decide (lineageOld m = k.signature) then
        some (some k, wfLineage ||| (if hMapped m < hN m then wfPartial else 0), k.hash)
      else none

/-- The starting iterate on a working copy (R263 to R265): cold, or the kept one through the lineage map where the
structure differs, shifted for a PLAN, moved into the interior. -/
def startFrom (m : Memory) (plan : Bool) (t0 : Nat) (basis : Option Kept) : Iterate := match basis with
  | none => coldStart m
  | some k =>
    let i := if k.signature = hSignature m then k.iterate else lineaged m k.iterate
    warmed m (if plan then shifted m ((t0 - k.t0) / hStepS m) i else i)

end Sys2Proof.Machine
end

