-- ==== Sys2Proof/Machine/Fabric.lean ====
section
/-! DEFINITION. The solver fabric at work (R223 to R240, R261, R262): schedules and their records, the confluence unit,
the LDLt factorisation, solves and refinement, the stages of an interior-point iteration, its tests and the result hash.
The spec gives the factorisation operation by operation (R228); where it gives a formula over the reals only, the order
of the binary64 operations is the model's (DESIGN CHOICE, log entry 30). -/

namespace Sys2Proof.Machine

/-! ### Schedules (R202, R223, R227) -/

/-- A record of a schedule. -/
structure SchedRecord where
  op : Nat
  reach : Nat
  snode : Nat
  peer : Nat
  bytes : Nat
deriving DecidableEq, Repr

/-- The records of SCHED, or of SCHED64. -/
def schedule (m : Memory) (wide : Bool) : List SchedRecord :=
  let o := sectionAt m (if wide then 5 else 4)
  (List.range (hS m + (if wide then hMovesWide m else hMoves m))).map (fun i =>
    let a := o + 16 * i
    { op := img8 m a, reach := img8 m (a + 1), snode := img32 m (a + 4), peer := img32 m (a + 8), bytes := img32 m (a + 12) })

/-- Reaches of a job (R198, R224), numbered from 0 within it. -/
def reachesOf (m : Memory) (wide : Bool) : Nat := if wide then 64 else hReaches m

/-- The physical reach of a job's reach: E x p + REACH under SCHED, the reach named under SCHED64 (R223). -/
def physical (e p : Nat) (wide : Bool) (q : Nat) : Nat := if wide then q else e * p + q

/-- A reach's own records, in their order; a solve on the way down reads them backwards (R227). -/
def ownRecords (m : Memory) (wide : Bool) (q : Nat) : List SchedRecord :=
  (schedule m wide).filter (fun x => decide (x.reach = q))
def passRecords (r : Running) (f : Fab) (q : Nat) : List SchedRecord := match f.stage with
  | .down _ => (ownRecords r.work r.wide q).reverse
  | _ => ownRecords r.work r.wide q

/-- The supernode of a column, its columns and its off-diagonal rows (R201). -/
def snodeOfColumn (m : Memory) (j : Nat) : Nat :=
  ((List.range (hS m)).find? (fun k => decide (snFirst m k ≤ j ∧ j < snFirst m k + snWidth m k))).getD 0
def snColumns (m : Memory) (k : Nat) : List Nat := (List.range (snWidth m k)).map (fun i => snFirst m k + i)
def snRowList (m : Memory) (k : Nat) : List Nat := (List.range (snRows m k)).map (fun i => rowIndex m (snRowOff m k + i))

/-- Children of a supernode, and whether one lies below another in ETREE. -/
def childrenOf (m : Memory) (k : Nat) : List Nat := (List.range (hS m)).filter (fun i => decide (treeParent m i = k))
def below (m : Memory) (k : Nat) : Nat → Nat → Bool
  | 0, _ => false
  | n + 1, i => decide (treeParent m i = k) || (decide (treeParent m i < hS m) && below m k n (treeParent m i))

/-- The reach that owns a column: the one whose FACTOR record has its supernode (DEDUCED from R238, R240; log entry
129). -/
def ownerOf (m : Memory) (wide : Bool) (j : Nat) : Nat :=
  (((schedule m wide).find? (fun x => decide (x.op = 1 ∧ x.snode = snodeOfColumn m j))).map (·.reach)).getD 0

/-! ### The confluence unit (R237, R238) -/

inductive JoinOp where
  | sum
  | max
  | min
  | maxAbs
deriving DecidableEq, Repr

/-- a above b, -0.0 below +0.0. -/
def above (a b : Dword) : Bool :=
  flt b a || (decide (num64 a = 0 ∧ finite64 a = true ∧ num64 b = 0 ∧ finite64 b = true) && !a.getLsbD 63 && b.getLsbD 63)

/-- Two values joined; a NaN makes the result NaN. -/
def joinTwo (o : JoinOp) (a b : Dword) : Dword :=
  if isNan64 a || isNan64 b then nan64
  else match o with
    | .sum => fadd a b
    | .max => if above b a then b else a
    | .min => if above a b then b else a
    | .maxAbs => if flt (fabs a) (fabs b) then fabs b else fabs a

/-- The partial of a reach that owns no entries. -/
def emptyPartial : JoinOp → Dword
  | .sum => f0
  | .max => infNeg
  | .min => infPos
  | .maxAbs => f0

/-- A value of a reduction: its operator and the products that go into it, each with the index of its entry. -/
structure Joined where
  op : JoinOp
  terms : List (Nat × Dword × Dword)

/-- A lane's sum: the entries whose index is congruent to k modulo 8, in increasing index order, each by one fused
multiply-add. -/
def laneSum (n : Nat) (ts : List (Nat × Dword × Dword)) (k : Nat) : Dword :=
  ((List.range n).filter (fun i => decide (i % 8 = k))).foldl (fun a i =>
    (ts.filter (fun e => decide (e.1 = i))).foldl (fun b e => ffma e.2.1 e.2.2 b) a) f0

/-- The partial of a reach over its owned entries; `n` bounds the index. -/
def partialOf (n : Nat) (x : Joined) (own : Nat → Bool) : Dword :=
  let ts := x.terms.filter (fun e => own e.1)
  match x.op with
  | .sum =>
    let l := laneSum n ts
    fadd (fadd (fadd (l 0) (l 1)) (fadd (l 2) (l 3))) (fadd (fadd (l 4) (l 5)) (fadd (l 6) (l 7)))
  | o => (ts.map (fun e => e.2.1)).foldl (joinTwo o) (emptyPartial o)

/-- The partials that a reach sends for a reduction's values. -/
def partialsOf (r : Running) (xs : List Joined) (q : Nat) : List Dword :=
  xs.map (fun x => partialOf (hN r.work) x (fun j => decide (ownerOf r.work r.wide j = q)))

/-- The partials joined in increasing order of reach index; the order in which they came enters no result. -/
def joinAll (xs : List Joined) (ps : List (List Dword)) : List Dword :=
  (numbered xs).map (fun e => match ps.map (fun p => p.getD e.1 f0) with
    | [] => emptyPartial e.2.op
    | a :: t => t.foldl (joinTwo e.2.op) a)

/-- A whole reduction of a job. -/
def reduceAll (r : Running) (xs : List Joined) : List Dword :=
  joinAll xs ((List.range (reachesOf r.work r.wide)).map (partialsOf r xs))

/-- A value over columns: of the columns' own values, or of products. -/
def overColumns (o : JoinOp) (js : List Nat) (f : Nat → Dword) : Joined := { op := o, terms := js.map (fun j => (j, f j, f1)) }

/-! ### The problem of an iteration (R257 to R261) -/

/-- Columns of a sign. -/
def primals (m : Memory) : List Nat := (List.range (hN m)).filter (fun j => !isDual m j)
def duals (m : Memory) : List Nat := (List.range (hN m)).filter (isDual m)

/-- The working entries: VALUES with the measurements' terms. -/
def workEntries (r : Running) : List (Nat × Nat × Dword) := withWeights r.measured (kktEntries r.work)

/-- A start value and the products of column j of a symmetric matrix with a vector, in entry order, each by one fused
multiply-add; `sub` takes them away. -/
def columnTimes (sub : Bool) (es : List (Nat × Nat × Dword)) (x : List Dword) (j : Nat) (a : Dword) : Dword :=
  es.foldl (fun a e =>
    let k := if sub then fneg e.2.2 else e.2.2
    if e.1 = j then ffma k (at64 x e.2.1) a else if e.2.1 = j then ffma k (at64 x e.1) a else a) a

/-- r_d on primal columns, r_p on dual columns (R261, step 1): the matrix holds -H and A. -/
def residual (r : Running) (i : Iterate) (j : Nat) : Dword :=
  if isDual r.work j then columnTimes true (workEntries r) i.v j (vectorAt r.work 1 j)
  else fadd (fsub (columnTimes true (workEntries r) i.v j (costOf r.work r.measured j)) (at64 i.zl j)) (at64 i.zu j)

/-- The two sums of mu: z_l (x - l) and z_u (u - x) over the finite bounds. -/
def muSums (m : Memory) (i : Iterate) : List Joined :=
  [{ op := .sum, terms := (primals m).flatMap (fun j =>
      ((lowerOf m j).map (fun l => (j, at64 i.zl j, fsub (at64 i.v j) l))).toList) },
   { op := .sum, terms := (primals m).flatMap (fun j =>
      ((upperOf m j).map (fun u => (j, at64 i.zu j, fsub u (at64 i.v j)))).toList) }]

/-- Finite bounds of a course, and mu from its two sums: 0 without one. -/
def finiteBounds (m : Memory) : Nat :=
  ((primals m).map (fun j => bit (lowerOf m j).isSome + bit (upperOf m j).isSome)).sum
def muFrom (m : Memory) (h : List Dword) : Dword :=
  if finiteBounds m = 0 then f0 else fdiv (fadd (at64 h 0) (at64 h 1)) (fp64 (finiteBounds m))

/-- Sigma_j of the assembly. -/
def sigmaOf (m : Memory) (i : Iterate) (j : Nat) : Dword :=
  let lo := (lowerOf m j).elim f0 (fun l => fdiv (at64 i.zl j) (fsub (at64 i.v j) l))
  let up := (upperOf m j).elim f0 (fun u => fdiv (at64 i.zu j) (fsub u (at64 i.v j)))
  fadd lo up

/-- K of the iteration (R261, step 2): the working matrix with the interior-point terms on the primal diagonals. -/
def assembled (r : Running) : List (Nat × Nat × Dword) :=
  (workEntries r).map (fun e =>
    if e.1 = e.2.1 ∧ isDual r.work e.1 = false then (e.1, e.2.1, fsub e.2.2 (sigmaOf r.work r.iterate e.1)) else e)

/-! ### The factorisation (R228, R232, R233) -/

/-- The value of K + R at a row and column of its lower triangle: R is -rho on primal and +rho on dual diagonals. -/
def regularEntry (m : Memory) (rho : Dword) (ks : List (Nat × Nat × Dword)) (i j : Nat) : Dword :=
  let v := ((ks.find? (fun e => decide (e.1 = i ∧ e.2.1 = j))).map (fun e => e.2.2)).getD f0
  if i ≠ j then v else if isDual m j then fadd v rho else fsub v rho

/-- s_j: the largest magnitude among the column's entries, as the panel is loaded. -/
def scaleOf (m : Memory) (rho : Dword) (ks : List (Nat × Nat × Dword)) (j : Nat) : Dword :=
  ((ks.filter (fun e => decide (e.2.1 = j))).map (fun e => regularEntry m rho ks e.1 j)).foldl (joinTwo .maxAbs) f0

/-- The rows of column j's panel from j down: its supernode's later columns, then its off-diagonal rows. -/
def rowsFrom (m : Memory) (j : Nat) : List Nat :=
  let k := snodeOfColumn m j
  (snColumns m k).filter (fun i => decide (j ≤ i)) ++ snRowList m k

/-- L at a row of a factored column. -/
def lEntry (c : Column) (i : Nat) : Option Dword := (c.l.find? (fun e => decide (e.1 = i))).map (·.2)

/-- Column j, loaded and updated by the columns before it in pivot order, each entry by one fused multiply-add. -/
def updatedColumn (m : Memory) (rho : Dword) (ks : List (Nat × Nat × Dword)) (F : Table Column) (j : Nat) :
    List (Nat × Dword) :=
  F.foldl (fun a e => if e.1 < j then (match lEntry e.2 j with
      | none => a
      | some l =>
        let w := fmul l e.2.d
        a.map (fun x => match lEntry e.2 x.1 with
          | some y => (x.1, ffma (fneg y) w x.2)
          | none => x)) else a)
    ((rowsFrom m j).map (fun i => (i, regularEntry m rho ks i j)))

/-- What the pivot rule makes of a computed pivot: the pivot kept, whether it was replaced, whether its sign is wrong
(R233). The expected sign is negative on a primal column. -/
def judgePivot (m : Memory) (record : Bytes) (scale : Dword) (j : Nat) (d : Dword) : Dword × Bool × Bool :=
  let zero := decide (num64 d = 0) && finite64 d
  let neg := if zero then !isDual m j else d.getLsbD 63
  if isNan64 d then (d, false, false)
  else if zero || flt (fabs d) (fmul (recTau record) scale) then
    (if neg then fneg (recDelta record) else recDelta record, true, false)
  else (d, false, decide (d.getLsbD 63 = isDual m j))

/-- One column factored into the factor area. A column whose scale is 0 has the pivot 0 and is replaced. -/
def factorColumn (r : Running) (f : Fab) (j : Nat) : Fab :=
  let rho := recRho r.record
  let col := updatedColumn r.work rho f.k f.factor j
  let s := scaleOf r.work rho f.k j
  let d0 := if s = f0 then f0 else ((col.find? (fun e => decide (e.1 = j))).map (·.2)).getD f0
  let p := judgePivot r.work r.record s j d0
  let l := (col.filter (fun e => decide (e.1 ≠ j))).map (fun e => (e.1, fdiv e.2 p.1))
  { f with
    factor := tset f.factor j { d := p.1, l := l }
    replaced := if p.2.1 then insertRising j f.replaced else f.replaced
    wrong := f.wrong + bit p.2.2
    fault := f.fault || !finite64 p.1 || !l.all (fun e => finite64 e.2) }

/-- A supernode's panel factored column by column. -/
def factorSnode (r : Running) (f : Fab) (k : Nat) : Fab := (snColumns r.work k).foldl (factorColumn r) f

/-! ### Solves (R227, R236) -/

/-- The forward step of a supernode: each of its rows takes away the columns before it. -/
def forwardSnode (m : Memory) (F : Table Column) (k : Nat) (y : List Dword) : List Dword :=
  (snColumns m k).foldl (fun y j => y.set j (F.foldl (fun a e =>
    if e.1 < j then (match lEntry e.2 j with
      | some l => ffma (fneg l) (at64 y e.1) a
      | none => a) else a) (at64 y j))) y

/-- The backward step of a supernode: its columns from the last, divided by their pivots, less the rows below. -/
def backwardSnode (m : Memory) (F : Table Column) (k : Nat) (y : List Dword) : List Dword :=
  (snColumns m k).reverse.foldl (fun y j => match tfind F j with
    | some c => y.set j (c.l.foldl (fun a e => ffma (fneg e.2) (at64 y e.1) a) (fdiv (at64 y j) c.d))
    | none => y) y

/-- b - K0 x on every column (R236). -/
def refineResidual (r : Running) (f : Fab) (b x : List Dword) : List Dword :=
  (List.range (hN r.work)).map (fun j => columnTimes true f.k x j (at64 b j))

/-! ### The steps of the method (R261) -/

/-- The right-hand side of a centred system: t is sigma x mu, and the affine direction gives the second-order term. -/
def newtonRhs (r : Running) (t : Dword) (a : List Dword × List Dword × List Dword) (j : Nat) : Dword :=
  let m := r.work
  let i := r.iterate
  let base := residual r i j
  let lo := match lowerOf m j with
    | some l => fsub base (fsub (fdiv (fsub t (fmul (at64 a.1 j) (at64 a.2.1 j))) (fsub (at64 i.v j) l)) (at64 i.zl j))
    | none => base
  match upperOf m j with
  | some u => fadd lo (fsub (fdiv (fadd t (fmul (at64 a.1 j) (at64 a.2.2 j))) (fsub u (at64 i.v j))) (at64 i.zu j))
  | none => lo

/-- The multipliers' steps that go with a step in v; 0 where the bound is infinite and on dual columns. -/
def lowerStep (r : Running) (t : Dword) (a : List Dword × List Dword × List Dword) (dv : List Dword) (j : Nat) : Dword :=
  match lowerOf r.work j with
  | some l => fsub (fdiv (fsub (fsub t (fmul (at64 a.1 j) (at64 a.2.1 j))) (fmul (at64 r.iterate.zl j) (at64 dv j)))
      (fsub (at64 r.iterate.v j) l)) (at64 r.iterate.zl j)
  | none => f0
def upperStep (r : Running) (t : Dword) (a : List Dword × List Dword × List Dword) (dv : List Dword) (j : Nat) : Dword :=
  match upperOf r.work j with
  | some u => fsub (fdiv (fadd (fadd t (fmul (at64 a.1 j) (at64 a.2.2 j))) (fmul (at64 r.iterate.zu j) (at64 dv j)))
      (fsub u (at64 r.iterate.v j))) (at64 r.iterate.zu j)
  | none => f0

/-- A direction from its step in v. -/
def directionOf (r : Running) (t : Dword) (a : List Dword × List Dword × List Dword) (dv : List Dword) :
    List Dword × List Dword × List Dword :=
  let js := List.range (hN r.work)
  (dv, js.map (lowerStep r t a dv), js.map (upperStep r t a dv))

/-- The largest step along one value that keeps it at or above 0. -/
def stepTo (j : Nat) (x dx : Dword) : List (Nat × Dword × Dword) := if flt dx f0 then [(j, fdiv x (fneg dx), f1)] else []

/-- The longest step of a direction that keeps x within its bounds and the multipliers at or above 0: a MIN. -/
def longestStep (m : Memory) (i : Iterate) (d : List Dword × List Dword × List Dword) : List Joined :=
  [{ op := .min, terms := (primals m).flatMap (fun j =>
      ((lowerOf m j).map (fun l =>
        stepTo j (fsub (at64 i.v j) l) (at64 d.1 j) ++ stepTo j (at64 i.zl j) (at64 d.2.1 j))).getD []
      ++ ((upperOf m j).map (fun u =>
        stepTo j (fsub u (at64 i.v j)) (fneg (at64 d.1 j)) ++ stepTo j (at64 i.zu j) (at64 d.2.2 j))).getD []) }]

/-- A vector moved along a direction; an iterate moved. -/
def moved (a : Dword) (x d : List Dword) : List Dword := (x.zip d).map (fun e => ffma a e.2 e.1)
def movedIterate (a : Dword) (i : Iterate) (d : List Dword × List Dword × List Dword) : Iterate :=
  { v := moved a i.v d.1, zl := moved a i.zl d.2.1, zu := moved a i.zu d.2.2, d := d.1 }

/-! ### The tests (R258, R262) -/

/-- What the tests are taken on: r_p, r_d, b, c, y, and the two sums of mu, at an iterate. -/
def closingValues (r : Running) (i : Iterate) : List Joined :=
  let m := r.work
  [overColumns .maxAbs (duals m) (residual r i), overColumns .maxAbs (primals m) (residual r i),
   overColumns .maxAbs (duals m) (vectorAt m 1), overColumns .maxAbs (primals m) (costOf m r.measured),
   overColumns .maxAbs (duals m) (at64 i.v)] ++ muSums m i

/-- The primal feasibility test, the convergence test and the infeasibility test, on those values. -/
def feasibleBy (r : Running) (h : List Dword) : Bool := fle (at64 h 0) (fmul (recEpsP r.record) (fadd f1 (at64 h 2)))
def convergedBy (r : Running) (h : List Dword) : Bool :=
  feasibleBy r h && fle (at64 h 1) (fmul (recEpsD r.record) (fadd f1 (at64 h 3)))
    && fle (muFrom r.work (h.drop 5)) (recEpsMu r.record)

/-- A primal column with l >= u (R258). -/
def crossedBounds (m : Memory) : Bool := (primals m).any (fun j => match lowerOf m j, upperOf m j with
  | some l, some u => fle u l
  | _, _ => false)

def infeasibleBy (r : Running) (h : List Dword) : Bool :=
  crossedBounds r.work ||
    (!feasibleBy r h && !fle (at64 h 4) (fmul (recInfY r.record) (fadd f1 (at64 h 3))))

/-! ### The stages of an iteration (R227, R229, R237, R261) -/

/-- The values of a reduction. -/
def reductionOf (r : Running) (f : Fab) : Reduction → List Joined
  | .opening => muSums r.work r.iterate
      ++ [overColumns .maxAbs (duals r.work) (residual r r.iterate), overColumns .maxAbs (primals r.work) (residual r r.iterate)]
  | .affine => longestStep r.work r.iterate f.affine
  | .centring => muSums r.work (movedIterate f.alpha r.iterate f.affine)
  | .residual => [overColumns .maxAbs (List.range (hN r.work)) (at64 f.b), overColumns .maxAbs (List.range (hN r.work)) (at64 f.r)]
  | .refined => [overColumns .maxAbs (List.range (hN r.work)) (at64 f.r)]
  | .step => longestStep r.work r.iterate f.step
  | .closing => closingValues r f.next

/-- A pass over the records begins. -/
def beginPass (x : Stage) (f : Fab) : Fab := { f with stage := x, place := [], stepped := [] }

/-- A solve begins with a right-hand side. -/
def beginSolve (k : Solve) (b : List Dword) (f : Fab) : Fab := beginPass (.up k) { f with sol := b }

/-- Another refinement, or the end of the marked solve: a numeric fault, or the step of the iteration (R236). -/
def judgeRefine (r : Running) (f : Fab) : Fab :=
  let scale := fadd f1 f.normB
  if !fle f.rbest (fmul (recEpsRef r.record) scale) && decide (f.steps < recRefine r.record) then beginSolve .refine f.r f
  else
    { f with
      step := directionOf r f.centre f.affine f.best, stage := .reduce .step
      fault := f.fault || !fle f.rbest (fmul (recEpsFail r.record) scale) }

/-- sigma x mu: (mu_aff / mu) cubed, clamped to [0, 1], times mu. -/
def centreOf (mu muAff : Dword) : Dword :=
  let q := fdiv muAff mu
  let sigma := if num64 mu = 0 then f0 else fmax f0 (fmin f1 (fmul (fmul q q) q))
  fmul sigma mu

/-- A reduction's result is broadcast and the next phase begins. -/
def afterReduction (r : Running) (k : Reduction) (f : Fab) : Fab :=
  let h := fun n => at64 f.result n
  match k with
  | .opening => { f with mu := muFrom r.work f.result, stage := .assemble }
  | .affine => { f with alpha := fmin f1 (h 0), stage := .reduce .centring }
  | .centring =>
    let t := centreOf f.mu (muFrom r.work f.result)
    let b := (List.range (hN r.work)).map (newtonRhs r t f.affine)
    beginSolve .marked b { f with centre := t, b := b }
  | .residual => judgeRefine r { f with normB := h 0, rbest := h 1, best := f.x, steps := 0 }
  | .refined =>
    let better := flt (h 0) f.rbest
    judgeRefine r { f with
      steps := f.steps + 1, best := if better then f.x else f.best, rbest := if better then h 0 else f.rbest }
  | .step => { f with alpha := fmin f1 (fmul (recStepFrac r.record) (h 0)), stage := .update }
  | .closing => { f with stage := .done }

/-- A solve's result (R231, R236): the affine direction, the first candidate, or a refined one. -/
def afterSolve (r : Running) (k : Solve) (f0_ : Fab) : Fab :=
  let f := { f0_ with fault := f0_.fault || !f0_.sol.all finite64 }
  match k with
  | .affine => { f with affine := directionOf r f0 ([], [], []) f.sol, stage := .reduce .affine }
  | .marked => { f with x := f.sol, r := refineResidual r f f.b f.sol, stage := .reduce .residual }
  | .refine =>
    let x := (f.x.zip f.sol).map (fun e => fadd e.1 e.2)
    { f with x := x, r := refineResidual r f f.b x, stage := .reduce .refined }

/-- A pass over the records has ended. -/
def afterPass (r : Running) (f : Fab) : Fab := match f.stage with
  | .factor => beginSolve .affine ((List.range (hN r.work)).map (newtonRhs r f0 ([], [], []))) f
  | .up k => beginPass (.down k) f
  | .down k => afterSolve r k f
  | _ => f

/-- The partial of a reach enters the arrival queue; the last one begins the join (R237 to R239). A NaN in the result
is a numeric fault, and an infinity but in the length of a step that nothing limits (DESIGN CHOICE, log entry 130). -/
def sendPartial (r : Running) (k : Reduction) (q : Nat) (f : Fab) : Fab :=
  let xs := reductionOf r f k
  let a := tset f.arrivals q (partialsOf r xs q)
  if a.length < reachesOf r.work r.wide then { f with arrivals := a }
  else
    let z := joinAll xs (a.map (·.2))
    let open_ := decide (k = .affine ∨ k = .step)
    afterReduction r k { f with
      arrivals := [], result := z
      fault := f.fault || z.any (fun x => isNan64 x || (!open_ && !finite64 x)) }

/-- A record's own condition (R227). FETCH brings working values when the supernode's FACTOR is still ahead on its own
reach, factor data otherwise; a SEND is for the supernodes above its own that its peer factors; in the solves a FACTOR
record is a step that waits for its children, or on the way down for its parent (DEDUCED, log entry 131). -/
def recordReady (r : Running) (f : Fab) (q : Nat) (x : SchedRecord) : Bool :=
  let m := r.work
  match f.stage with
  | .factor => match x.op with
    | 1 => decide (tget f.left x.snode 0 = 0) && (schedule m r.wide).all (fun y =>
        decide (y.op ≠ 3 ∨ y.peer ≠ q) || !below m x.snode (hS m) y.snode || f.landed.contains (q, y.snode))
    | 2 => f.stored.contains x.snode
        || ((ownRecords m r.wide q).drop (tget f.place q 0)).any (fun y => decide (y.op = 1 ∧ y.snode = x.snode))
    | _ => f.factored.contains x.snode && decide (ownerOf m r.wide (snFirst m x.snode) = q)
  | .up _ => decide (x.op ≠ 1) || (childrenOf m x.snode).all (fun c => f.stepped.contains c)
  | .down _ => decide (x.op ≠ 1 ∨ hS m ≤ treeParent m x.snode) || f.stepped.contains (treeParent m x.snode)
  | _ => false

/-- The next record of a reach in the present pass. -/
def nextRecord (r : Running) (f : Fab) (q : Nat) : Option SchedRecord := (passRecords r f q)[tget f.place q 0]?

/-- The stage runs records. -/
def onRecords (f : Fab) : Bool := match f.stage with
  | .factor | .up _ | .down _ => true
  | _ => false

/-- The reaches that can take their next step: a record whose conditions hold, a partial not yet sent (a reach sends no
partial of the next reduction before it holds the result of this one); reach 0 for a step of the planner. -/
def startable (r : Running) (f : Fab) : List Nat :=
  let qs := List.range (reachesOf r.work r.wide)
  match f.stage with
  | .done => []
  | .assemble | .update => [0]
  | .reduce _ => qs.filter (fun q => (tfind f.arrivals q).isNone)
  | _ => qs.filter (fun q => match nextRecord r f q with
    | some x => recordReady r f q x
    | none => false)

/-- What the end of a record does. -/
def endRecord (r : Running) (q : Nat) (x : SchedRecord) (f : Fab) : Fab := match f.stage, x.op with
  | .factor, 1 =>
    let g := factorSnode r f x.snode
    { g with factored := g.factored ++ [x.snode], left := tmod g.left (treeParent r.work x.snode) 0 (· - 1) }
  | .factor, 3 => { f with landed := f.landed ++ [(x.peer, x.snode)] }
  | .factor, 4 => { f with stored := f.stored ++ [x.snode] }
  | .up _, 1 => { f with sol := forwardSnode r.work f.factor x.snode f.sol, stepped := f.stepped ++ [x.snode] }
  | .down _, 1 => { f with sol := backwardSnode r.work f.factor x.snode f.sol, stepped := f.stepped ++ [x.snode] }
  | _, _ => let _ := q; f

/-- Every reach has ended its records of the pass. -/
def passOver (r : Running) (f : Fab) : Bool :=
  (List.range (reachesOf r.work r.wide)).all (fun q => (nextRecord r f q).isNone)

/-- K is assembled and the factorisation begins (R261, steps 2 and 3). -/
def assemble (r : Running) (f : Fab) : Fab :=
  let g := beginPass .factor { f with
    k := assembled r, factor := [], replaced := [], wrong := 0, factored := [], stored := [], landed := []
    left := (List.range (hS r.work)).map (fun k => (k, snChildren r.work k)) }
  if passOver r g then afterPass r g else g

/-- One step of a reach: a record that ends, a partial that arrives, or a step of the planner. -/
def stepReach (r : Running) (q : Nat) (f0_ : Fab) : Fab :=
  let f := { f0_ with count := f0_.count + 1 }
  match f.stage with
  | .reduce k => sendPartial r k q f
  | .assemble => assemble r f
  | .update => { f with next := movedIterate f.alpha r.iterate f.step, stage := .reduce .closing }
  | .done => f
  | _ => match nextRecord r f q with
    | some x =>
      let g := endRecord r q x { f with place := tmod f.place q 0 (· + 1) }
      if passOver r g then afterPass r g else g
    | none => f

/-- The reach whose step comes next: any of those that can take one (R238, R240). -/
def pickReach (r : Running) (qs : List Nat) : Nat := match qs with
  | [q] => q
  | _ => qs.getD (Config.fabricTurn r.job.number r.fab.count % qs.length) 0

/-- No reach of a job can go on, though its iteration is not at its end (R230). -/
def stuck (r : Running) : Bool := decide (r.fab.stage ≠ .done) && (startable r r.fab).isEmpty

/-- Steps that an iteration takes at most: 13 passes over the records, 12 reductions over the reaches, the planner's. -/
def iterationSteps (r : Running) : Nat :=
  13 * (schedule r.work r.wide).length + 12 * reachesOf r.work r.wide + 2

/-- The job stands between the start of the first FACTOR record of its iteration and the end of its last (R242). -/
def inFactor (r : Running) : Bool :=
  let f := r.fab
  decide (f.stage = .factor) && decide (f.factored.length < hS r.work)
    && (!f.factored.isEmpty || (List.range (reachesOf r.work r.wide)).any (fun q => match nextRecord r f q with
      | some x => decide (x.op = 1) && recordReady r f q x
      | none => false))

/-- A reach restarts just after its last completed FACTOR record: the records after it run again (R229). -/
def lastFactor (r : Running) (q : Nat) : Nat :=
  let done := (passRecords r r.fab q).take (tget r.fab.place q 0)
  done.length - (done.reverse.takeWhile (fun x => decide (x.op ≠ 1))).length

/-- A job stopped at its stop point; what was in flight is abandoned (R229). -/
def stopPoint (r : Running) : Running :=
  if onRecords r.fab then
    { r with fab := { r.fab with
      place := (List.range (reachesOf r.work r.wide)).map (fun q => (q, lastFactor r q)) } }
  else r

/-- The replaced pivots of a factorisation, completed or stopped, enter the job's (R234). -/
def settlePivots (r : Running) : Running :=
  { r with
    replaced := r.replaced + r.fab.replaced.length, pivots := (r.pivots ++ r.fab.replaced).take 64
    fab := { r.fab with replaced := [] } }

/-- The data of a supernode as a pool holds it: factored columns, or working values. -/
def panelOf (r : Running) (bytes k : Nat) : Panel :=
  let f := r.fab
  let done := f.factored.contains k
  { factored := done, bytes := bytes
    columns := (snColumns r.work k).map (fun j => (j, (if done then tfind f.factor j else none).getD
      { d := regularEntry r.work (recRho r.record) f.k j j
        l := ((rowsFrom r.work j).drop 1).map (fun i => (i, regularEntry r.work (recRho r.record) f.k i j)) })) }

/-! ### The result hash (R247) -/

/-- An iterate's bytes: its four vectors in column order (R220, R247). -/
def iterateBytes (i : Iterate) : Bytes :=
  (i.v ++ i.zl ++ i.zu ++ i.d).flatMap (fun x => le64 x.toNat)

/-- The result hash. -/
def resultHash (signature : Bytes) (wide : Bool) (iterations : Nat) (i : Iterate) : Bytes :=
  sha384 (signature ++ le 1 (bit wide) ++ le32 iterations ++ iterateBytes i)

end Sys2Proof.Machine
end

