-- ==== Sys2Proof/Machine/Jobs.lean ====
section
/-! DEFINITION. Jobs on the fabric and the planner: triggers, start, iterations, deadlines, preemption, end, results,
publication, the ledger and its fallback schedule, the transient hold (R221 to R277). -/

namespace Sys2Proof.Machine

/-! ### Flags, records, fabric -/

/-- A bit of SLV_FLAGS is raised: events 48 to 52 (R248). -/
def slvFlag (b : Nat) (s : State) : State :=
  if s.slv.flags.getLsbD b then s else raise (48 + b) { s with slv := { s.slv with flags := bset s.slv.flags b } }

/-- The event source of a bit of PLN_FLAGS (R276). -/
def plnEvent : Nat → Nat
  | 0 => 60
  | 1 => 59
  | 2 => 61
  | 3 => 62
  | _ => 63

/-- A bit of PLN_FLAGS is raised. -/
def plnFlag (b : Nat) (s : State) : State :=
  if s.pln.flags.getLsbD b then s else raise (plnEvent b) { s with pln := { s.pln with flags := bset s.pln.flags b } }

/-- UNFIT, NOPUB, SKIP, EXHAUSTED, TRANSIENT of PLN_FLAGS. -/
def unfit (s : State) : State := plnFlag 0 s
def noPub (s : State) : State := plnFlag 1 s

/-- The parameter record of a kind in force (R253). -/
def recordOf (s : State) (plan : Bool) : Bytes := if plan then s.pln.recordP else s.pln.recordE

/-- The record of a kind in effect since its last job start (R254). -/
def effectOf (s : State) (plan : Bool) : Bytes := if plan then s.pln.effectP else s.pln.effectE

/-- The partition of a kind (R250). -/
def partitionOf (plan : Bool) : Nat := if plan then 1 else 0

/-- The running job of a partition; the state with it changed, or gone. -/
def runningOf (s : State) (p : Nat) : Option Running := tfind s.slv.running p
def setRunning (p : Nat) (r : Running) (s : State) : State :=
  { s with slv := { s.slv with running := tset s.slv.running p r } }
def modRunning (p : Nat) (f : Running → Running) (s : State) : State := match runningOf s p with
  | some r => setRunning p (f r) s
  | none => s
def delRunning (p : Nat) (s : State) : State := { s with slv := { s.slv with running := tdel s.slv.running p } }

/-- What the SLV_ window shows of a partition, changed. -/
def modShown (p : Nat) (f : Shown → Shown) (s : State) : State :=
  { s with slv := { s.slv with shown := tmod s.slv.shown p {} f } }

/-- The partition's running job uses a reach numbered 32 or above (R223). -/
def needsB (s : State) (p : Nat) (wide : Bool) : Bool :=
  wide || (if p = 0 then decide (32 < s.slv.reaches) else decide (s.slv.reaches < 64))

/-- The reaches of a domain that wakes have the reach microcode broadcast to them (R218, R225 step 3): reaches 0 to 31
are PD6's, 32 to 63 PD7's. -/
def loadMicrocode (b : Bool) (s : State) : State :=
  let qs := (List.range 32).map (fun q => if b then q + 32 else q)
  { s with slv := { s.slv with reach := qs.foldl (fun t q => tmod t q {} (fun x => { x with microcode := true })) s.slv.reach } }

/-- A fabric domain is woken, its reaches get their microcode and the FAB PLL locks; the SLV_ window restarts when PD6
wakes (R83, R225, R249). -/
def wakeFabric (b : Bool) (s : State) : State :=
  let s0 := if pd s 6 then s
    else loadMicrocode false { s with slv := { s.slv with flags := 0, reductions := 0, shown := [], reach := [] } }
  let s1 := if b && !pd s 7 then loadMicrocode true s0 else s0
  let on := bset s1.pmu.powered 6
  { s1 with pmu := { s1.pmu with
    powered := if b then bset on 7 else on, lock := bset s1.pmu.lock 0 } }

/-- Work area in MiB, and what is not reserved (R220, R221). -/
def workArea : Nat := 7424
def workFree (s : State) : Nat := workArea - (s.slv.running.map (fun e => e.2.mib)).sum

/-- W of a course in MiB (R221). -/
def workNeed (m : Memory) : Nat := (8 * hNnzA m + 8 * hNnzL m + 160 * hN m + 1048575) / 1048576

/-! ### The island policy's fields (R70) -/

def planMin (w : Word) : Nat := w.toNat % 256
def limitH (w : Word) : Nat := w.toNat / 256 % 256
def eventPlans (w : Word) : Bool := w.getLsbD 16
def repeats (w : Word) : Bool := w.getLsbD 17

/-- The policy word, 0 without a policy. -/
def policyWord (s : State) : Word := (s.policy.map (·.word)).getD 0

/-! ### Triggers (R250 to R252, R255, R274) -/

/-- PERIOD_MS in force for a kind; in ISLAND a PLAN's is the policy's (R250). -/
def periodMs (s : State) (plan : Bool) : Nat :=
  if plan ∧ s.sys.mode = .island then planMin (policyWord s) * 60000 else recPeriod (recordOf s plan)

/-- The index of the latest PERIOD instant: in SERVO time when that is valid, else in counter time from the end of
BOOT (R250). -/
def periodIndex (s : State) (plan : Bool) : Nat :=
  let n := periodMs s plan
  if s.tim.servo.valid then (servoNs s / 1000000 + n - recOffset (recordOf s plan)) / n
  else (now s - s.pln.bootEnd) / (n * tickMs)

/-- The SERVO time in ns of that instant. -/
def periodInstant (s : State) (plan : Bool) : Nat :=
  let n := periodMs s plan
  let k := periodIndex s plan
  if s.tim.servo.valid then (k * n + recOffset (recordOf s plan) - n) * 1000000
  else tsNs (servoAt s (s.pln.bootEnd + k * n * tickMs))

/-- The PERIOD instants of a kind count on from now (R254). -/
def primePeriod (plan : Bool) (s : State) : State :=
  { s with pln := { s.pln with
    periods := tset s.pln.periods (partitionOf plan) (s.tim.servo.valid, periodIndex s plan) } }

/-- A PERIOD instant of a kind has been reached that none has triggered yet. -/
def periodDue (s : State) (plan : Bool) : Bool :=
  let n := periodMs s plan
  decide (n ≠ 0) &&
  match tfind s.pln.periods (partitionOf plan) with
  | none => true
  | some (v, k) =>
    if v = s.tim.servo.valid then decide (k < periodIndex s plan)
    else decide (s.tim.servo.valid ∧ (servoNs s / 1000000) % n = recOffset (recordOf s plan) % n)

/-- A mode honours PERIOD triggers of a kind (R274). -/
def honoursPeriod (m : Mode) (plan : Bool) : Bool := match m with
  | .steer | .island => true
  | .hold | .manual | .safe => !plan
  | _ => false

/-- A mode honours EVENT triggers of PLAN (R274). -/
def honoursEvent (s : State) : Bool := match s.sys.mode with
  | .steer => true
  | .island => eventPlans (policyWord s)
  | _ => false

/-- A published estimate that is fit for planning now (R267). -/
def fitEstimate (s : State) (e : Estimate) : Bool :=
  let r := s.pln.effectE
  let age := servoNs s - e.time
  e.converged && decide (num64 (recMinMeas r) * e.mBound ≤ (e.mUsed : Rat)) && fle e.resid (recResid r)
    && decide (age ≤ (if recPeriod r = 0 then 30000 else 3 * recPeriod r) * 1000000)

/-- The estimate in force, when it is fit for planning. -/
def fitNow (s : State) : Bool := match s.pln.estimate with
  | some e => fitEstimate s e
  | none => false

/-- This half has itself published an estimate that is fit for planning now (R69). -/
def fitOwn (s : State) : Bool := match s.pln.ownEstimate with
  | some e => fitEstimate s e
  | none => false

/-- The next job number (R251). -/
def takeNumber (s : State) : State :=
  { s with pln := { s.pln with next := if s.pln.next = 2 ^ 32 - 1 then 1 else s.pln.next + 1 } }

/-- A job of a partition is created and starts: JOB_START carries its start out. -/
def createRunning (p : Nat) (j : Job) (s : State) : State :=
  setRunning p { job := j, record := recordOf s j.plan, phase := 1 } s

/-- The earlier of two deadlines, none the latest (R251). -/
def earlier (a b : Option Nat) : Option Nat := match a, b with
  | none, x => x
  | x, none => x
  | some x, some y => some (min x y)

/-- A PERIOD trigger (R251): the job starts on an idle partition; otherwise it is skipped. -/
def periodTrigger (plan : Bool) (deadline : Option Nat) (t0 : Nat) (s : State) : State :=
  let p := partitionOf plan
  if (runningOf s p).isNone && (tfind s.pln.waiting p).isNone then
    takeNumber (createRunning p { number := s.pln.next, plan := plan, trigger := .period, deadline := deadline, t0 := t0 } s)
  else plnFlag 2 { s with pln := { s.pln with
    skipE := if plan then s.pln.skipE else s.pln.skipE + 1, skipP := if plan then s.pln.skipP + 1 else s.pln.skipP } }

/-- An EVENT or RUN trigger (R251): the job starts, becomes pending, or merges; the number it goes by. -/
def otherTrigger (plan : Bool) (why : Trigger) (deadline : Option Nat) (t0 : Nat) (s : State) : State × Nat :=
  let p := partitionOf plan
  let j : Job := { number := s.pln.next, plan := plan, trigger := why, deadline := deadline, t0 := t0 }
  match tfind s.pln.waiting p with
  | some w => ({ s with pln := { s.pln with
      waiting := tset s.pln.waiting p { w with deadline := earlier w.deadline deadline } } }, w.number)
  | none =>
    if (runningOf s p).isNone then (takeNumber (createRunning p j s), j.number)
    else (takeNumber { s with pln := { s.pln with waiting := tset s.pln.waiting p j } }, j.number)

/-- T0 of a job of a kind at a trigger instant (R250). -/
def referenceTime (s : State) (plan : Bool) (ns : Nat) : Nat :=
  if plan then
    let step := ((residentCourse s 1).map (fun c => hStepS c.image)).getD 1
    ns / 1000000000 / step * step
  else ns

/-- The deadline of a PERIOD or EVENT trigger (R250). -/
def recordDeadline (s : State) (plan : Bool) (ns : Nat) : Option Nat := some (ns + recDeadline (recordOf s plan) * 1000000)

/-- PERIOD_TRIGGER: the partition's PERIOD instant (R250, R251, R255). -/
def periodReached (plan : Bool) (s : State) : State :=
  if honoursPeriod s.sys.mode plan && periodDue s plan then
    let t := primePeriod plan s
    if (residentCourse s (partitionOf plan)).isNone || s.brd.givingUp then t
    else if plan && !fitNow s then unfit t
    else
      let ns := periodInstant s plan
      periodTrigger plan (recordDeadline s plan ns) (referenceTime s plan ns) t
  else s

/-- An EVENT condition comes about while PLAN's mask enables it and the mode honours it (R252). -/
def noteEvent (b : Nat) (s : State) : State :=
  if (recMask s.pln.effectP).testBit b && honoursEvent s then
    { s with pln := { s.pln with events := bset s.pln.events b } }
  else s

/-- Seconds at which the ledger ends. -/
def ledgerEnd (l : Ledger) : Nat := l.t0 + l.horizon * l.stepS

/-- Fewer than two whole steps of the ledger in force remain (R252). -/
def ledgerLow (s : State) : Bool := match s.pln.ledger with
  | some l => decide (ledgerEnd l * 1000000000 < servoNs s + 2 * l.stepS * 1000000000)
  | none => false

/-- LEDGER_LOW is noted once for each ledger. -/
def noteLow (s : State) : State :=
  if ledgerLow s && !s.pln.lowSeen then noteEvent 3 { s with pln := { s.pln with lowSeen := true } } else s

/-- The gap after the last EVENT-started PLAN has run (R252). -/
def gapOver (s : State) : Bool := match s.pln.lastEvent with
  | none => true
  | some c => passed s c (recGapS s.pln.effectP * tickS)

/-- EVENT_TRIGGER: the enabled condition, after any deferral; conditions deferred together are one trigger (R252). -/
def eventReached (b : Nat) (s0 : State) : State :=
  let s := noteLow s0
  if s.pln.events.getLsbD b && honoursEvent s && gapOver s && !s.brd.givingUp then
    let t := { s with pln := { s.pln with events := 0 } }
    if (residentCourse s 1).isNone then t
    else if !fitNow s then unfit t
    else (otherTrigger true .event (recordDeadline s true (servoNs s)) (referenceTime s true (servoNs s)) t).1
  else s

/-! ### The transient hold (R273) -/

/-- The transient steps of a ledger. -/
def transientSteps (l : Ledger) : List Nat :=
  (List.range l.horizon).filter (fun k => l.values.any (fun e => ((e.2.getD k (0, 0)).2).getLsbD 3))

/-- The end, in SERVO seconds, of the joined hold interval that contains a time; none outside them (R273). -/
def holdEnd (before after : Nat) (t : Nat) : List Nat → Option Nat
  | [] => none
  | st :: rest => match holdEnd before after (if st ≤ t + before ∧ t < st + after then st + after else t) rest with
    | some e => some e
    | none => if st ≤ t + before ∧ t < st + after then some (st + after) else none

/-- The end of the transient hold now, judged on the ledger in force (R273). -/
def holdNow (s : State) : Option Nat := match s.pln.ledger with
  | none => none
  | some l => holdEnd (recBeforeS s.pln.effectP) (recAfterS s.pln.effectP) (servoNs s / 1000000000)
      ((transientSteps l).map (fun k => l.t0 + k * l.stepS))

/-- The transient hold judged: raised with its flag, moved, or ended (R273). -/
def judgeHold (s : State) : State :=
  let t := { s with pln := { s.pln with hold := holdNow s } }
  if s.pln.hold.isNone && (holdNow s).isSome then plnFlag 4 t else t

/-! ### Starting a job (R225, R241, R244, R259, R260, R264) -/

/-- The counter value at which SERVO time, with its present rate and offset, reaches a time in ns (R241). -/
def counterAt (s : State) (ns : Nat) : Nat :=
  let v := s.tim.servo
  let d := (ns : Int) * nsUnit - v.base
  ((v.cbase : Int) + (if v.inc ≤ 0 then 0 else (d + v.inc - 1) / v.inc)).toNat

/-- A deadline has passed (R241). -/
def deadlinePassed (s : State) (d : Option Nat) : Bool := match d with
  | some x => decide (x ≤ now s)
  | none => false

/-- A job of a kind runs wide (R224). -/
def runsWide (m : Memory) (record : Bytes) (why : Trigger) : Bool :=
  hasWide m && (decide (recWide record = 1) || decide (recWide record = 2 ∧ why = .run))

/-- The measurement of a MEASURE binding, from a value and an effective quality (R259). -/
def measured (m : Memory) (i : Nat) (value : Dword) (quality : Nat) : Measured :=
  let w := widen (bindWeight m i)
  { column := bindColumn m i, z := value
    weight := if quality = 0 ∨ quality = 2 then w else if quality = 1 then fp64 (num64 w / 4) else f0 }

/-- The values and effective qualities that an ESTIMATE gathers (R184, R259). -/
def gather (s : State) (m : Memory) : List (Dword × Nat) := (bindings m 0).map (fun i => readPoint s (bindTarget m i))

/-- b of the INITIAL bindings from an estimate (R260): the working copy, and whether a target was not held. -/
def initialise (e : Estimate) (m : Memory) : Memory × Bool :=
  (bindings m 3).foldl (fun a i => match tfind e.states (bindTarget m i) with
    | some v => (memStore a.1 (entryAddress m 2 (bindColumn m i)) (le64 v.toNat), a.2)
    | none => (a.1, true)) (m, false)

/-- The physical reaches of a partition's job. -/
def jobReaches (s : State) (p : Nat) (r : Running) : List Nat :=
  (List.range (reachesOf r.work r.wide)).map (physical s.slv.reaches p r.wide)

/-- A wide ESTIMATE stops a running PLAN at its stop point, and PLAN's pools go to the pool save area (R244). -/
def preemptPlan (s : State) : State := match runningOf s 1 with
  | none => s
  | some r =>
    if r.phase = 3 ∧ r.ended.isNone then
      let qs := jobReaches s 1 r
      let mine := fun (e : Nat × Table Panel) => qs.contains e.1
      setRunning 1 { stopPoint r with phase := 9 }
        { s with slv := { s.slv with saved := s.slv.pools.filter mine, pools := s.slv.pools.filter (fun e => !mine e) } }
    else s

/-- A job's pools are discarded at its end; a preempted PLAN's saved ones with it (R219, R244). -/
def discardPools (p : Nat) (r : Running) (s : State) : State :=
  let qs := jobReaches s p r
  { s with slv := { s.slv with
    pools := if r.phase = 9 then s.slv.pools else s.slv.pools.filter (fun e => !qs.contains e.1)
    saved := if r.phase = 9 then [] else s.slv.saved } }

/-- The JOB_START frame of a job (R367). -/
def jobStartInfo (r : Running) : JobStartInfo :=
  { plan := r.job.plan, number := BitVec.ofNat 32 r.job.number, wide := r.wide, deadline := r.job.deadline, record := r.record,
    estimate := BitVec.ofNat 32 r.estimate, startHash := r.startHash }

/-- The estimate of a number among the newest two; the newest where neither has it (R12, R361, R367). -/
def estimateNumbered (s : State) (n : Nat) : Option Estimate :=
  match [s.pln.estimate, s.pln.earlier].findSome? (fun x => x.filter (fun e => decide (e.job.toNat = n))) with
  | some e => some e
  | none => s.pln.estimate

/-- The estimate that a job starts from: the holder's for a PARTNER job, else the newest (R12, R367). -/
def startEstimate (s : State) (r : Running) : Option Estimate :=
  if r.job.trigger = .partner then estimateNumbered s r.estimate else s.pln.estimate

/-- The counters of a job's reaches restart (R249). -/
def restartReaches (p : Nat) (r : Running) (s : State) : State :=
  { s with slv := { s.slv with
    reach := (jobReaches s p r).foldl (fun t q => tmod t q {} (fun x => { x with records := 0 })) s.slv.reach } }

/-- Steps 2 to 5 of R225, with W reserved: wake, microcode, start copy, gather, starting iterate. The copy is taken when
W is reserved, so a list applied during a wait counts (R216). -/
def beginJob (p : Nat) (r : Running) (s : State) : State := match residentCourse s p with
  | none => s
  | some c =>
    let m := c.image
    let s1 := wakeFabric (needsB s p r.wide) (if r.wide then preemptPlan s else s)
    let local_ := gather s m
    let got := if r.job.plan then [] else r.holderGather.getD local_
    let ini := match estimateNumbered s r.estimate with
      | some e => if r.job.plan then initialise e m else (m, false)
      | none => (m, r.job.plan)
    let r1 := { r with
      phase := 3, mib := workNeed m, work := ini.1, iterate := startFrom ini.1 r.job.plan r.job.t0 r.basis
      -- a measurement of weight 0 is left out
      measured := (((bindings m 0).zip got).map (fun e => measured m e.1 e.2.1 e.2.2)).filter
        (fun x => decide (0 < num64 x.weight))
      mBound := if r.job.plan then 0 else (bindings m 0).length
      gathered := servoNs s
      warm := r.warm ||| (if ini.2 then wfInitDefault else 0)
        ||| (if !r.job.plan && decide (1048576 < (bindings m 0).length) then wfSplit else 0) }
    let s2 := setRunning p r1 (restartReaches p r1
      (modShown p (fun _ => { number := r.job.number, d := r.d, any := true }) s1))
    if r.job.plan then s2 else mirror (jobTag p r.job.number) (.gather got) s2

/-- A result enters those of the last 256 jobs (R256). -/
def keepResult (x : JobResult) (s : State) : State :=
  let l := s.pln.results ++ [x]
  { s with pln := { s.pln with results := l.drop (l.length - 256) } }

/-- EV_EST_DONE or EV_PLAN_DONE (R276). -/
def jobDone (plan : Bool) (s : State) : State := raise (if plan then 57 else 56) s

/-- A job that ends without running: its result, its event, and NOPUB or UNFIT (R267, R268). -/
def endUnrun (j : Job) (st : Half) (hash : Bytes) (s : State) : State :=
  let t := jobDone j.plan (keepResult
    { job := j.number, plan := j.plan, status := st, warm := 0, iterations := 0, replaced := 0, pivots := [],
      hash := hash, withdrawn := decide (st = stNotFound) } s)
  if j.plan then noPub t else unfit t

/-- A job refused with ST_NO_LINEAGE: a hash of zeros, the iterate area unchanged (R245, R247, R264). -/
def refuseLineage (p : Nat) (j : Job) (s : State) : State :=
  endUnrun j stNoLineage (zeros 48) (delRunning p { s with slv := { s.slv with refused := tset s.slv.refused p true } })

/-- A swap is due on a partition: a pending course and no running job (R211). -/
def swapDue (s : State) (p : Nat) : Bool :=
  (coursesOf s p).coming.isSome && (match runningOf s p with
    | none => true
    | some r => decide (r.phase = 1))

/-- The start of a job is not held back: created, no thermal trip (R95), no swap due, no handover under way, the reach
microcode of the partition not re-initialising (R79), and a PARTNER ESTIMATE has the holder's gather. -/
def mayStart (s : State) (p : Nat) (r : Running) : Bool :=
  decide (r.phase = 1) && !reinitRuns s 1 p && !s.pmu.fabBarred && r.ended.isNone && !swapDue s p && (decide (r.job.trigger = .partner) || !s.brd.givingUp)
    && (decide (r.job.trigger ≠ .partner) || r.job.plan || r.holderGather.isSome)

/-- Step 1 of R225 for a job that has its starting iterate. -/
def stepOne (p : Nat) (m : Memory) (r : Running) (s : State) : State :=
  let kept := match tfind s.slv.kept p with
    | some k => if k.replaced then tdel s.slv.kept p else s.slv.kept
    | none => s.slv.kept
  let s1 := { s with
    slv := { s.slv with refused := tset s.slv.refused p false, kept := kept }
    pln := { s.pln with
      effectE := if r.job.plan then s.pln.effectE else r.record, effectP := if r.job.plan then r.record else s.pln.effectP
      lastEvent := if r.job.trigger = .event then some (now s) else s.pln.lastEvent } }
  let s2 := modShown p (fun _ => { number := r.job.number, d := r.d, any := true }) s1
  -- HOLD_BEFORE_S and HOLD_AFTER_S of a PLAN's record take effect here (R254)
  let s3 := mirror (jobTag p r.job.number) (.jobStart (jobStartInfo r)) (if r.job.plan then judgeHold s2 else s2)
  if deadlinePassed s r.d then setRunning p { r with phase := 8, ended := some stDeadlineBetween } s3
  else if workNeed m ≤ workFree s then beginJob p r s3
  else slvFlag 2 (setRunning p { r with phase := 10 } s3)

/-- JOB_START: the job of a partition starts (R225). -/
def startJob (p : Nat) (s : State) : State := match runningOf s p, residentCourse s p with
  | some r, some c =>
    if !mayStart s p r then s
    else
      let m := c.image
      let record := if r.job.trigger = .partner then r.record else recordOf s r.job.plan
      match startRow m record (tfind s.slv.kept p) (tget s.slv.refused p false) with
      | none => refuseLineage p r.job s
      | some (basis, flags, h) =>
        let wide := !r.job.plan && (if r.job.trigger = .partner then r.wide else runsWide m record r.job.trigger)
        stepOne p m { r with
          record := record, wide := wide, since := now s, startHash := h, basis := basis
          iterate := startFrom m r.job.plan r.job.t0 basis
          warm := flags ||| (if wide then wfWide else 0)
          d := r.job.deadline.map (counterAt s)
          estimate := ((startEstimate s r).map (fun e => e.job.toNat)).getD 0 } s
  | _, _ => s

/-- WORK_AREA_AVAILABLE: a waiting job reserves W and starts (R221). -/
def workAvailable (p : Nat) (s : State) : State := match runningOf s p, residentCourse s p with
  | some r, some c =>
    if r.phase = 10 ∧ r.ended.isNone ∧ s.pmu.fabBarred = false ∧ workNeed c.image ≤ workFree s then beginJob p r s
    else s
  | _, _ => s

/-! ### Iterations, deadlines, stalls, aborts (R229 to R246) -/

/-- The fabric runs a partition's job: PD6 powered, FAB PLL locked, iterating, not stopped. -/
def iterating (s : State) (r : Running) : Bool :=
  decide (r.phase = 3) && r.ended.isNone && pd s 6 && s.pmu.lock.getLsbD 0

/-- A record or a reduction that has ended is counted (R249). -/
def countStep (p q : Nat) (r : Running) (f : Fab) (s : State) : State :=
  if onRecords r.fab then
    { s with slv := { s.slv with
      reach := tmod s.slv.reach (physical s.slv.reaches p r.wide q) {} (fun x => { x with records := x.records + 1 }) } }
  else match r.fab.stage with
    | .reduce _ => if f.arrivals.isEmpty then { s with slv := { s.slv with reductions := s.slv.reductions + 1 } } else s
    | _ => s

/-- What a record that has ended leaves in the pools: FETCH and FACTOR in its reach's, SEND in the pool of its peer
(R219, R227). -/
def movePools (p q : Nat) (r r1 : Running) (s : State) : State := match nextRecord r r.fab q with
  | none => s
  | some x =>
    if !onRecords r.fab || decide (x.op = 4) then s
    else
      let dest := physical s.slv.reaches p r.wide (if x.op = 3 then x.peer else q)
      { s with slv := { s.slv with pools := tmod s.slv.pools dest [] (fun t => tset t x.snode (panelOf r1 x.bytes x.snode)) } }

/-- One step of a partition's job on the fabric (R227): none when no reach can take one. -/
def fabricStep (p : Nat) (s : State) : State := match runningOf s p with
  | none => s
  | some r =>
    let qs := startable r r.fab
    if qs.isEmpty || r.fab.fault then s
    else
      let q := pickReach r qs
      let r1 := { r with fab := stepReach r q r.fab }
      setRunning p r1 (movePools p q r r1 (countStep p q r r1.fab s))

/-- Several steps of it. -/
def fabricSteps (p : Nat) : Nat → State → State
  | 0, s => s
  | n + 1, s => fabricSteps p n (fabricStep p s)

/-- Corrected pool errors and busy time by reach (R219, R249). -/
def addReach (f : FabricNotes) (t : Table Reach) : Table Reach :=
  let t1 := f.ecc1.foldl (fun t e => tmod t e.1 {} (fun x => { x with ecc1 := min (x.ecc1 + e.2) 65535 })) t
  f.busy.foldl (fun t e => tmod t e.1 {} (fun x => { x with busy := x.busy + BitVec.ofNat 32 e.2 })) t1

/-- What the fabric meets in an iteration: pool errors, OVERRUN, POOL_ECC (R219, R229). -/
def fabricNotes (f : FabricNotes) (s : State) : State :=
  let s1 := { s with slv := { s.slv with reach := addReach f s.slv.reach } }
  let s2 := if f.overrun then slvFlag 3 s1 else s1
  if f.doubleEcc then slvFlag 4 s2 else s2

/-- The status in which the job ends at the end of an iteration, by the tests of R246; none when it goes on. -/
def testsOf (s : State) (r : Running) (i : Iterate) (k : Nat) : Option Half :=
  let h := reduceAll r (closingValues r i)
  if convergedBy r h then some stConverged
  else if infeasibleBy r h then some stInfeasible
  else if k = recMaxIter r.record then some stIterLimit
  else if deadlinePassed s r.d then some stDeadlineBetween
  else if r.holderEnd = some k then some stIterLimit
  else none

/-- A PARTNER job does not begin an iteration before ITER_DONE of the one before it (R367). -/
def paced (r : Running) : Bool := decide (r.job.trigger ≠ .partner) || decide (r.iterations ≤ r.holderDone)

/-- What SLV_ shows of a running job's pivots and refinement (R249). -/
def showFactor (p : Nat) (r : Running) (s : State) : State :=
  modShown p (fun x => { x with
    iterations := min r.iterations 65535, replaced := r.replaced, wrongSigns := r.fab.wrong, steps := r.fab.steps
    ratio := fdiv r.fab.rbest (fadd f1 r.fab.normB) }) s

/-- A running job ends with a status where it stands: its partial iteration is discarded, the pivots replaced in it
count (R234, R242, R243). -/
def stopRunning (p : Nat) (st : Half) (s : State) : State := match runningOf s p with
  | none => s
  | some r =>
    if r.ended.isSome then s
    else
      let r1 := settlePivots r
      showFactor p r1 (setRunning p { r1 with ended := some st, phase := 8 } (discardPools p r s))

/-- A numeric fault ends the job at its next stop point (R231). -/
def endFaulty (p : Nat) (s : State) : State := match runningOf s p with
  | none => s
  | some r => if r.fab.fault then stopRunning p stNumeric s else s

/-- The fabric works on a partition's job while time passes from a counter value, and no further than its deadline:
how many records end in that time is a free value (R218, R227, R242). -/
def fabricRun (p since : Nat) (s : State) : State := match runningOf s p with
  | none => s
  | some r =>
    let upto := match r.d with
      | some d => min (now s) d
      | none => now s
    if upto ≤ since ∨ iterating s r = false ∨ paced r = false then s
    else endFaulty p (fabricSteps p (Config.fabricSteps r.job.number since upto) s)

/-- The deadline has passed before the iteration could end: its last stop point was not reached in time (R242). -/
def tooLate (s : State) (r : Running) : Bool :=
  deadlinePassed s r.d && decide (r.fab.stage ≠ .done ∧ r.fab.stage ≠ .reduce .closing)

/-- A completed iteration is taken up and the tests decide (R246). -/
def takeIteration (p : Nat) (s : State) : State := match runningOf s p with
  | none => s
  | some r0 =>
    let r := settlePivots r0
    let i := r.fab.next
    let k := r.iterations + 1
    let st := testsOf s r i k
    let r1 := { r with
      iterations := k, iterate := i, prior := r.iterate
      feasible := feasibleBy r (reduceAll r (closingValues r i)), ended := st, phase := if st.isSome then 8 else 3 }
    let s1 := showFactor p r1 (setRunning p { r1 with fab := { count := r.fab.count } } s)
    let s2 := if st.isSome then discardPools p r1 s1 else s1
    if r.job.trigger = .partner then s2 else mirror (jobTag p r.job.number) (.iterDone k) s2

/-- JOB_ITERATION_END: the reaches end what is left of the iteration, and the tests decide (R246, R261). A double-bit
pool error ends the job instead; a schedule that stalls, or a deadline that came first, ends no iteration. -/
def iterationEnd (p : Nat) (f : FabricNotes) (s : State) : State := match runningOf s p with
  | none => s
  | some r =>
    if !(iterating s r && paced r) || tooLate s r then s
    else if f.doubleEcc then stopRunning p stNumeric (fabricNotes f s)
    else
      let t := endFaulty p (fabricSteps p (iterationSteps r) (fabricNotes f s))
      match runningOf t p with
      | none => t
      | some q => if q.ended.isNone && decide (q.fab.stage = .done) then takeIteration p t else t

/-- JOB_DEADLINE: the deadline passes; where the job stood decides the status, where it was stopped if it is preempted
(R242). -/
def jobDeadline (p : Nat) (s : State) : State := match runningOf s p with
  | none => s
  | some r =>
    if r.phase ≠ 1 ∧ r.ended.isNone ∧ deadlinePassed s r.d then
      stopRunning p (if r.phase ≠ 10 ∧ inFactor r = true then stDeadlineInFactor else stDeadlineBetween) s
    else s

/-- SCHEDULE_STALL (R230): every record that can end has ended, and no reach can go on. -/
def scheduleStall (p : Nat) (s : State) : State := match runningOf s p with
  | none => s
  | some r =>
    if !iterating s r then s
    else
      let t := endFaulty p (fabricSteps p (iterationSteps r) s)
      match runningOf t p with
      | none => t
      | some q => if q.ended.isNone && stuck q then slvFlag 0 (stopRunning p stNumeric t) else s

/-- A job that is stopped before it has started ends at once; a started one stops (R243, R256). -/
def abortRunning (p : Nat) (s : State) : State := match runningOf s p with
  | none => s
  | some r =>
    if r.ended.isSome then s
    else if r.phase = 1 then
      endUnrun r.job stAborted (Config.freeBytes s.free 48) (tickFree (delRunning p s) 1)
    else stopRunning p stAborted s

/-- A pending job is removed and ends with ST_ABORTED and 0 iterations (R256). -/
def abortWaiting (p : Nat) (s : State) : State := match tfind s.pln.waiting p with
  | none => s
  | some j => endUnrun j stAborted (Config.freeBytes s.free 48)
      (tickFree { s with pln := { s.pln with waiting := tdel s.pln.waiting p } } 1)

/-! ### The ledger (R269 to R273) -/

/-- x is at its lower bound, or at its upper (R271, R273). -/
def atLower (m : Memory) (record : Bytes) (j : Nat) (x : Dword) : Bool := match lowerOf m j with
  | some l => fle (fsub x l) (fmul (recEpsP record) (fadd f1 (l &&& 0x7FFFFFFFFFFFFFFF)))
  | none => false
def atUpper (m : Memory) (record : Bytes) (j : Nat) (x : Dword) : Bool := match upperOf m j with
  | some u => fle (fsub u x) (fmul (recEpsP record) (fadd f1 (u &&& 0x7FFFFFFFFFFFFFFF)))
  | none => false

/-- The quantities of a PLAN course, in rising order. -/
def quantities (m : Memory) : List Nat := (bindings m 2).foldl (fun t i => insertRising (bindTarget m i) t) []

/-- The step whose binding gives quantity q its value at step s, and whether it is its own (R271, BOUND). -/
def boundStep (m : Memory) (q s : Nat) : Nat × Bool :=
  if (controlColumn m q s).isSome then (s, true)
  else
    let before := (List.range s).reverse.find? (fun k => (controlColumn m q k).isSome)
    let first := (List.range (hHorizon m)).find? (fun k => (controlColumn m q k).isSome)
    (before.getD (first.getD 0), false)

/-- A ledger entry of quantity q at step s: value and the flags BOUND, AT_LOWER, AT_UPPER. -/
def ledgerEntry (m : Memory) (record : Bytes) (i : Iterate) (q s : Nat) : Word × Byte :=
  let b := boundStep m q s
  let j := (controlColumn m q b.1).getD 0
  let x := at64 i.v j
  (fp32 (num64 x), BitVec.ofNat 8 (bit b.2 + 2 * bit (atLower m record j x) + 4 * bit (atUpper m record j x)))

/-- A step is transient: a named quantity leaves or reaches its lower bound there (R273). -/
def transientStep (record : Bytes) (vs : Table (List (Word × Byte))) (s : Nat) : Bool :=
  decide (1 ≤ s) && (recTransient record).any (fun q => match tfind vs q with
    | none => false
    | some l => decide (((l.getD s (0, 0)).2).getLsbD 1 ≠ ((l.getD (s - 1) (0, 0)).2).getLsbD 1))

/-- A ledger's values: at most 4,194,304 of them, by the lowest-numbered quantities (R269, R271). -/
def ledgerValues (m : Memory) (record : Bytes) (i : Iterate) : Table (List (Word × Byte)) :=
  let h := hHorizon m
  let vs := ((quantities m).take (4194304 / h)).map (fun q => (q, (List.range h).map (ledgerEntry m record i q)))
  let tr := (List.range h).map (transientStep record vs)
  vs.map (fun e => (e.1, (e.2.zip tr).map (fun x => (x.1.1, if x.2 then x.1.2 ||| 8 else x.1.2))))

/-- The fallback schedule of a ledger: hourly values of its 8,192 lowest-numbered quantities (R272). -/
def hourlyStep (l : Ledger) (h : Nat) : Nat :=
  let target := 3600 * h + 1800
  let t := l.t0 + (target + 86400 - l.t0 % 86400) % 86400
  min ((t - l.t0) / l.stepS) (l.horizon - 1)
def fallbackRows (l : Ledger) : Table (List Word) :=
  (l.values.take 8192).map (fun e => (e.1, (List.range 24).map (fun h => (e.2.getD (hourlyStep l h) (0, 0)).1)))

/-- Bank sequence, the newer valid bank, and the bank that the next write goes to. -/
def fbSeq : Option FallbackBank → Nat
  | some b => if b.crcOk then b.seq + 1 else 0
  | none => 0
def fallbackKept (s : State) : Option FallbackBank :=
  let b := s.pln.banks
  (if fbSeq b.1 < fbSeq b.2 then b.2 else b.1).filter (fun x => x.crcOk)

/-- A fallback write begins, or waits for the one in progress (R272). The second bank is true. -/
def startFallback (l : Ledger) (s : State) : State :=
  if s.pln.writing.isSome then { s with pln := { s.pln with writeNext := some l } }
  else
    let second := decide (fbSeq s.pln.banks.2 < fbSeq s.pln.banks.1)
    { s with pln := { s.pln with writing := some (second, l) } }

/-- FALLBACK_WRITE_DONE: the bank stands, and the later ledger's write begins (R272). -/
def fallbackDone (s : State) : State := match s.pln.writing with
  | none => s
  | some (second, l) =>
    let seq := max (fbSeq s.pln.banks.1) (fbSeq s.pln.banks.2)
    let b : FallbackBank := { seq := seq, crcOk := true, ledger := l.number.toNat, t0 := l.t0, rows := fallbackRows l }
    let banks := if second then (s.pln.banks.1, some b) else (some b, s.pln.banks.2)
    let t := { s with pln := { s.pln with banks := banks, writing := none, writeNext := none } }
    match s.pln.writeNext with
    | some n => startFallback n t
    | none => t

/-- A write in progress is cut off: its bank fails its CRC (R272). -/
def cutFallback (s : State) : State := match s.pln.writing with
  | none => s
  | some (second, _) =>
    let spoil := fun (b : Option FallbackBank) => b.map (fun x => { x with crcOk := false })
    { s with pln := { s.pln with
      banks := if second then (s.pln.banks.1, spoil s.pln.banks.2) else (spoil s.pln.banks.1, s.pln.banks.2)
      writing := none, writeNext := none } }

/-- A ledger is put in force (R269, R270, R272, R273). -/
def putLedger (l : Ledger) (s : State) : State :=
  judgeHold (startFallback l { s with pln := { s.pln with
    ledger := some l, ledgerNumber := l.number.toNat, fallback := false, lowSeen := false } })

/-- The mean of 24 values as a binary32. -/
def meanOf (l : List Word) : Word := fp32 ((l.map num32).sum / (l.length : Rat))

/-- The value in force for a quantity at a SERVO time in ns, and whether it is read from the ledger (R270); none on
row 4. -/
def valueInForce (s : State) (ns q : Nat) : Option Word × Bool :=
  let t := ns / 1000000000
  let fall := match (fallbackKept s).bind (fun b => tfind b.rows q) with
    | some r => some (if s.tim.servo.valid then r.getD (t % 86400 / 3600) 0 else meanOf r)
    | none => none
  match s.pln.ledger with
  | none => (fall, false)
  | some l => match tfind l.values q with
    | none => (fall, false)
    | some vs =>
      if t < l.t0 then ((vs[0]?).map (·.1), true)
      else if t < ledgerEnd l then ((vs[(t - l.t0) / l.stepS]?).map (·.1), true)
      else (fall, false)

/-- A consumer reads the value in force: FALLBACK and EXHAUSTED follow (R270). -/
def readLedger (ns q : Nat) (s : State) : State × Option Word :=
  let v := valueInForce s ns q
  if v.2 then ({ s with pln := { s.pln with fromLedger := true } }, v.1)
  else
    let t := { s with pln := { s.pln with fallback := true, fromLedger := false } }
    (if s.pln.fromLedger then plnFlag 3 t else t, v.1)

/-! ### The end of a job (R225 step 6, R247, R267, R268) -/

/-- The statuses that may be published. -/
def publishable (st : Half) : Bool :=
  decide (st = stConverged ∨ st = stIterLimit ∨ st = stDeadlineBetween ∨ st = stDeadlineInFactor)

/-- rho_est (R259). -/
def normalised (r : Running) : Dword :=
  if r.measured.isEmpty then f0
  else fdiv (at64 (reduceAll r [{ op := .sum, terms := r.measured.map (fun x =>
      let e := fsub (at64 r.iterate.v x.column) x.z
      (x.column, x.weight, fmul e e)) }]) 0) (fp64 r.measured.length)

/-- What an ESTIMATE publishes (R267). -/
def estimateOf (r : Running) (st : Half) : Estimate :=
  { job := BitVec.ofNat 32 r.job.number, time := r.gathered
    states := ((bindings r.work 1).take 1048576).foldl
      (fun t i => tset t (bindTarget r.work i) (at64 r.iterate.v (bindColumn r.work i))) []
    converged := decide (st = stConverged)
    mUsed := r.measured.length
    mBound := r.mBound, resid := normalised r }

/-- ESTIMATE_PUBLISH: an ESTIMATE is published and judged, or UNFIT is set; the warm flags it adds (R267). -/
def publishEstimate (r : Running) (st : Half) (s : State) : State × Half :=
  let e := estimateOf r st
  let low := if num64 (recMinMeas r.record) * e.mBound ≤ (e.mUsed : Rat) then 0 else wfMeasLow
  if publishable st && decide (1 ≤ r.iterations) && r.feasible then
    let s1 := { s with pln := { s.pln with earlier := s.pln.estimate, estimate := some e, ownEstimate := some e } }
    let s2 := mirror (jobTag 0 r.job.number) (.ledger (.estimate e)) s1
    let s3 := if fle e.resid (recResid s.pln.effectP) then s2 else noteEvent 0 s2
    if fitEstimate s3 e then (s3, low ||| wfPublished ||| wfFit) else (unfit s3, low ||| wfPublished)
  else (unfit s, low)

/-- An ESTIMATE of a PARTNER job: what the holder mirrors stays in force, and UNFIT is judged as for a publication (R267,
R274; log entry 105). -/
def judgePartnerEstimate (r : Running) (st : Half) (s : State) : State × Half :=
  let e := estimateOf r st
  let low := if num64 (recMinMeas r.record) * e.mBound ≤ (e.mUsed : Rat) then 0 else wfMeasLow
  let published := publishable st && decide (1 ≤ r.iterations) && r.feasible
  let t := if published then { s with pln := { s.pln with ownEstimate := some e } } else s
  (if published && fitEstimate t e then t else unfit t, low)

/-- A mode publishes ledgers (R274). -/
def publishes (m : Mode) : Bool := mOps m

/-- The ledger that a PLAN publishes (R269). -/
def ledgerOf (s : State) (r : Running) : Ledger :=
  { number := BitVec.ofNat 32 (s.pln.ledgerNumber + 1), job := BitVec.ofNat 32 r.job.number, t0 := r.job.t0
    stepS := hStepS r.work, horizon := hHorizon r.work, signature := hSignature r.work, published := servoNs s
    values := ledgerValues r.work r.record r.iterate }

/-- LEDGER_PUBLISH: a PLAN that meets R268 is published as a new ledger, or NOPUB is set. -/
def publishPlan (r : Running) (st : Half) (s : State) : State × Half :=
  let l := ledgerOf s r
  if s.sys.token && publishes s.sys.mode && publishable st && decide (1 ≤ r.iterations) && r.feasible
      && decide (servoNs s < ledgerEnd l * 1000000000) then
    (mirror (jobTag 1 r.job.number) (.ledger (.ledger l)) (raise 58 (putLedger l s)), wfPublished)
  else (noPub s, 0)

/-- The last-job times of the fabric domains (R83). -/
def stampIdle (p : Nat) (wide : Bool) (s : State) : State :=
  { s with pmu := { s.pmu with
    fabAIdle := now s, fabBIdle := if needsB s p wide then now s else s.pmu.fabBIdle } }

/-- A wide ESTIMATE hands its reaches back: PLAN's pools are restored and it resumes at its stop point (R225, R229,
R244). -/
def resumePlan (s : State) : State := match runningOf s 1 with
  | none => s
  | some r =>
    if r.phase = 9 then
      setRunning 1 { r with phase := 3 } { s with slv := { s.slv with
        pools := s.slv.saved.foldl (fun t e => tset t e.1 e.2) s.slv.pools, saved := [] } }
    else s

/-- The result of a PARTNER job is compared (R367, R368): set by the pair. -/
def jobResult (r : Running) (st warm : Half) (hash : Bytes) : JobResult :=
  { job := r.job.number, plan := r.job.plan, status := st, warm := warm, iterations := r.iterations,
    replaced := r.replaced, pivots := r.pivots, hash := hash, withdrawn := false }

/-- JOB_END: step 6 of R225 and what follows it. -/
def endJob (p : Nat) (s : State) : State := match runningOf s p with
  | none => s
  | some r => match r.ended with
    | some st =>
      -- the signature, the schedule and the completed iterations of the course that it ran on
      let sig := hSignature (((residentCourse s p).map (·.image)).getD r.work)
      let h := resultHash sig r.wide r.iterations r.iterate
      let k : Kept :=
        { iterate := r.iterate, signature := sig, job := r.job.number, status := st
          t0 := r.job.t0, hash := h, replaced := false }
      let s1 := { s with slv := { s.slv with kept := tset s.slv.kept p k } }
      let s2 := stampIdle p r.wide (delRunning p (if r.wide then resumePlan s1 else s1))
      let s3 := modShown p (fun x => { x with elapsed := min ((now s - r.since) / tickUs) (2 ^ 32 - 1) }) s2
      let s4 := if r.replaced = 0 then s3 else slvFlag 1 s3
      let pub := if r.job.trigger = .partner then
          (if r.job.plan then (noPub s4, (0 : Half)) else judgePartnerEstimate r st s4)
        else if r.job.plan then publishPlan r st s4 else publishEstimate r st s4
      let s5 := keepResult (jobResult r st (r.warm ||| pub.2) h) pub.1
      let s6 := if r.job.trigger = .partner then s5 else mirror (jobTag p r.job.number) (.jobEnd r.iterations h) s5
      jobDone r.job.plan s6
    | none => s

/-- PENDING_JOB_START: the pending job starts, or a PLAN without a fit estimate is withdrawn (R251, R255). -/
def startPending (p : Nat) (s : State) : State := match tfind s.pln.waiting p with
  | none => s
  | some j =>
    if (runningOf s p).isSome || swapDue s p || s.brd.givingUp then s
    else
      let t := { s with pln := { s.pln with waiting := tdel s.pln.waiting p } }
      if j.plan && !fitNow s then
        jobDone true (unfit (keepResult
          { job := j.number, plan := true, status := stNotFound, warm := 0, iterations := 0, replaced := 0,
            pivots := [], hash := [], withdrawn := true } t))
      else createRunning p j t

/-! ### The job commands -/

/-- A binary64 field in a closed range. -/
def in64 (x : Dword) (lo hi : Rat) : Bool := match val64 x with
  | none => false
  | some q => decide (lo ≤ q ∧ q ≤ hi)

/-- 10 to a power. -/
def ten (e : Int) : Rat := if 0 ≤ e then ((10 ^ e.toNat : Nat) : Rat) else 1 / ((10 ^ (-e).toNat : Nat) : Rat)

/-- A parameter bound that is the binary64 nearest to a power of ten. -/
def ten64 (e : Int) : Rat := r64 (ten e)

/-- A parameter record in range for its kind (R235, R253). -/
def recordOk (plan : Bool) (r : Bytes) : Bool :=
  let per := recPeriod r
  let lo := if plan then 60000 else 1000
  let hi := if plan then 3600000 else 10000
  decide (per = 0 ∨ (lo ≤ per ∧ per ≤ hi))
    && decide (if per = 0 then recOffset r = 0 else recOffset r < per)
    && decide (1 ≤ recDeadline r ∧ recDeadline r ≤ 3600000 ∧ (per = 0 ∨ recDeadline r ≤ per))
    && decide (1 ≤ recMaxIter r ∧ recMaxIter r ≤ 1000 ∧ recRefine r ≤ 4 ∧ u8 r 16 ≤ 1)
    && decide (recWide r ≤ (if plan then 0 else 2))
    && (if plan then decide (recMask r < 16 ∧ 10 ≤ recGapS r ∧ recGapS r ≤ 3600 ∧ recBeforeS r ≤ 7200 ∧ recAfterS r ≤ 7200)
        else decide (recMask r = 0 ∧ recGapS r = 0 ∧ recBeforeS r = 0 ∧ recAfterS r = 0))
    && (recTransient r).all (fun q => decide (q = 0xFFFFFFFF ∨ (plan ∧ q ≤ 65535)))
    && in64 (recRho r) (ten64 (-12)) (ten64 (-4)) && in64 (recTau r) (ten64 (-16)) (ten64 (-6))
    && in64 (recDelta r) (ten64 (-12)) 1 && in64 (recEpsRef r) (ten64 (-15)) (ten64 (-6))
    && in64 (recEpsFail r) (num64 (recEpsRef r)) (ten64 (-2))
    && in64 (recEpsP r) (ten64 (-12)) (ten64 (-2)) && in64 (recEpsD r) (ten64 (-12)) (ten64 (-2))
    && in64 (recEpsMu r) (ten64 (-14)) (ten64 (-2)) && in64 (recStepFrac r) (r64 (9 / 10)) (r64 (99999 / 100000))
    && in64 (recInfY r) (ten64 6) (ten64 20)
    && (if plan then decide (val64 (recMinMeas r) = some 0) else in64 (recMinMeas r) 0 1)
    && in64 (recResid r) (r64 (1 / 10)) (ten64 6)

/-- JOB_SET (R253, R254); `stale` makes the island policy stale (R72). -/
def jobSetBody (stale : State → State) (c : Call) (s : State) : State × Reply :=
  let plan := decide (u8 c.payload 0 = 1)
  let r := c.payload.drop 4
  if c.payload.length ≠ 156 then no stLength s
  else if 1 < u8 c.payload 0 ∨ slice c.payload 1 3 ≠ zeros 3 ∨ recordOk plan r = false then no stOutOfRange s
  else
    let s1 := { s with pln := { s.pln with
      recordE := if plan then s.pln.recordE else r, recordP := if plan then r else s.pln.recordP } }
    let s2 := mirror untagged (.pairStatus { noUpdate with jobs := [c.payload] }) (primePeriod plan s1)
    yes [] (judgeHold (if plan then stale s2 else s2))

/-- JOB_RUN (R255). -/
def jobRunBody (c : Call) (s : State) : State × Reply :=
  let plan := decide (u8 c.payload 0 = 1)
  let t := tsField c.payload 4
  if c.payload.length ≠ 20 then no stLength s
  else if 1 < u8 c.payload 0 ∨ slice c.payload 1 3 ≠ zeros 3 ∨ 1 < u8 c.payload 19 ∨ (t.valid ∧ t.view ≠ 1) then
    no stOutOfRange s
  else if (residentCourse s (partitionOf plan)).isNone then no stNotFound s
  else if plan && !fitNow s then no stNotFound s
  else
    let x := otherTrigger plan .run (if t.valid then some (tsNs t) else none) (referenceTime s plan (servoNs s)) s
    yes (le32 x.2) x.1

/-- JOB_ABORT (R256). -/
def jobAbortBody (c : Call) (s : State) : State × Reply :=
  let n := u32 c.payload 0
  if c.payload.length ≠ 4 then no stLength s
  else match [0, 1].find? (fun p => decide ((runningOf s p).map (fun r => r.job.number) = some n)) with
    | some p => yes [] (abortRunning p s)
    | none => match [0, 1].find? (fun p => decide ((tfind s.pln.waiting p).map (fun j => j.number) = some n)) with
      | some p => yes [] (abortWaiting p s)
      | none =>
        if n ≠ 0 ∧ s.pln.results.any (fun x => decide (x.job = n ∧ ¬x.withdrawn)) then yes [] s else no stNotFound s

/-- The 316 bytes of JOB_RESULT. -/
def resultBytes (x : JobResult) : Bytes :=
  le16 x.status.toNat ++ le16 x.warm.toNat ++ le32 x.iterations ++ le32 x.replaced
    ++ (List.range 64).flatMap (fun i => le32 (x.pivots.getD i 0xFFFFFFFF))
    ++ (x.hash ++ zeros 48).take 48

/-- The job of a number runs or waits. -/
def jobLive (s : State) (n : Nat) : Bool := [0, 1].any (fun p =>
  decide ((runningOf s p).map (fun r => r.job.number) = some n ∨ (tfind s.pln.waiting p).map (fun j => j.number) = some n))

/-- JOB_RESULT (R256); what stands beside ST_RUNNING is not stated (log entry 1). -/
def jobResultBody (c : Call) (s : State) : State × Reply :=
  let n := u32 c.payload 0
  if c.payload.length ≠ 4 then no stLength s
  else if c.cap < 316 then no stRspSpace s
  else if n = 0 then no stNotFound s
  else if jobLive s n then yes (le16 stRunning.toNat ++ Config.freeBytes s.free 314) (tickFree s 1)
  else match s.pln.results.find? (fun x => decide (x.job = n ∧ ¬x.withdrawn)) with
    | some x => yes (resultBytes x) s
    | none => no stNotFound s

/-- LEDGER_READ of a ledger quantity (R271). -/
def readQuantity (l : Ledger) (q first count : Nat) : Bytes :=
  let vs := tget l.values q []
  let n := min count (l.horizon - first)
  le32 l.number.toNat ++ le32 q ++ tsBytes { s := l.t0, view := 1, valid := true } ++ le32 l.stepS ++ le16 l.horizon
    ++ le16 n ++ (List.range n).flatMap (fun i =>
      let e := vs.getD (first + i) (0, 0)
      f32Bytes e.1 ++ le16 (first + i) ++ [e.2, 0])

/-- The time value of ns of SERVO time. -/
def tsOfNs (s : State) (ns : Nat) : Ts :=
  { s := ns / 1000000000, ns := ns % 1000000000, view := 1, valid := s.tim.servo.valid }

/-- LEDGER_READ of the published estimate (R271). -/
def readStates (s : State) (e : Estimate) (q from_ count : Nat) : Bytes :=
  let n := min count (e.states.length - from_)
  le32 e.job.toNat ++ le32 q ++ tsBytes (tsOfNs s e.time) ++ le32 0 ++ le16 0 ++ le16 n
    ++ ((e.states.drop from_).take n).flatMap (fun x => le32 x.1 ++ le32 0 ++ le64 x.2.toNat)

/-- LEDGER_READ (R271). -/
def ledgerReadBody (c : Call) (s : State) : State × Reply :=
  let q := u32 c.payload 0
  let first := u16 c.payload 4
  let count := u16 c.payload 6
  let states := decide (2 ^ 31 ≤ q)
  let from_ := (q - 2 ^ 31) * 65536 + first
  if c.payload.length ≠ 8 then no stLength s
  else if count = 0 ∨ c.limit < 32 + count * (if states then 16 else 8) then no stReadCount s
  else if c.cap < 32 + count * (if states then 16 else 8) then no stRspSpace s
  else if 65535 < q ∧ (q < 2 ^ 31 ∨ 2 ^ 31 + 15 < q) then no stOutOfRange s
  else if states then match s.pln.estimate with
    | none => no stNotFound s
    | some e => if e.states.length ≤ from_ then no stOutOfRange s else yes (readStates s e q from_ count) s
  else match s.pln.ledger with
    | none => no stNotFound s
    | some l =>
      if (tfind l.values q).isNone then no stNotFound s
      else if l.horizon ≤ first then no stOutOfRange s
      else yes (readQuantity l q first count) s

/-- A course would not fit its partition's new size (R210). -/
def reachesClash (s : State) (e p : Nat) : Bool :=
  let x := coursesOf s p
  [x.resident, x.coming].any (fun c => match c with
    | some y => decide (hReaches y.image ≠ partitionReaches e p)
    | none => false)

/-- PART_SET (R210, R223). -/
def partSetBody (c : Call) (s : State) : State × Reply :=
  let e := u8 c.payload 0
  if c.payload.length ≠ 4 then no stLength s
  else if 64 < e ∨ slice c.payload 1 3 ≠ zeros 3 then no stOutOfRange s
  else if reachesClash s e 0 || reachesClash s e 1 then no stOutOfRange s
  else yes [] (mirror untagged (.pairStatus { noUpdate with part := some e })
    { s with slv := { s.slv with reaches := e } })

/-! ### The forecast replay (R275) -/

/-- When a recorded list is next due, in ns of SERVO time. -/
def replayAt (f : Forecast) : Nat := f.time + (f.days + 1) * 86400 * 1000000000

/-- The ring with its entry at a place counted as replayed once more. -/
def countReplay (i : Nat) (l : List Forecast) : List Forecast := l.modify i (fun f => { f with days := f.days + 1 })

/-- FORECAST_REPLAY: the recorded list that is due first, in its recorded order, is applied again; one of another
structure is skipped (R275). -/
def forecastReplay (s : State) : State :=
  if s.sys.mode ≠ .island ∨ ¬s.pln.frozen then s
  else
    let due := (numbered s.pln.ring).filter (fun e => decide (replayAt e.2 ≤ servoNs s))
    match due.foldl (fun (a : Option (Nat × Forecast)) e => match a with
        | none => some e
        | some b => if replayAt e.2 < replayAt b.2 then some e else a) none with
    | none => s
    | some (i, f) =>
      let t := { s with pln := { s.pln with ring := countReplay i s.pln.ring } }
      match residentCourse s 1 with
      | some r => if slice f.payload 4 16 = hSignature r.image then applyDeltas f.payload t else t
      | none => t

end Sys2Proof.Machine
end

