-- ==== Sys2Proof/Machine/DistrictTime.lean ====
section
/-! DEFINITION. District time's commands and events: TIM_READ, TIM_LEGAL_SET, TIM_PTP_SET, TIM_SERVO_SET, Sync samples,
the LEGAL rate, Announce, leap seconds, the PTP ports' messages (R332 to R351). -/

namespace Sys2Proof.Machine

/-! ### What a step carries over (R344) -/

/-- SERVO's step from one time to a later one passes the start of a unit's slot window (R175). -/
def windowPassed (u before after : Nat) : Bool := decide (windowOf u before < windowOf u after)

/-- A step has moved SERVO time: a forward one reaches once what it carries over beyond the latest instant already
reached; a backward one keeps what was reached (R344). -/
def carryInstants (before : Nat) (s : State) : State :=
  let t := servoNs s
  let start := max before s.tim.reached
  if t ≤ start then { s with tim := { s.tim with reached := start } }
  else
    let units := (s.pts.units.filter (fun e => windowPassed e.1 start t)).map (·.1)
    judgeHold (noteLow (applyAll periodReached [false, true] (applyAll slotWindow units s)))

/-! ### Commands -/

/-- TIM_READ (R334). -/
def timReadBody (c : Call) (s : State) : State × Reply :=
  if c.payload.length ≠ 0 then no stLength s
  else if c.cap < 40 then no stRspSpace s
  else yes (tsBytes (legal s) ++ tsBytes (servo s) ++ le64 (now s)) s

/-- LEGAL's step, and with SOURCE 1 that of a SERVO time that is not valid (R337, R341). -/
def setLegal (t : Ts) (s : State) : State :=
  let u := legalStep (tsUnits t) s
  if s.tim.record.source = 1 ∧ s.tim.servo.valid = false then
    let before := servoNs u
    let v := servoStep (tsUnits t - viewAt u.tim.servo (now u)) u
    carryInstants before (servoValid v)
  else u

/-- TIM_LEGAL_SET (R337). -/
def timLegalSetBody (c : Call) (s : State) : State × Reply :=
  let t := tsField c.payload 0
  if c.payload.length ≠ 16 then no stLength s
  else if t.view ≠ 0 ∨ t.valid = false ∨ 999999999 < t.ns then no stOutOfRange s
  else if s.tim.legal.valid then no stLegalLocked s
  else yes [] (setLegal t s)

/-- A signed byte of a payload. -/
def i8 (b : Bytes) (o : Nat) : Int := signed 8 (u8 b o)

/-- The PTP port record of its 32 bytes (R347). -/
def ptpOf (b : Bytes) : PtpRecord :=
  { enable := decide (u8 b 0 = 1), profile := u8 b 1, transport := u8 b 2, role := u8 b 3, domain := u8 b 4,
    oneStep := decide (u8 b 5 = 1), logSync := i8 b 6, logAnnounce := i8 b 7, logDelay := i8 b 8, annTimeout := u8 b 9,
    asymNs := signed 32 (u32 b 12), prp := decide (u8 b 16 = 1) }

/-- Fields of a PTP port record in range, with the values that PROFILE 2 forces (R347). -/
def ptpFieldsOk (b : Bytes) : Bool :=
  decide (u8 b 0 ≤ 1 ∧ u8 b 1 ≤ 2 ∧ u8 b 2 ≤ 2 ∧ u8 b 3 ≤ 2 ∧ u8 b 4 ≤ 127 ∧ u8 b 5 ≤ 1 ∧ -4 ≤ i8 b 6 ∧ i8 b 6 ≤ 1
    ∧ 0 ≤ i8 b 7 ∧ i8 b 7 ≤ 4 ∧ -4 ≤ i8 b 8 ∧ i8 b 8 ≤ 5 ∧ 2 ≤ u8 b 9 ∧ u8 b 9 ≤ 10 ∧ u16 b 10 = 0
    ∧ -100000 ≤ signed 32 (u32 b 12) ∧ signed 32 (u32 b 12) ≤ 100000 ∧ u8 b 16 ≤ 1)
    && allZero (slice b 17 15)
    && decide (u8 b 1 = 2 → u8 b 2 = 0 ∧ u8 b 4 = 0 ∧ i8 b 6 = 0 ∧ i8 b 7 = 0 ∧ i8 b 8 = 0 ∧ u8 b 9 = 3)

/-- Every other port of the device has the record's domain. -/
def domainShared (s : State) (p : Nat) (r : PtpRecord) : Bool :=
  (List.range 8).all (fun q => decide (q = p ∨ (ptpPort s q).record.domain = r.domain))

/-- Both ports of a pair configured for PRP carry PRP 1 (R348). -/
def prpAgrees (s : State) (p : Nat) (r : PtpRecord) : Bool := (prpPartner s p).isNone || r.prp

/-- The port is bound to SGMII below 1,000 Mbit/s (R347). -/
def slowSgmii (s : State) (p : Nat) : Bool :=
  let n := tget s.net.ports p {}
  n.sgmii && n.up && decide (n.speed < 2)

/-- TIM_PTP_SET: the port restarts; a PASSIVE PRP partner takes over from a SLAVE port (R342, R347, R348). -/
def timPtpSetBody (c : Call) (s : State) : State × Reply :=
  let p := u8 c.payload 0
  let b := c.payload.drop 4
  let r := ptpOf b
  if c.payload.length ≠ 36 then no stLength s
  else if 7 < p ∨ allZero (slice c.payload 1 3) = false ∨ ptpFieldsOk b = false then no stOutOfRange s
  else if !domainShared s p r || !prpAgrees s p r || slowSgmii s p then no stOutOfRange s
  else yes [] (portLeaves p (if r.enable then portInitializing else portDisabled)
    (setPort p (fun x => { x with record := r }) s))

/-- The servo record of its 40 bytes (R339). -/
def servoOf (b : Bytes) : ServoRecord :=
  { source := u8 b 0, stepEn := decide (u8 b 1 = 1), lockN := u16 b 2, stepNs := u32 b 4, lockNs := u32 b 8,
    holdS := u32 b 12, kp := w32 b 16, ki := w32 b 20, legalTauS := u32 b 24, alarmMs := u32 b 28,
    priority1 := u8 b 32, priority2 := u8 b 33 }

/-- Fields of a servo record in range. -/
def servoFieldsOk (b : Bytes) : Bool :=
  decide (u8 b 0 ≤ 1 ∧ u8 b 1 ≤ 1 ∧ 2 ≤ u16 b 2 ∧ u16 b 2 ≤ 64 ∧ 1000 ≤ u32 b 4 ∧ u32 b 4 ≤ 1000000000
    ∧ 10 ≤ u32 b 8 ∧ u32 b 8 ≤ 100000 ∧ 10 ≤ u32 b 12 ∧ u32 b 12 ≤ 86400
    ∧ 100 ≤ u32 b 24 ∧ u32 b 24 ≤ 100000 ∧ 1 ≤ u32 b 28 ∧ u32 b 28 ≤ 60000)
    && in32 (w32 b 16) (r32 (1 / 100)) 1 && in32 (w32 b 20) (r32 (1 / 1000)) (min (r32 (1 / 2)) (num32 (w32 b 16)))
    && allZero (slice b 34 6)

/-- A change to SOURCE 1 ends sampling: free running, not HOLDOVER; LEGAL's rate is SERVO's, clamped (R338, R339). -/
def sourceNone (s : State) : State :=
  let t := { s with tim := { s.tim with state := .free, holdSince := none, holdExpired := false, lockRun := 0 } }
  if t.tim.legal.valid then legalRate (clampR (-legalLimit) legalLimit t.tim.rServo) t else t

/-- TIM_SERVO_SET: SOURCE, HOLD_S and ALARM_MS act at once (R339). -/
def timServoSetBody (c : Call) (s : State) : State × Reply :=
  let r := servoOf c.payload
  if c.payload.length ≠ 40 then no stLength s
  else if !servoFieldsOk c.payload then no stOutOfRange s
  else
    let t := { s with tim := { s.tim with record := r } }
    yes [] (judgeAlarm (judgeHoldover (if r.source = 1 ∧ s.tim.record.source = 0 then sourceNone t else t)))

/-! ### Samples and rates -/

/-- A port that takes part in PTP: enabled, not FAULTY, its MAC powered, nothing of it re-initialising (R79, R347). -/
def ptpOn (s : State) (p : Nat) : Bool :=
  let x := ptpPort s p
  pd s 8 && s.sys.mode.live && decide (p < 8) && x.record.enable
    && decide (x.state ≠ portFaulty ∧ x.state ≠ portDisabled) && !reinitRuns s 8 p && !reinitRuns s 5 p

/-- SERVO time in units of 2^-16 ns: the timestamp of a frame at its start-of-frame delimiter (R345). -/
def stampNow (s : State) : Int := viewAt s.tim.servo (now s) / 2 ^ 32

/-- A timestamp in ns with its correction, in units of 2^-16 ns. -/
def stampOf (ns : Nat) (correction : Int) : Int := (ns : Int) * 65536 + correction

/-- 2 to a LOG_ field, in s. -/
def logSeconds (l : Int) : Rat := if 0 ≤ l then ((2 ^ l.toNat : Nat) : Rat) else 1 / ((2 ^ (-l).toNat : Nat) : Rat)

/-- 2^n seconds, `n` a LOG_ field, in ticks. -/
def logTicks (l : Int) : Nat := if 0 ≤ l then tickS * 2 ^ l.toNat else tickS / 2 ^ (-l).toNat

/-- One sample of the servo, theta in ns (R340). -/
def servoSample (theta interval : Rat) (s : State) : State :=
  let t := beginAcquiring { s with tim := { s.tim with offset := theta } }
  if stepsAway t.tim theta then
    judgeLock theta (carryInstants (servoNs t) (servoStep (roundNear (-theta * nsUnit)) t))
  else judgeLock theta (slew theta interval t)

/-- offsetFromMaster in ns: receipt less origin and corrections, less the mean path delay and the port's asymmetry
(R340, R345; IEEE 1588-2019, 11.2). -/
def offsetFromMaster (x : PtpPort) (origin receipt : Int) : Rat :=
  ((receipt - origin - x.delay : Int) : Rat) / 65536 - x.record.asymNs

/-- A Sync is whole: it is kept for the delay measurement, and on the SLAVE port it gives a sample (R340). -/
def syncWhole (p : Nat) (origin receipt : Int) (s : State) : State :=
  let x := ptpPort s p
  let t := setPort p (fun y => { y with lastSync := some (origin, receipt), waiting := none }) s
  if x.state ≠ portSlave ∨ s.tim.record.source ≠ 0 ∨ s.tim.degraded then t
  else servoSample (offsetFromMaster x origin receipt) (logSeconds x.record.logSync) t

/-- PTP_SYNC: a Sync from a master, one-step or two-step (R340, R345). -/
def ptpSync (p : Nat) (m : Sync) (s : State) : State :=
  if !ptpOn s p then s
  else
    let t := setPort p (fun y => { y with sync := y.sync + 1 }) s
    if m.twoStep then setPort p (fun y => { y with waiting := some (stampNow s, m.correction) }) t
    else syncWhole p (stampOf m.origin m.correction) (stampNow s) t

/-- LEGAL_RATE_SET: once every second of counter time (R338). -/
def legalRateSet (s : State) : State :=
  let second := now s / tickS
  if second ≤ s.tim.rateAt then s else setLegalRate { s with tim := { s.tim with rateAt := second } }

/-- HOLD_S_EXPIRY (R342). -/
def holdExpiry (s : State) : State := judgeHoldover s

/-- RTC_REALIGN: every 60 s while LEGAL time is valid (R336). -/
def rtcRealign (s : State) : State :=
  if s.board.vbat && s.tim.legal.valid && (!s.rtc.aligned || passed s s.rtc.last (60 * tickS)) then
    { s with rtc := { ticks := legalNs s / 4, aligned := true, last := now s } }
  else s

/-! ### Announce and the ports (R342, R346, R348) -/

/-- The clock identity of a port: the EUI-64 of its MAC address, with FFFE in the middle (R346; PRESUMED of the form, log
entry 120). -/
def clockIdentity (s : State) (p : Nat) : Nat :=
  let m := (macOf s p).toNat
  m / 2 ^ 24 * 2 ^ 40 + 0xFFFE * 2 ^ 24 + m % 2 ^ 24

/-- The device's own clock as it announces it (R346). -/
def ownClock (s : State) (p : Nat) : ClockData :=
  { priority1 := s.tim.record.priority1, clockClass := clockClass s.tim, accuracy := 0xFE, variance := 0xFFFF
    priority2 := s.tim.record.priority2, identity := clockIdentity s p }

/-- What the best-master algorithm compares (IEEE 1588-2019, 9.3.4): a clock, the steps to it, the identity and port of
the sender, and the port that received it. -/
structure Contender where
  clock : ClockData
  steps : Nat
  sender : Nat
  senderPort : Nat
  receiver : Nat
  port : Nat
deriving DecidableEq, Repr

/-- Numbers of one length compared in their order. -/
def lexLess : List Nat → List Nat → Bool
  | a :: as, b :: bs => decide (a < b) || (decide (a = b) && lexLess as bs)
  | _, _ => false

/-- A clock's fields in the order of comparison. -/
def clockKey (c : ClockData) : List Nat :=
  [c.priority1, c.clockClass, c.accuracy, c.variance, c.priority2, c.identity]

/-- How a contender stands to another (IEEE 1588-2019, figures 34 and 35): 2 better, 1 better by topology, 0 the same or
an error, and the opposites. -/
def standing (a b : Contender) : Int :=
  if a.clock.identity ≠ b.clock.identity then (if lexLess (clockKey a.clock) (clockKey b.clock) then 2 else -2)
  else if a.steps + 1 < b.steps then 2
  else if b.steps + 1 < a.steps then -2
  else if a.steps < b.steps then (if b.receiver < b.sender then 2 else if b.sender < b.receiver then 1 else 0)
  else if b.steps < a.steps then (if a.receiver < a.sender then -2 else if a.sender < a.receiver then -1 else 0)
  else if lexLess [a.sender, a.senderPort, a.port] [b.sender, b.senderPort, b.port] then 1
  else if lexLess [b.sender, b.senderPort, b.port] [a.sender, a.senderPort, a.port] then -1
  else 0

/-- A master heard on a port qualifies: two Announces within four intervals, fewer than 255 steps, not this device
(IEEE 1588-2019, 9.3.2.5). -/
def qualifies (s : State) (p : Nat) (f : Foreign) : Bool :=
  decide (f.announce.steps < 255 ∧ f.announce.sender ≠ clockIdentity s p) && (match f.before with
    | some c => decide (now s < c + 4 * logTicks (ptpPort s p).record.logAnnounce)
    | none => false)

/-- A master heard on a port as a contender. -/
def contender (s : State) (p : Nat) (f : Foreign) : Contender :=
  { clock := f.announce.grandmaster, steps := f.announce.steps, sender := f.announce.sender
    senderPort := f.announce.senderPort, receiver := clockIdentity s p, port := p }

/-- The better of two contenders. -/
def better : Option Contender → Contender → Option Contender
  | none, b => some b
  | some a, b => if 0 < standing b a then some b else some a

/-- Erbest: the best master that a port hears; a master-only port follows none. -/
def bestOn (s : State) (p : Nat) : Option Contender :=
  let x := ptpPort s p
  if !ptpOn s p || decide (x.record.role = 2) then none
  else (x.foreign.filter (qualifies s p)).foldl (fun a f => better a (contender s p f)) none

/-- Ebest: the best master of all ports. -/
def bestMaster (s : State) : Option Contender :=
  (List.range 8).foldl (fun a p => match bestOn s p with
    | some c => better a c
    | none => a) none

/-- The state that the best-master algorithm recommends to a port (R346 to R348; IEEE 1588-2019, figure 33). The device's
own clock is compared as it is announced; its class does not bar a port from SLAVE, since a HOLDOVER ends when a port is
next SLAVE (R343; DEDUCED, log entry 121). -/
def recommended (s : State) (p : Nat) : Nat :=
  let x := ptpPort s p
  let own : Contender :=
    { clock := ownClock s p, steps := 0, sender := clockIdentity s p, senderPort := 0, receiver := clockIdentity s p
      port := 0 }
  let master := if x.record.role = 1 then portListening else portMaster
  if x.record.role = 2 then portMaster
  else match bestMaster s with
    | none => x.state
    | some e =>
      if 0 < standing own e then master
      else if e.port = p then portSlave
      else match bestOn s p with
        | some r => if standing e r = 1 ∨ prpPartner s p = some e.port then portPassive else master
        | none => if x.state = portSlave then master else x.state

/-- What the parent announces is taken over (R346). -/
def takeParent (a : Announce) (s : State) : State :=
  { s with tim := { s.tim with
    parent := some (a.grandmaster, a.steps), utcOffset := a.utcOffset, utcValid := a.utcValid, li61 := a.li61
    li59 := a.li59, leapAt := a.dayEnd } }

/-- An Announce heard on a port (IEEE 1588-2019, 9.3.2.3). -/
def hear (p : Nat) (a : Announce) (s : State) : State :=
  let mine := fun (f : Foreign) => decide (f.announce.sender = a.sender ∧ f.announce.senderPort = a.senderPort)
  setPort p (fun x => { x with
    heardAt := now s
    foreign := if x.foreign.any mine
      then x.foreign.map (fun f => if mine f then { announce := a, last := now s, before := some f.last } else f)
      else x.foreign ++ [{ announce := a, last := now s, before := none }] }) s

/-- Every port takes part in the decision; the servo goes to HOLDOVER when the last SLAVE port has gone, and its samples
resume as one is SLAVE again (R342, R343). -/
def decideStates (s : State) : State :=
  let t := applyAll (fun p u => setPort p (fun x => { x with state := recommended s p }) u)
    ((List.range 8).filter (ptpOn s)) s
  if slaveOn t.tim then (if t.tim.state = .holdover ∧ t.tim.record.source = 0 then beginAcquiring t else t)
  else if slaveOn s.tim then slaveLeft t else t

/-- PTP_ANNOUNCE: the best-master algorithm decides the ports' states; the parent's data are taken from its Announce
(R346, R351). -/
def ptpAnnounce (p : Nat) (a : Announce) (s : State) : State :=
  if !ptpOn s p then s
  else
    let t := decideStates (hear p a s)
    let e := (bestMaster t).filter (fun c => decide (c.port = p ∧ c.sender = a.sender ∧ c.senderPort = a.senderPort))
    if (ptpPort t p).state = portSlave ∧ e.isSome = true then takeParent a t else t

/-- ANNOUNCE_RECEIPT_TIMEOUT: ANN_TIMEOUT intervals without an Announce. The masters heard on the port are forgotten; of a
SLAVE port a PRP partner takes over, else the port becomes master where its role allows (R342, R348); a port that has
heard no master becomes one (log entry 81). -/
def announceTimeout (p : Nat) (s : State) : State :=
  let x := ptpPort s p
  let covered := match prpPartner s p with
    | some q => decide (x.state = portSlave ∧ (ptpPort s q).state = portPassive)
    | none => false
  if !ptpOn s p || decide (x.state ≠ portSlave ∧ x.state ≠ portInitializing ∧ x.state ≠ portListening)
      || !passed s x.heardAt (x.record.annTimeout * logTicks x.record.logAnnounce) then s
  else portLeaves p (if covered || decide (x.record.role = 1) then portListening else portMaster)
    (setPort p (fun y => { y with foreign := [], heardAt := now s }) s)

/-- LEAP_APPLY: at the end of the UTC day that the indicator names (R346). -/
def leapApply (s : State) : State :=
  if (s.tim.li61 || s.tim.li59) && decide (s.tim.leapAt ≤ (servo s).s) then
    { s with tim := { s.tim with
      utcOffset := if s.tim.li61 then s.tim.utcOffset + 1 else s.tim.utcOffset - 1, li61 := false, li59 := false } }
  else s

/-- What a master port announces: the parent's data set while a port is SLAVE, else the device's own clock (R346); then
the steps removed and the UTC data. -/
def announced (s : State) (p : Nat) : List Nat :=
  let own := (ownClock s p, 0)
  let d := if slaveOn s.tim then (s.tim.parent.map (fun x => (x.1, x.2 + 1))).getD own else own
  clockKey d.1 ++ [d.2, s.tim.utcOffset.toNat, bit s.tim.utcValid, bit s.tim.li61, bit s.tim.li59]

/-- A message goes out on a port with a timestamp in units of 2^-16 ns: whole ns, the rest in correctionField, and
whether the timestamp was taken on the 40 ns grid (R88, R345). -/
def sendPtp (p kind : Nat) (stamp : Int) (fields : List Nat) (s : State) : State :=
  let r := (ptpPort s p).record
  emit (.ptp p kind r.transport r.domain (stamp / 65536).toNat (stamp % 65536).toNat s.tim.degraded fields) s

/-- The interval of a message's timer has run since it was last sent on the port (R345). -/
def sendDue (s : State) (p kind : Nat) (l : Int) : Bool := match tfind (ptpPort s p).sentAt kind with
  | some c => passed s c (logTicks l)
  | none => true

/-- The port's timer of a message starts again. -/
def sentNow (p kind : Nat) (s : State) : State := setPort p (fun y => { y with sentAt := tset y.sentAt kind (now s) }) s

/-- PTP_MESSAGE_INTERVAL (R345). A one-step Sync carries its own timestamp; of a two-step one it is in the Follow_Up. -/
def ptpInterval (p : Nat) (m : PtpSend) (s : State) : State :=
  let x := ptpPort s p
  let at_ := stampNow s
  if !ptpOn s p then s
  else match m with
    | .sync =>
      if x.state ≠ portMaster ∨ sendDue s p 0 x.record.logSync = false then s
      else
        let t := sentNow p 0 (setPort p (fun y => { y with sync := y.sync + 1 }) s)
        if x.record.oneStep then sendPtp p 0 at_ [] t else sendPtp p 1 at_ [] (sendPtp p 0 0 [] t)
    | .announce =>
      if x.state ≠ portMaster ∨ sendDue s p 2 x.record.logAnnounce = false then s
      else sendPtp p 2 0 (announced s p) (sentNow p 2 s)
    | .delayReq =>
      if x.state = portSlave ∧ x.record.profile = 0 ∧ sendDue s p 3 x.record.logDelay = true then
        sendPtp p 3 0 [] (sentNow p 3 (setPort p (fun y => { y with requested := some at_ }) s))
      else s
    | .pdelayReq =>
      if 1 ≤ x.record.profile ∧ sendDue s p 4 x.record.logDelay = true then
        sendPtp p 4 0 [] (sentNow p 4 (setPort p (fun y => { y with requested := some at_, responded := none }) s))
      else s

/-- Delay_Resp completes an end-to-end measurement: half of the way there and back (IEEE 1588-2019, 11.3). -/
def delayWhole (p : Nat) (received : Int) (s : State) : State :=
  let x := ptpPort s p
  match x.lastSync, x.requested with
  | some (t1, t2), some t3 =>
    setPort p (fun y => { y with delay := (t2 - t3 + (received - t1)) / 2, requested := none }) s
  | _, _ => s

/-- A peer's response completes a peer-to-peer measurement: the round trip less the peer's turnaround, halved
(IEEE 1588-2019, 11.4). -/
def peerWhole (p : Nat) (turnaround receipt : Int) (s : State) : State := match (ptpPort s p).requested with
  | some t1 => setPort p (fun y => { y with delay := (receipt - t1 - turnaround) / 2, requested := none
                                            responded := none }) s
  | none => s

/-- A request is answered with the time of its receipt; a Pdelay_Req in one step with no turnaround, or in two with the
time of the response (R345). -/
def answerPeer (p : Nat) (s : State) : State :=
  if (ptpPort s p).record.oneStep then sendPtp p 6 0 [] s
  else sendPtp p 7 (stampNow s) [] (sendPtp p 6 (stampNow s) [] s)

/-- PTP_DELAY_MESSAGE (R345, R351). -/
def ptpDelay (p : Nat) (m : PtpDelay) (s : State) : State :=
  let x := ptpPort s p
  let e2e := decide (x.record.profile = 0)
  if !ptpOn s p then s
  else match m with
    | .followUp origin correction => match x.waiting with
      | some (receipt, c) => syncWhole p (stampOf origin (correction + c)) receipt s
      | none => s
    | .delayResp received correction =>
      if x.state = portSlave ∧ e2e = true then delayWhole p (stampOf received (-correction)) s else s
    | .delayReq => if x.state = portMaster ∧ e2e = true then sendPtp p 5 (stampNow s) [] s else s
    | .pdelayReq => if e2e then s else answerPeer p s
    | .pdelayResp twoStep received correction =>
      if e2e || x.requested.isNone then s
      else if twoStep then
        setPort p (fun y => { y with responded := some (stampOf received (-correction), stampNow s, correction) }) s
      else peerWhole p correction (stampNow s) s
    | .pdelayFollowUp sent correction => match x.responded with
      | some (received, receipt, _) => peerWhole p (stampOf sent correction - received) receipt s
      | none => s

/-- FUNC_REINIT of a PTP port: it leaves SLAVE, its messages in flight are lost, and it starts again (R79, R343). -/
def reinitPtp (p : Nat) (s : State) : State :=
  let x := ptpPort s p
  setPort p (fun y => { y with foreign := [], waiting := none, lastSync := none, requested := none, responded := none
                               sentAt := [], heardAt := now s })
    (portLeaves p (if x.record.enable then portInitializing else portDisabled) s)

end Sys2Proof.Machine
end

