-- ==== Sys2Proof/Machine/Single.lean ====
section
/-! DEFINITION. Binary32 arithmetic of the loop engine and the field bus: each operation rounded to nearest, ties to
even; infinities and NaN as IEEE 754 has them (R285). -/

namespace Sys2Proof

def sadd (a b : Word) : Word := ofExt (extAdd (extOf a) (extOf b))

/-- The negative. -/
def sneg (a : Word) : Word := a ^^^ 0x80000000

def ssub (a b : Word) : Word := sadd a (sneg b)
def smul (a b : Word) : Word := ofExt (extMul (extOf a) (extOf b))
def sdiv (a b : Word) : Word := ofExt (extDiv (extOf a) (extOf b))

/-- The magnitude. -/
def sabs (a : Word) : Word := a &&& 0x7FFFFFFF

/-- a < b; false with a NaN. -/
def slt (a b : Word) : Bool := extLess (extOf a) (extOf b)

/-- A value limited to a closed range. -/
def sclamp (x lo hi : Word) : Word := if slt x lo then lo else if slt hi x then hi else x

/-- Finite. -/
def sfinite (x : Word) : Bool := (val32 x).isSome

/-- A binary64 rounded to nearest binary32. -/
def narrow (x : Dword) : Word := ofExt (ext64 x)

def s0 : Word := 0
def s1 : Word := 0x3F800000
def sHalf : Word := 0x3F000000
/-- 2.0, the safe value that means high impedance (R297). -/
def sHighZ : Word := 0x40000000

end Sys2Proof
end

