-- ==== Sys2Proof/Machine/FrontEnd.lean ====
section
/-! DEFINITION. The measurement front end: samples, calibration, sequencers, counting inputs, references, and the ADC_
opcodes (R99 to R125). -/

namespace Sys2Proof.Machine

/-! ### Channels (R99, R100) -/

/-- Kinds of front-end channel. -/
def isPrimary (n : Nat) : Bool := decide (n ≤ 11)
def isCompanion (n : Nat) : Bool := decide (16 ≤ n ∧ n ≤ 27)
def isModulator (n : Nat) : Bool := isPrimary n || isCompanion n
def isProcess (n : Nat) : Bool := decide (32 ≤ n ∧ n ≤ 79)
def isAnalogue (n : Nat) : Bool := isModulator n || isProcess n
def isCounting (n : Nat) : Bool := decide (96 ≤ n ∧ n ≤ 127)

/-- A channel's record in force; a channel that has never been set is disabled (R100). -/
def chanRecord (s : State) (n : Nat) : ChanRecord := tget s.adc.records n {}

/-- The metering primary that a modulator's GAIN and EXCITE come from in RTD_PAIR (R100). -/
def primaryOf (n : Nat) : Nat := if isCompanion n then n - 16 else n

/-- A modulator's channel is in RTD_PAIR. -/
def inRtdPair (s : State) (n : Nat) : Bool := decide ((chanRecord s (primaryOf n)).mode = 1)

/-- The gain in force of a modulator (R100). -/
def gainOf (s : State) (n : Nat) : Nat := if inRtdPair s n then (chanRecord s (primaryOf n)).gain else (chanRecord s n).gain

/-- VREF in volts of a reference selection: internal, REFIN, supply (R114). -/
def vref (s : State) (sel : Nat) : Rat :=
  if sel = 1 then (s.adc.refin.toNat : Rat) / 10000
  else if sel = 2 then (s.adc.avdd.toNat : Rat) / 10000
  else 5 / 2

/-- The nominal excitation current of an EXCITE code, in A (R100). -/
def excitation (e : Nat) : Rat := if e = 2 then 1 / 1000 else 1 / 4000

/-! ### IEC 60751 (R105, R137) -/

def rtdA : Rat := 39083 / 10000000
def rtdB : Rat := -(5775 / 10000000000)
def rtdC : Rat := -(4183 / 1000000000000000)

/-- The root of the quadratic of IEC 60751 at R / R0 = x. -/
def rtdRoot (x : Rat) : Rat := r64 ((sqrt64 (rtdA * rtdA - 4 * rtdB * (1 - x)) - rtdA) / (2 * rtdB))

/-- One Newton step on the equation below 0 degrees. -/
def rtdStep (x t : Rat) : Rat :=
  let y := 1 + rtdA * t + rtdB * t * t + rtdC * (t - 100) * t * t * t - x
  let d := rtdA + 2 * rtdB * t + rtdC * (4 * t * t * t - 300 * t * t)
  r64 (t - y / d)

/-- Temperature in degrees from R / R0: the quadratic at and above 0, three Newton steps below (R137). -/
def rtdTemp (x : Rat) : Rat := if 1 ≤ x then rtdRoot x else rtdStep x (rtdStep x (rtdStep x (rtdRoot x)))

/-! ### Calibration (R116) -/

/-- The Q1.31 limits. -/
def q31Max : Int := 2147483647
def q31Min : Int := -2147483648

/-- A Q1.31 value limited, and whether it saturated (CLIP). -/
def sat31 (x : Int) : Int × Bool := (clampI q31Min q31Max x, decide (x < q31Min ∨ q31Max < x))

/-- One correction step: gain in Q2.30 times a Q1.31 value, plus an offset, rounded to nearest once. -/
def correct (g o x : Int) : Int × Bool := sat31 (roundNear ((g * x : Int) / (1073741824 : Rat) + o))

/-- User gain and offset in force; the identity where none was set (R116). -/
def userCal (s : State) (n : Nat) : Int × Int := tget s.adc.cal n (1073741824, 0)

/-- The calibrated value of a normalised raw code with the factory values of `mode`, and CLIP. -/
def calibrate (s : State) (n mode : Nat) (c : Int) : Int × Bool :=
  let f := correct (Config.factoryGain n mode) (Config.factoryOffset n mode) c
  let u := userCal s n
  let v := correct u.1 u.2 f.1
  (v.1, f.2 || v.2)

/-- A Q1.31 value as an exact fraction. -/
def q31 (v : Int) : Rat := (v : Rat) / 2147483648

/-- The engineering value SCALE x v + ENG_OFFSET in binary32, of a value already exact or a fraction (R105, R106). -/
def scaledBy (r : ChanRecord) (v : Rat) : Word := sadd (smul r.scale (fp32 v)) r.engOffset
def engineering (r : ChanRecord) (v : Int) : Word := scaledBy r (q31 v)

/-! ### Flags (R107) -/

/-- A u32 flags word from its bits. -/
def flagWord (bits : List (Nat × Bool)) : Word := bits.foldl (fun w b => if b.2 then bset w b.1 else w) 0

/-- This half neither holds the token nor is alone: the partner excites (R104). -/
def remote (s : State) : Bool := !s.board.alone && !s.sys.token

/-- No half holds the token (R104). -/
def orphan (s : State) : Bool := remote s && !s.board.ownIn

/-- Quality of a front-end point from its flags (R187). -/
def frontQuality (f : Word) : Nat :=
  if f.getLsbD 0 then 9
  else if f.getLsbD 3 || f.getLsbD 4 || f.getLsbD 5 then 8
  else if f.getLsbD 6 || f.getLsbD 7 || f.getLsbD 9 || f.getLsbD 2 || f.getLsbD 12 then 1
  else 0

/-- FRONT_END_POINT_PUBLISH (R109): at most every 10 ms, with the newest sample. -/
def publishChannel (n : Nat) (x : Sample) (s : State) : State :=
  let due := match tfind s.adc.published n with
    | none => true
    | some c => passed s c (10 * tickMs)
  if due then
    publishOwn n (widen x.eng) (frontQuality x.flags) x.ts
      { s with adc := { s.adc with published := tset s.adc.published n (now s) } }
  else s

/-- A sample is stored, its events raised, its point published (R109, R124). -/
def storeSample (n : Nat) (x : Sample) (s : State) : State :=
  let t := { s with adc := { s.adc with samples := tset s.adc.samples n x } }
  let t := if x.flags.getLsbD 0 then adcFlag 0 t else t
  let t := if x.flags.getLsbD 3 || x.flags.getLsbD 4 || x.flags.getLsbD 5 then adcFlag 1 t else t
  publishChannel n x t

/-! ### Metering converters (R102, R103, R108) -/

/-- The sample grid of a rate and its delay to availability, in ticks (R102). -/
def sampleGrid (rate16 : Bool) : Nat := if rate16 then 15625 else 31250
def sampleDelay (rate16 : Bool) : Nat := if rate16 then 47375 else 94250

/-- The grid instant of a rate whose sample is available now (R120). -/
def instantOf (rate16 : Bool) (s : State) : Nat :=
  (now s - sampleDelay rate16) / sampleGrid rate16 * sampleGrid rate16

/-- The grid instant whose sample is available now: one of the rate in force from its restart on, one of the rate before
it until then, none between (R101, R120). -/
def sampleInstant (s : State) : Option Nat :=
  let new := instantOf s.adc.rate16 s
  let old := instantOf (!s.adc.rate16) s
  if s.adc.rateAt ≤ new then some new else if old < s.adc.rateAt then some old else none

/-- The next grid instant of a rate (R101). -/
def nextGrid (rate16 : Bool) (s : State) : Nat := (now s / sampleGrid rate16 + 1) * sampleGrid rate16

/-- A count of samples left for one channel, less one. -/
def countDown (t : Table Nat) (n : Nat) : Table Nat := match tfind t n with
  | none => t
  | some k => if k ≤ 1 then tdel t n else tset t n (k - 1)

/-- A modulator's sample of an instant carries SETTLE: one of the first four since a restart or an excitation change; a
rate's restart begins at its own first instant (R101, R104). -/
def settling (a : Adc) (n at' : Nat) : Bool := (tfind a.settle n).isSome && decide (a.rateAt ≤ at')

/-- A metering modulator's sample of an instant from its 24-bit code: formed from what stood at that instant (R102 to
R108). -/
def modulatorSample (s0 : State) (n at' : Nat) (code : Int) (f : Comparators) : Sample :=
  let s := asOf at' s0
  let r := chanRecord s n
  let rtd := inRtdPair s n
  let c := clampI (-8388608) 8388607 code
  let v := calibrate s n (gainOf s n) (256 * c)
  { raw := c, v := v.1, eng := engineering r v.1, tick := at', ts := servoAt s at'
    flags := flagWord [(0, f.ovr || (tfind s.adc.ovrLeft n).isSome), (1, decide (c = -8388608 ∨ c = 8388607)),
      (2, v.2), (3, rtd && (f.openLoop || orphan s)), (6, !s.adc.readyM), (7, (tfind s.adc.syscal n).isSome),
      (9, settling s.adc n at'), (11, rtd && remote s)] }

/-- The samples of a modulator that still carry OVR or SETTLE after this one (R108). -/
def afterModulator (n at' : Nat) (f : Comparators) (a : Adc) : Adc :=
  { a with ovrLeft := if f.ovr then tset a.ovrLeft n 3 else countDown a.ovrLeft n
           settle := if settling a n at' then countDown a.settle n else a.settle }

/-- The instant of the sample that a modulator has now: later than its newest one's, its channel enabled then. -/
def modulatorInstant (s : State) (n : Nat) : Option Nat := match sampleInstant s with
  | none => none
  | some t =>
    let newer := match tfind s.adc.samples n with
      | some x => decide (x.tick < t)
      | none => true
    if isModulator n && s.adc.running && pd s 2 && newer && (chanRecord (asOf t s) n).enable then some t else none

/-- A metering modulator's sample of an instant arrives. -/
def meteringSampleFront (n at' : Nat) (code : Int) (f : Comparators) (s : State) : State :=
  storeSample n (modulatorSample s n at' code f) { s with adc := afterModulator n at' f s.adc }

/-- The samples of every modulator of a set carry SETTLE for four samples (R101, R104). -/
def settleAll (ns : List Nat) (a : Adc) : Adc := { a with settle := ns.foldl (fun t n => tset t n 4) a.settle }

/-- The 24 modulators' channels. -/
def modulators : List Nat := List.range 12 ++ (List.range 12).map (· + 16)

/-- The excitation changes hands: samples of the RTD channels carry SETTLE (R104). -/
def settleExcited (s : State) : State :=
  { s with adc := settleAll (modulators.filter (fun n => inRtdPair s n)) s.adc }

/-- The partner's source starts or stops: its token is known by OWN_IN (R104). -/
def partnerExcites (on : Bool) (s : State) : State :=
  if s.board.ownIn = on then s
  else
    let t := noteFront s
    let u := { t with board := { t.board with ownIn := on } }
    if remote u then settleExcited u else u

/-! ### Process inputs (R105 to R113) -/

/-- The half that a process channel belongs to, and its converter. -/
def converterOf (n : Nat) : Nat := if n < 56 then 0 else 1
def sarOf (s : State) (k : Nat) : Sar := if k = 0 then s.adc.sar0 else s.adc.sar1
def withSar (k : Nat) (r : Sar) (s : State) : State :=
  { s with adc := if k = 0 then { s.adc with sar0 := r } else { s.adc with sar1 := r } }

/-- The current of a LOOP input, in A, from its calibrated value (R105). -/
def loopCurrent (s : State) (v : Int) : Rat := q31 v * vref s s.adc.refP / 100

/-- What one conversion of a process channel gives, formed from what stood at its instant: calibrated value, engineering value, flags (R105 to R108). -/
def convert (s0 : State) (n at' : Nat) (code : Rat) (f : Comparators) (fs urgent : Bool) : Int × Word × Word :=
  let s := asOf at' s0
  let r := chanRecord s n
  let mode := if remote s then 0 else r.mode
  let v0 := calibrate s n mode (roundNear (code * 32768))
  let v := if decide (r.mode = 1) && orphan s then 0 else v0.1
  let ohm := if r.excite = 0 then 0 else q31 v * vref s s.adc.refP / excitation r.excite
  let temp := if num32 r.scale ≤ 0 then 0 else rtdTemp (ohm / num32 r.scale)
  let eng := if r.mode = 2 then fp32 (clampR (-200) 850 temp) else engineering r v
  let amp := loopCurrent s v
  (v, eng, flagWord [(0, f.ovr), (1, fs), (2, v0.2 || decide (r.mode = 2 ∧ (temp < -200 ∨ 850 < temp))),
    (3, decide (r.mode ≠ 0) && (f.openLoop || orphan s || decide (r.mode = 1 ∧ amp < 1 / 2000))),
    (4, decide (r.mode = 1 ∧ amp < 36 / 10000)), (5, decide (r.mode = 1 ∧ 21 / 1000 < amp)),
    (6, !s.adc.readyP), (7, (tfind s.adc.syscal n).isSome), (8, urgent), (11, decide (r.mode ≠ 0) && remote s)])

/-- A 16-bit code at a full-scale limit (R108). -/
def processFs (code : Nat) : Bool := decide (code = 0 ∨ 65535 ≤ code)

/-- An entry is taken in a round, counted from 0 as a sequence takes effect: one with DIV > 0 is thus taken in the first
round of a new sequence (R110; DESIGN CHOICE, log entry 135). -/
def taken (round : Nat) (e : SeqEntry) : Bool := decide (round % (e.div + 1) = 0)

/-- The first entry at or after a place that is taken in a round. -/
def nextTaken (round : Nat) : Nat → List SeqEntry → Option Nat
  | _, [] => none
  | k, e :: es => if taken round e then some k else nextTaken round (k + 1) es

/-- The entry that follows the present one: later in the round, or the first of a later round, where a new sequence
takes effect (R111). -/
def advance : Nat → Sar → Sar
  | 0, r => r
  | fuel + 1, r => match nextTaken r.round (r.entry + 1) (r.entries.drop (r.entry + 1)) with
    | some k => { r with entry := k }
    | none =>
      let q := match r.next with
        | some es => { r with entries := es, next := none, round := 0 }
        | none => { r with round := r.round + 1 }
      match nextTaken q.round 0 q.entries with
      | some k => { q with entry := k }
      | none => advance fuel { q with entry := q.entries.length }

/-- The present normal conversion's group is done: its entry gives way to the next. -/
def endEntry (r : Sar) : Sar :=
  advance 257 { r with group := [], groupEnds := [], groupFlags := 0, streak := 0, shielded := false }

/-- The average of the group, to the nearest code, ties to even (R106). -/
def average (l : List Nat) : Nat := (roundEven ((l.foldl (· + ·) 0 : Nat) / (l.length : Rat))).toNat

/-- The mean of the ends of the acquisitions, truncated to the tick (R120). -/
def meanTick (l : List Nat) : Nat := l.foldl (· + ·) 0 / l.length

/-- A normal conversion of a converter completes (R111). -/
def sarDone (k code : Nat) (f : Comparators) (s : State) : State :=
  let r := sarOf s k
  let idle := !s.adc.running || !pd s 2 || r.entries.isEmpty || (!r.urgent.isEmpty && !r.shielded)
  match r.entries[r.entry]? with
  | none => s
  | some e =>
    if idle then s
    else
      let n := 32 + e.input
      let x := min code 65535
      let one := convert s n (now s - 100) (x : Rat) f (processFs x) false
      let group := r.group ++ [x]
      let ends := r.groupEnds ++ [now s - 100]
      let flags := r.groupFlags ||| one.2.2
      if group.length < 2 ^ e.avg then
        withSar k { r with group := group, groupEnds := ends, groupFlags := flags, streak := 0, shielded := false } s
      else
        let avg := average group
        let at' := meanTick ends
        let y := convert s n at' (avg : Rat) f (processFs avg) false
        let t := withSar k (endEntry r) s
        if (chanRecord (asOf at' s) n).enable then
          storeSample n { raw := avg, v := y.1, eng := y.2.1, flags := flags ||| y.2.2, ts := servoAt (asOf at' s) at'
                          tick := at' } t
        else t

/-- A request takes its place in a converter's queue: in order of arrival, those of one tick by express slot (R113). -/
def queueUrgent (x : Urgent) : List Urgent → List Urgent
  | [] => [x]
  | y :: ys => if y.tick = x.tick ∧ x.slot < y.slot then x :: y :: ys else y :: queueUrgent x ys

/-- URGENT_INJECTION (R112, R113): an express slot asks for its channel. -/
def requestUrgent (slot n : Nat) (s : State) : State :=
  let k := converterOf n
  let r := sarOf s k
  let x : Urgent := { slot := slot, channel := n, tick := now s }
  let q := queueUrgent x r.urgent
  if !s.adc.running || !pd s 2 then s
  else if !r.urgent.isEmpty || r.entries.isEmpty then withSar k { r with urgent := q } s
  else if 4 ≤ r.streak then adcFlag 4 (withSar k { r with urgent := q, shielded := true } s)
  else withSar k { r with urgent := q, aborts := r.aborts + 1, streak := r.streak + 1 } s

/-- The urgent sample of a channel from its code (R112). -/
def urgentSample (s : State) (n code : Nat) (f : Comparators) : Sample :=
  let x := min code 65535
  let at' := now s - 100
  let y := convert s n at' (x : Rat) f (processFs x) true
  { raw := x, v := y.1, eng := y.2.1, flags := y.2.2, ts := servoAt (asOf at' s) at', tick := at' }

/-- The urgent conversion at the head of a converter's queue, while it converts. -/
def urgentHead (s : State) (k : Nat) : Option Urgent :=
  let r := sarOf s k
  if r.shielded || !s.adc.running || !pd s 2 then none else r.urgent.head?

/-- The urgent result goes to the channel's sample store, and the next injection starts (R112). -/
def urgentStore (k : Nat) (u : Urgent) (code : Nat) (f : Comparators) (s : State) : State :=
  let r := sarOf s k
  storeSample u.channel (urgentSample s u.channel code f) (withSar k { r with urgent := r.urgent.drop 1 } s)

/-! ### Counting inputs (R121, R122) -/

/-- A counting input. -/
def countingOf (s : State) (k : Nat) : Counting := tget s.adc.counts k {}

/-- OVERSPEED on the input's samples: within 1 s of a pair over speed (R122). -/
def overSpeed (s : State) (c : Counting) : Bool := match c.overspeed with
  | none => false
  | some t => decide (now s < t + tickS)

/-- An edge is counted under MODE (R100). -/
def counts (mode : Nat) (rising : Bool) : Bool := decide (mode = 2 ∨ (mode = 0 ∧ rising) ∨ (mode = 1 ∧ ¬rising))

/-- The least interval between counted edges, in ticks (R122). -/
def edgeLimit (mode : Nat) : Nat := if mode = 2 then 50 * tickUs else 100 * tickUs

/-- The net count of a counting input, modulo 2^32 (R123). -/
def netCount (c : Counting) : Word := c.fwd - c.rev

/-- The sample of a counting input. -/
def countingSample (s : State) (k : Nat) : Sample :=
  let c := countingOf s k
  let r := chanRecord s (96 + k)
  let t := match c.last with
    | some e => e.1
    | none => 0
  { raw := signed 32 (netCount c).toNat, v := signed 32 (netCount c).toNat
    eng := scaledBy r (signed 32 (netCount c).toNat : Int)
    flags := flagWord [(12, overSpeed s c)], ts := c.stamp, tick := t }

/-- Whether an edge of CNTk is counted now. -/
def edgeCounted (s : State) (k : Nat) (rising : Bool) : Bool :=
  let r := chanRecord s (96 + k)
  s.adc.running && pd s 2 && decide (k < 32) && r.enable && counts r.mode rising

/-- An accepted edge of CNTk at the first tick of its stable run is counted (R121, R122). -/
def countEdge (k : Nat) (forward : Bool) (s : State) : State :=
  let r := chanRecord s (96 + k)
  let c := countingOf s k
  let t := now s - r.filterUs * tickUs
  let fast := match c.last with
    | some e => decide (t < e.1 + edgeLimit r.mode)
    | none => false
  let c1 := { c with
    fwd := if forward then c.fwd + 1 else c.fwd, rev := if forward then c.rev else c.rev + 1
    last := some (t, forward), stamp := servoAt (asOf t s) t, prev := c.last.map (·.1)
    overspeed := if fast then some (now s) else c.overspeed }
  let s1 := { s with adc := { s.adc with counts := tset s.adc.counts k c1 } }
  let s2 := if fast then adcFlag 3 s1 else s1
  publishChannel (96 + k) (countingSample s2 k) s2

/-! ### References (R114, R115) -/

/-- A selected reference is in its window: REFIN between 2.000 V and 3.000 V (R115). -/
def refOk (a : Adc) (sel : Nat) : Bool := decide (sel ≠ 1 ∨ (20000 ≤ a.refin.toNat ∧ a.refin.toNat ≤ 30000))

/-- REFERENCE_MEASURE: REFIN and AVDD are measured; a selected REFIN out of its window clears READY (R114, R115). -/
def measureRef (refin avdd : Half) (s0 : State) : State :=
  let s := noteFront s0
  if !pd s 2 || !everyDue s s.adc.measuredAt tickMs then s0
  else
    let b : Adc := { s.adc with refin := refin, avdd := avdd, measuredAt := some (now s) }
    let a : Adc := { b with refinBack := if refOk b 1 && !refOk s.adc 1 then some (now s) else b.refinBack }
    let t := { s with adc := { a with
      readyM := a.readyM && refOk a a.refM, readyP := a.readyP && refOk a a.refP } }
    if (s.adc.readyM && !t.adc.readyM) || (s.adc.readyP && !t.adc.readyP)
        || (decide (a.refM = 1 ∨ a.refP = 1) && !refOk a 1 && refOk s.adc 1) then adcFlag 2 t else t

/-- A selected reference may be ready: in its window, REFIN for 2 ms (R114, R115). -/
def maySettle (s : State) (sel : Nat) : Bool :=
  refOk s.adc sel && (decide (sel ≠ 1) || (match s.adc.refinBack with
    | some c => passed s c (2 * tickMs)
    | none => true))

/-- REFERENCE_READY: a reference has settled (R114, R115). -/
def refReady (metering : Bool) (s0 : State) : State :=
  let s := noteFront s0
  if !pd s 2 then s0
  else if metering then { s with adc := { s.adc with readyM := s.adc.readyM || maySettle s s.adc.refM } }
  else { s with adc := { s.adc with readyP := s.adc.readyP || maySettle s s.adc.refP } }

/-! ### The opcodes -/

/-- A channel record's fields (R100). -/
def chanFields (b : Bytes) : ChanRecord :=
  { enable := decide (u8 b 0 = 1), mode := u8 b 1, gain := u8 b 2, excite := u8 b 3, filterUs := u16 b 4
    express := u8 b 6, urgentAcq := u8 b 7, calLow := w32 b 8, calHigh := w32 b 12, scale := w32 b 16
    engOffset := w32 b 20 }

/-- CAL_LOW and CAL_HIGH in range (R100). -/
def calRangeOk (r : ChanRecord) (lo : Rat) : Bool :=
  in32 r.calLow lo 1 && in32 r.calHigh (num32 r.calLow + 1 / 10) 1

/-- A record in the range of its channel's kind (R100). -/
def chanOk (n : Nat) (enable : Nat) (r : ChanRecord) : Bool :=
  decide (enable ≤ 1) &&
  if isPrimary n then
    decide (r.mode ≤ 1 ∧ r.gain ≤ 5 ∧ (if r.mode = 1 then r.excite = 1 ∨ r.excite = 2 else r.excite = 0)
      ∧ r.filterUs = 0 ∧ r.express = 0xFF ∧ r.urgentAcq = 0) && calRangeOk r (-1)
  else if isCompanion n then
    decide (r.mode = 0 ∧ r.gain ≤ 5 ∧ r.excite = 0 ∧ r.filterUs = 0 ∧ r.express = 0xFF ∧ r.urgentAcq = 0)
      && calRangeOk r (-1)
  else if isProcess n then
    decide (r.mode ≤ 2 ∧ r.gain = 0 ∧ (if r.mode = 2 then r.excite = 1 ∨ r.excite = 2 else r.excite = 0)
      ∧ r.filterUs = 0 ∧ (r.express = 0xFF ∨ r.express ≤ 15) ∧ r.urgentAcq ≤ 31) && calRangeOk r 0
      && (decide (r.mode ≠ 2) || (match val32 r.scale with
          | some q => decide (0 < q)
          | none => false) && in32 r.engOffset 0 0)
  else
    decide (r.mode ≤ 2 ∧ r.gain = 0 ∧ r.excite = 0 ∧ r.filterUs ≤ 1000 ∧ r.express = 0xFF ∧ r.urgentAcq = 0)
      && in32 r.calLow 0 0 && in32 r.calHigh 0 0 && in32 r.engOffset 0 0

/-- Another channel's record already names the express slot (R100). -/
def expressTaken (s : State) (n slot : Nat) : Bool :=
  decide (slot ≠ 0xFF) && s.adc.records.any (fun e => decide (e.1 ≠ n ∧ e.2.express = slot))

/-- The channel that an express slot names, if any. -/
def expressChannel (s : State) (slot : Nat) : Option Nat :=
  (s.adc.records.find? (fun e => e.2.enable && decide (e.2.express = slot))).map (·.1)

/-- An excitation change of a primary puts SETTLE on both modulators. -/
def settleChange (n : Nat) (old new : ChanRecord) (a : Adc) : Adc :=
  if isPrimary n && decide (old.excite ≠ new.excite ∨ old.mode ≠ new.mode) then settleAll [n, n + 16] a else a

/-- A channel's record is set, for its samples from the next instant on, and its point comes or goes (R100, R168). -/
def setChannel (n : Nat) (r : ChanRecord) (s0 : State) : State :=
  let s := noteFront s0
  let t := { s with adc := settleChange n (chanRecord s n) r { s.adc with records := tset s.adc.records n r } }
  if r.enable then ownPoint n 1000 t else dropOwn n t

/-- The global record: a RATE change restarts the converters at the next grid instant of the new rate, a selection change
clears READY (R101, R114); with the front end powered, REFIN selected outside its window is a fault at once (R115, log
entry 88). -/
def setGlobal (rate16 : Bool) (m p : Nat) (s0 : State) : State :=
  let s := noteFront s0
  let a := { s.adc with
    rate16 := rate16, rateAt := if rate16 = s.adc.rate16 then s.adc.rateAt else nextGrid rate16 s, refM := m, refP := p
    readyM := s.adc.readyM && decide (m = s.adc.refM), readyP := s.adc.readyP && decide (p = s.adc.refP) }
  let t := { s with adc := if rate16 = s.adc.rate16 then a else settleAll modulators a }
  if pd s 2 && ((decide (m ≠ s.adc.refM) && !refOk s.adc m) || (decide (p ≠ s.adc.refP) && !refOk s.adc p)) then
    adcFlag 2 t
  else t

/-- ADC_CHAN_SET (R100, R101). -/
def adcChanSetBody (c : Call) (s : State) : State × Reply :=
  let n := u16 c.payload 0
  let size := u16 c.payload 2
  let b := c.payload.drop 4
  let r := chanFields b
  if c.payload.length ≠ 4 + size ∨ size ≠ (if n = 255 then 8 else 24) then no stLength s
  else if n = 255 then
    if 1 < u8 b 0 ∨ 1 < u8 b 1 ∨ 2 < u8 b 2 ∨ u8 b 3 ≠ 0 ∨ u32 b 4 ≠ 0 then no stOutOfRange s
    else yes [] (setGlobal (decide (u8 b 0 = 1)) (u8 b 1) (u8 b 2) s)
  else if !(isAnalogue n || isCounting n) then no stOutOfRange s
  else if !chanOk n (u8 b 0) r || expressTaken s n r.express then no stOutOfRange s
  else if r.enable && !roomFor s [n] then no stNoSpace s
  else yes [] (setChannel n r s)

/-- A sequence entry's fields (R110). -/
def entryFields (w : Nat) : SeqEntry :=
  { input := w % 64, acq := w / 64 % 32, avg := w / 2048 % 8, div := w / 65536 % 256 }

/-- A sequence entry in range for a converter (R110). -/
def entryOk (k w : Nat) : Bool :=
  let e := entryFields w
  decide (e.input ≤ 47 ∧ e.input / 24 = k ∧ e.avg ≤ 4 ∧ w / 16384 % 4 = 0 ∧ w < 2 ^ 24)

/-- A new sequence takes effect at the converter's next round; with none in force, at once (R111). -/
def setSequence (k : Nat) (es : List SeqEntry) (s : State) : State :=
  let r := sarOf s k
  if r.entries.isEmpty then withSar k { r with entries := es, entry := 0, round := 0 } s
  else withSar k { r with next := some es } s

/-- ADC_SEQ_SET (R110). -/
def adcSeqSetBody (c : Call) (s : State) : State × Reply :=
  let k := u8 c.payload 0
  let n := u8 c.payload 1
  let ws := (rowsOf c.payload 4 4 n).map (fun b => u32 b 0)
  if c.payload.length ≠ 4 + 4 * n ∨ c.payload.length < 4 then no stLength s
  else if n = 0 ∨ 64 < n then no stCount s
  else if 1 < k ∨ u16 c.payload 2 ≠ 0 ∨ ¬ws.all (entryOk k) then no stOutOfRange s
  else yes [] (setSequence k (ws.map entryFields) s)

/-- The sample that ADC_SAMPLE_READ returns, and its code (R123). -/
def readSample (s : State) (n : Nat) (raw : Bool) : Option (Int × Word × Ts) :=
  if !(chanRecord s n).enable then none
  else if isCounting n then
    if (countingOf s (n - 96)).last.isNone then none
    else
      let x := countingSample s (n - 96)
      some (x.raw, x.flags, x.ts)
  else match tfind s.adc.samples n with
    | none => none
    | some x => some (if raw then (x.raw, bset x.flags 10, x.ts) else (x.v, x.flags, x.ts))

/-- ADC_SAMPLE_READ (R99, R123). -/
def adcSampleReadBody (c : Call) (s : State) : State × Reply :=
  let w := u16 c.payload 0
  let raw := decide (32768 ≤ w)
  let n := w % 32768
  if c.payload.length ≠ 2 then no stLength s
  else if c.cap < 24 then no stRspSpace s
  else if !(isAnalogue n || (isCounting n && !raw)) then no stOutOfRange s
  else match readSample s n raw with
    | none => no stNotFound s
    | some x => yes (q31Bytes x.1 ++ le32 x.2.1.toNat ++ tsBytes x.2.2) s

/-- A calibration abandoned, and recorded (R119, log entry 20). -/
def abandonCal (n : Nat) (s : State) : State :=
  if (tfind s.adc.syscal n).isSome then
    report 17 n 4 0 { s with adc := { s.adc with syscal := tdel s.adc.syscal n } }
  else s

/-- Every calibration in progress is abandoned: the mode leaves COMMISSION or SERVICE (R119). -/
def abandonCals (s : State) : State := applyAll abandonCal (s.adc.syscal.map (·.1)) s

/-- A gain and an offset in the range of R117. -/
def calOk (g o : Rat) : Bool := decide (3 / 4 ≤ g ∧ g ≤ 5 / 4 ∧ -(1 / 8) ≤ o ∧ o ≤ 1 / 8)

/-- ADC_CAL_SET (R117, R119). -/
def adcCalSetBody (c : Call) (s : State) : State × Reply :=
  let n := u16 c.payload 0
  let g := val32 (w32 c.payload 4)
  let o := val32 (w32 c.payload 8)
  if c.payload.length ≠ 12 then no stLength s
  else if !isAnalogue n || decide (u16 c.payload 2 ≠ 0) then no stOutOfRange s
  else match g, o with
    | some g, some o =>
      if calOk g o then
        yes [] (abandonCal n { s with adc := { s.adc with
          cal := tset s.adc.cal n (roundNear (g * 1073741824), roundNear (o * 2147483648)) } })
      else no stOutOfRange s
    | _, _ => no stOutOfRange s

/-- A step of ADC_SYSCAL is kept with the counter value at which it was issued (R119). -/
def keepStep (n : Nat) (y : SysCal) (s : State) : State :=
  { s with adc := { s.adc with syscal := tset s.adc.syscal n { y with last := now s } } }

/-- The averaging of steps 1 and 2 finds what it needs: samples enough, none of them flagged; the reference ready and the
filter settled, or they would carry REF_NR or SETTLE (R118, R119). -/
def meanOk (s : State) (n : Nat) (m : SyscalMean) : Bool :=
  !m.flagged && decide ((if isProcess n then 16 else 1) ≤ m.samples)
    && (if isProcess n then s.adc.readyP else s.adc.readyM && (tfind s.adc.settle n).isNone)

/-- The gain that step 2 returns and step 3 applies (R118): a free value when the two averages are equal. -/
def sysGain (s : State) (r : ChanRecord) (low high : Int) : Rat :=
  if high = low then num32 (Config.freeWord s.free)
  else (num32 r.calHigh - num32 r.calLow) / (q31 high - q31 low)

/-- ADC_SYSCAL (R118, R119). A step counts as issued for the limit of 600 s when it succeeds; one that is refused or
fails leaves the calibration as it was, and so the limit too (DESIGN CHOICE, log entry 136). -/
def adcSyscalBody (m : SyscalMean) (c : Call) (s : State) : State × Reply :=
  let n := u16 c.payload 0
  let step := u8 c.payload 2
  let r := chanRecord s n
  let done := (tfind s.adc.syscal n).map (·.step)
  let y := tget s.adc.syscal n { step := 0, low := 0, high := 0, last := 0 }
  let mean := clampI q31Min q31Max m.mean
  if c.payload.length ≠ 4 then no stLength s
  else if c.cap < 8 then no stRspSpace s
  else if !isAnalogue n || decide (4 < step ∨ u8 c.payload 3 ≠ 0) then no stOutOfRange s
  else if step = 0 then
    yes (zeros 8) (keepStep n { step := 0, low := 0, high := 0, last := 0 } s)
  else if step = 1 ∧ (done = some 0 ∨ done = some 1) then
    if meanOk s n m then
      yes (q31Bytes mean ++ f32Bytes (fp32 (num32 r.calLow - q31 mean))) (keepStep n { y with step := 1, low := mean } s)
    else no stOutOfRange s
  else if step = 2 ∧ (done = some 1 ∨ done = some 2) then
    if meanOk s n m then
      yes (q31Bytes mean ++ f32Bytes (fp32 (sysGain s r y.low mean)))
        (keepStep n { y with step := 2, high := mean } (tickFree s (bit (decide (mean = y.low)))))
    else no stOutOfRange s
  else if step = 3 ∧ done = some 2 then
    let g := roundNear (sysGain s r y.low y.high * 1073741824)
    let o := roundNear ((num32 r.calLow - (g : Rat) / 1073741824 * q31 y.low) * 2147483648)
    if decide (y.high ≠ y.low) && calOk ((g : Rat) / 1073741824) (q31 o) then
      yes (q31Bytes o ++ f32Bytes (fp32 ((g : Rat) / 1073741824)))
        { s with adc := { s.adc with cal := tset s.adc.cal n (g, o), syscal := tdel s.adc.syscal n } }
    else no stOutOfRange s
  else if step = 4 ∧ done.isSome then
    yes (zeros 8) { s with adc := { s.adc with syscal := tdel s.adc.syscal n } }
  else no stOutOfRange s

/-- CALIBRATION_IDLE_EXPIRY: no step for 600 s (R119). -/
def calIdle (n : Nat) (s : State) : State := match tfind s.adc.syscal n with
  | none => s
  | some y => if passed s y.last (600 * tickS) then abandonCal n s else s

end Sys2Proof.Machine
end

