-- ==== Sys2Proof/Machine/Angles.lean ====
section
/-! DEFINITION. Sine, cosine and the four-quadrant arctangent of exact fractions, by their series: nearer to the true value
than 2^-64, so that a result rounded to binary32 is the rounded true value (R133; log entry 137). -/

namespace Sys2Proof

/-- pi, to fifty places. -/
def piQ : Rat := (314159265358979323846264338327950288419716939937510 : Rat) / 10 ^ 50

/-- A fraction cut to 96 binary places. -/
def chop (q : Rat) : Rat := ((q * 79228162514264337593543950336).floor : Rat) / 79228162514264337593543950336

/-- The terms t - t x^2 / (k + 1)(k + 2) + ... of the series of the sine (t = x, k = 1) and the cosine (t = 1, k = 0). -/
def circleSeries (x2 : Rat) : Nat → Nat → Rat → Rat
  | 0, _, _ => 0
  | n + 1, k, t => t + circleSeries x2 n (k + 2) (chop (-(t * x2) / ((k + 1) * (k + 2) : Nat)))

/-- The angle of a number of turns, between minus half a turn and half a turn, in radians. -/
def radians (turns : Rat) : Rat := chop (2 * piQ * (turns - roundEven turns))

/-- Sine and cosine of a number of turns. -/
def sinTurn (turns : Rat) : Rat := circleSeries (radians turns * radians turns) 24 1 (radians turns)
def cosTurn (turns : Rat) : Rat := circleSeries (radians turns * radians turns) 24 0 1

/-- The terms p / k - p z^2 / (k + 2) + ... of the series of the arctangent (p = z, k = 1). -/
def arcSeries (z2 : Rat) : Nat → Nat → Rat → Rat
  | 0, _, _ => 0
  | n + 1, k, p => p / (k : Nat) + arcSeries z2 n (k + 2) (chop (-(p * z2)))

/-- The arctangent of a fraction from 0 to 1, in radians: from 0.4 on by way of an eighth of a turn. -/
def arcUnit (z : Rat) : Rat :=
  let w := chop ((z - 1) / (z + 1))
  if z ≤ 2 / 5 then arcSeries (chop z * chop z) 40 1 (chop z) else piQ / 4 + arcSeries (w * w) 40 1 w

/-- The angle of the point (x, y) other than the origin, in degrees from -180 to +180. -/
def atan2Deg (y x : Rat) : Rat :=
  let a := if absR y ≤ absR x then arcUnit (absR y / absR x) else piQ / 2 - arcUnit (absR x / absR y)
  let b := if x < 0 then piQ - a else a
  (if y < 0 then -b else b) * 180 / piQ

end Sys2Proof
end

