-- ==== Sys2Proof/Machine/Metering.lean ====
section
/-! DEFINITION. Energy metering: electrical and thermal quantities, accumulators, pulses, sensor identity, snapshots,
and the MTR_ opcodes (R126 to R166). -/

namespace Sys2Proof.Machine

/-- A metering channel, and the state with one changed. -/
def mtrChan (s : State) (n : Nat) : MtrChan := tget s.mtr.channels n {}
def modMtr (n : Nat) (f : MtrChan → MtrChan) (s : State) : State :=
  { s with mtr := { s.mtr with channels := tmod s.mtr.channels n {} f } }

/-- Kinds of channel (R126). -/
def isElectrical (r : MtrRecord) : Bool := decide (r.kind = 1)
def isThermal (r : MtrRecord) : Bool := decide (r.kind = 2 ∨ r.kind = 3)

/-- Metering goes on, if only by buffering its samples (R79, R126, R162); the metering DSP runs. -/
def meteringOn (s : State) : Bool := pd s 3 && s.mtr.running && !s.mtr.stopped
def meteringRuns (s : State) : Bool := meteringOn s && !reinitRuns s 3 0

/-- Something for the DSP: done now, or held while it is re-initialised (R79). -/
def feedMetering (w : MtrWork) (f : State → State) (s : State) : State :=
  if !meteringOn s then s
  else if meteringRuns s then f s
  else { s with mtr := { s.mtr with held := s.mtr.held ++ [w] } }

/-- The front-end record matches the channel's KIND (R126, R127). -/
def matched (s : State) (n : Nat) : Bool :=
  let r := (mtrChan s n).record
  let p := chanRecord s n
  if isElectrical r then decide (p.mode = 0) && p.enable && (chanRecord s (n + 16)).enable
  else decide (p.mode = 1)

/-- The counter value of the last period boundary, of the last 10 ms tick and of the last second boundary (R131, R136). -/
def periodTicks : Nat := 62500000
def boundary (s : State) : Nat := now s / periodTicks * periodTicks
def thermalTick (s : State) : Nat := now s / 2500000 * 2500000
def secondTick (s : State) : Nat := now s / tickS * tickS

/-! ### Compensation tables (R142) -/

/-- Linear interpolation in a table whose temperatures increase; the end factor outside it, with TCOMP_CLAMP. -/
def interpolate : List (Word × Word) → Rat → Rat × Bool
  | [], _ => (1, false)
  | [(t, f)], x => (num32 f, decide (x ≠ num32 t))
  | (t0, f0) :: (t1, f1) :: rest, x =>
    if x < num32 t0 then (num32 f0, true)
    else if x ≤ num32 t1 then
      (num32 f0 + (num32 f1 - num32 f0) * (x - num32 t0) / (num32 t1 - num32 t0), false)
    else interpolate ((t1, f1) :: rest) x

/-- The temperature argument of an electrical channel: a front-end channel or the hottest junction (R142). -/
def tcompTemp (s : State) (src : Nat) : Rat :=
  if src = 0xFE then (signed 16 s.pmu.temp.toNat : Rat) / 16
  else match tfind s.adc.samples src with
    | some x => num32 x.eng
    | none => 0

/-- g_T of an electrical channel, with TCOMP_CLAMP: 1 without TCOMP_SRC or table. -/
def gainT (s : State) (m : MtrChan) : Rat × Bool :=
  if m.record.tcompSrc = 0xFF then (1, false)
  else match m.table with
    | none => (1, false)
    | some t => interpolate t (tcompTemp s m.record.tcompSrc)

/-! ### Samples (R132 to R134, R136) -/

/-- A voltage sample enters the sums and the crossing detector (R132, R134). -/
def voltageSample (tick : Nat) (x : Int) (e : ElectricSums) : ElectricSums :=
  let e1 := { e with
    n := e.n + 1, v2 := e.v2 + x * x, wave := (tick, x) :: e.wave, lastV := some (tick, x), prev := some (tick, x) }
  match e.prev with
  | none => { e1 with armed := e.armed || decide (x * 100 < -2147483648) }
  | some (t0, y) =>
    let crossing : Rat := (t0 : Rat) + ((tick - t0 : Nat) : Rat) * (-y : Int) / ((x - y : Int) : Rat)
    if e.armed ∧ y < 0 ∧ 0 ≤ x then
      { e1 with
        crossings := e.crossings + 1, first := if e.crossings = 0 then crossing else e.first, last := crossing
        armed := false }
    else { e1 with armed := e.armed || decide (x * 100 < -2147483648) }

/-- A current sample enters the sums. -/
def currentSample (tick : Nat) (x : Int) (e : ElectricSums) : ElectricSums :=
  { e with i2 := e.i2 + x * x, lastC := some (tick, x) }

/-- The voltage shifted by -90 degrees: the 255-tap filter over the newest samples, newest first (R133). -/
def quadrature (vs : List Int) : Rat := (numbered vs).foldl (fun a e => a + Config.shiftTap e.1 * q31 e.2) 0

/-- The two samples of one instant, voltage and current, enter the products (R132, R133): the current is delayed as the
filter delays the voltage, by 127 samples. -/
def pairSample (e : ElectricSums) : ElectricSums := match e.lastV, e.lastC with
  | some (t, v), some (u, c) =>
    if t = u then
      let vs := v :: e.vs.take 254
      let cs := c :: e.cs.take 127
      { e with vi := e.vi + v * c, vs := vs, cs := cs, hd := e.hd + quadrature vs * q31 (cs.getD 127 0) }
    else e
  | _, _ => e

/-- R0 of a channel's sensors from TYPE (R137, R151). -/
def sensorR0 (m : MtrChan) : Rat :=
  if m.readType = 1 then 100 else if m.readType = 2 then 500 else if m.readType = 3 then 1000 else Config.unknownR0

/-- The resistance that an RTD_PAIR sample of an instant stands for (R137). -/
def pairOhm (s0 : State) (n at' : Nat) (v : Int) : Rat :=
  let s := asOf at' s0
  let p := chanRecord s n
  q31 v * (vref s s.adc.refM / 2) / pow2 p.gain / excitation p.excite

/-- The temperature of a resistance by a channel's sensors (R137). -/
def pairTemp (m : MtrChan) (ohm : Rat) : Rat := if sensorR0 m = 0 then 0 else rtdTemp (ohm / sensorR0 m)

/-- Flags that make a temperature sample invalid: OVR, OPEN, REF_NR, SETTLE (R141). -/
def tempBad (f : Word) : Bool := f.getLsbD 0 || f.getLsbD 3 || f.getLsbD 6 || f.getLsbD 9

/-- A modulator's sample enters its metering channel (R132, R136). -/
def meterSample (x : MtrIn) (s : State) : State :=
  let n := primaryOf x.channel
  let m := mtrChan s n
  let s1 := if x.flags.getLsbD 0 then modMtr n (fun y => { y with opened := bset y.opened 0 }) s else s
  if isElectrical m.record then
    let enter := if isPrimary x.channel then voltageSample x.tick x.v else currentSample x.tick x.v
    modMtr n (fun y => { y with electric := pairSample (enter y.electric) }) s1
  else if isThermal m.record then
    let t := pairTemp m x.ohm
    let good := bit (!tempBad x.flags)
    if isPrimary x.channel then
      modMtr n (fun y => { y with thermal := { y.thermal with
        sumF := y.thermal.sumF + t, countF := y.thermal.countF + 1, nF := y.thermal.nF + good } }) s1
    else
      modMtr n (fun y => { y with thermal := { y.thermal with
        sumR := y.thermal.sumR + t, countR := y.thermal.countR + 1, nR := y.thermal.nR + good } }) s1
  else s1

/-- What metering takes of a modulator's newest sample. -/
def mtrInput (s : State) (ch at' : Nat) : MtrIn := match tfind s.adc.samples ch with
  | some x => { channel := ch, tick := at', v := x.v, flags := x.flags, ohm := pairOhm s (primaryOf ch) at' x.v }
  | none => { channel := ch, tick := at', v := 0, flags := 0, ohm := 0 }

/-- METERING_SAMPLE: a modulator's code is calibrated, stored, and enters metering. -/
def meteringSample (ch : Nat) (code : Int) (f : Comparators) (s : State) : State := match modulatorInstant s ch with
  | none => s
  | some at' =>
    let t := meteringSampleFront ch at' code f s
    feedMetering (.sample (mtrInput t ch at')) (meterSample (mtrInput t ch at')) t

/-! ### Thermal ticks (R136 to R141) -/

/-- The flow of a counting input at a tick (R138). -/
def countedFlow (c : Counting) (r : MtrRecord) (t : Nat) : Rat := match c.last, c.prev with
  | some (t2, fwd), some t1 =>
    let d := t2 - t1
    let gap := t - t2
    let mag := if gap ≤ d then num32 r.vPulse / ((d : Rat) / tickS)
      else if gap < r.cutoffMs * tickMs then num32 r.vPulse / ((gap : Rat) / tickS) else 0
    if fwd then mag else -mag
  | _, _ => 0

/-- The flow of a thermal channel before its limits, and FLOW_LOST (R138). -/
def rawFlow (s : State) (r : MtrRecord) (t : Nat) : Rat × Bool :=
  if r.flowSrc = 0 then (countedFlow (countingOf s r.flowIdx) r t, false)
  else match tfind s.adc.samples r.flowIdx with
    | none => (0, true)
    | some x => if x.flags.getLsbD 0 || x.flags.getLsbD 3 then (0, true) else (num32 x.eng, false)

/-- The flow of a thermal channel within its limits; FLOW_CLAMP and FLOW_LOST (R138). -/
def flowWithin (r : MtrRecord) (q : Rat × Bool) : Rat × Bool × Bool :=
  if absR q.1 < num32 r.qCut then (0, false, q.2)
  else if num32 r.qMax < absR q.1 then (if q.1 < 0 then -num32 r.qMax else num32 r.qMax, true, q.2)
  else (q.1, false, q.2)

/-- Forward and reverse parts of an interval of 10 ms by the trapezium rule, split at a zero crossing; and SPLIT (R139). -/
def trapezium (p0 p1 : Rat) : Rat × Rat × Bool :=
  let h : Rat := 1 / 100
  if (p0 < 0 ∧ 0 < p1) ∨ (0 < p0 ∧ p1 < 0) then
    let t := h * p0 / (p0 - p1)
    let a := absR p0 * t / 2
    let b := absR p1 * (h - t) / 2
    if p1 < 0 then (a, b, true) else (b, a, true)
  else
    let e := (p0 + p1) * h / 2
    if e < 0 then (0, -e, false) else (e, 0, false)

/-- The temperatures of a tick when both are valid (R136, R141). -/
def tickTemps (x : ThermalSums) : Option (Rat × Rat) :=
  let f := if x.countF = 0 then 0 else x.sumF / x.countF
  let r := if x.countR = 0 then 0 else x.sumR / x.countR
  if decide (0 < x.nF ∧ 0 < x.nR ∧ -50 ≤ f ∧ f ≤ 200 ∧ -50 ≤ r ∧ r ≤ 200) then some (f, r) else none

/-- The temperature difference that a tick counts (R136). -/
def tickDelta (r : MtrRecord) (f ret : Rat) : Rat :=
  let d := if r.kind = 2 then f - ret else ret - f
  if absR d < num32 r.dtMin then 0 else d

/-- The sums after a tick with the temperatures, the factor and the flow that it uses. -/
def addTick (r : MtrRecord) (valid : Bool) (f ret k q : Rat) (x : ThermalSums) : ThermalSums :=
  let d := tickDelta r f ret
  let p := k * q * d
  let e := match x.lastP with
    | some p0 => trapezium p0 p
    | none => (0, 0, false)
  let v := match x.lastQ with
    | some q0 => if r.flowSrc = 1 then trapezium q0 q else (0, 0, false)
    | none => (0, 0, false)
  let held := if valid then 0 else x.heldTicks + 1
  let un := decide (6000 ≤ held)
  { x with
    nF := 0, sumF := 0, countF := 0, nR := 0, sumR := 0, countR := 0
    held := if valid then some (f, ret, k) else x.held
    lastP := some p, lastQ := some q, heldTicks := held
    eF := if un then x.eF else x.eF + e.1, eR := if un then x.eR else x.eR + e.2.1
    uF := if un then x.uF + e.1 else x.uF, uR := if un then x.uR + e.2.1 else x.uR
    vF := x.vF + 1000000 * v.1, vR := x.vR + 1000000 * v.2.1
    theta := (f, ret), delta := d, q := q, sumP := x.sumP + p, sumK := x.sumK + k, ticks := x.ticks + 1 }

/-- The factor at a temperature from the channel's table (R142). -/
def factorAt (m : MtrChan) (t : Rat) : Rat × Bool := match m.table with
  | none => (0, false)
  | some tb => interpolate tb t

/-- A tick of a thermal channel with its flow (R136): one without valid temperatures uses the last valid ones (R141). -/
def tickChannel (n : Nat) (flow : Rat × Bool) (s : State) : State :=
  let m := mtrChan s n
  let x := m.thermal
  if !isThermal m.record then s
  else
    let q := flowWithin m.record flow
    let temps := tickTemps x
    let k := match temps with
      | some t => factorAt m ((t.1 + t.2) / 2)
      | none => match x.held with
        | some h => (h.2.2, false)
        | none => (0, false)
    let t := match temps with
      | some t => t
      | none => match x.held with
        | some h => (h.1, h.2.1)
        | none => (0, 0)
    let y := addTick m.record temps.isSome t.1 t.2 k.1 q.1 x
    let split := match x.lastP with
      | some p0 => (trapezium p0 (k.1 * q.1 * tickDelta m.record t.1 t.2)).2.2
      | none => false
    let bits := [(1, temps.isNone), (2, decide (6000 ≤ y.heldTicks)), (3, split), (5, q.2.2), (6, q.2.1), (7, k.2)]
    let s1 := modMtr n (fun c => { c with thermal := y, opened := c.opened ||| flagWord bits }) s
    if y.heldTicks = 6000 then mtrFlag 4 s1 else s1

/-- THERMAL_TICK of a channel: at each instant of 10 ms once (R136). -/
def thermalTickOf (n : Nat) (s : State) : State :=
  let t := thermalTick s
  if t ≤ max (mtrChan s n).tickedAt s.mtr.startedAt ∨ isThermal (mtrChan s n).record = false then s
  else
    let q := rawFlow s (mtrChan s n).record t
    feedMetering (.tick n t q) (tickChannel n q) (modMtr n (fun m => { m with tickedAt := t }) s)

/-- A counted edge adds its volume to the channels that take flow from the input (R140). -/
def countVolume (k : Nat) (forward : Bool) (s : State) : State :=
  applyAll (fun n t =>
    let r := (mtrChan t n).record
    if isThermal r && decide (r.flowSrc = 0 ∧ r.flowIdx = k) then
      modMtr n (fun c => { c with thermal := { c.thermal with
        vF := if forward then c.thermal.vF + 1000000 * num32 r.vPulse else c.thermal.vF
        vR := if forward then c.thermal.vR else c.thermal.vR + 1000000 * num32 r.vPulse } }) t
    else t) (List.range 12) s

/-- COUNTING_EDGE (R121, R122, R140). -/
def countingEdge (k : Nat) (rising forward : Bool) (s : State) : State :=
  if edgeCounted s k rising then feedMetering (.volume k forward) (countVolume k forward) (countEdge k forward s) else s

/-! ### Accumulators (R143 to R145) -/

/-- The energy quantum of a QUANTUM code, in J (R144). -/
def quantumJ (code : Nat) : Rat := 36 / 10 * (10 ^ code : Nat)

/-- One accumulator after an amount in its unit, with the counts gained (R143). -/
def accumulate (q : Rat) (count : Dword) (residue : Word) (e : Rat) : Dword × Word × Nat :=
  let x := (residue.toNat : Rat) / 4294967296 + e / q
  let n := x.floor.toNat
  let r := (roundEven ((x - n) * 4294967296)).toNat
  (count + BitVec.ofNat 64 n, BitVec.ofNat 32 (min r 4294967295), n)

/-- Accumulator k of a channel after an amount; the counts gained, and whether WRAP moved (R143, R145). -/
def addAcc (a : Accs) (k : Nat) (q e : Rat) : Accs × Nat × Bool :=
  let c := a.counts.getD k 0
  let r := accumulate q c (a.residues.getD k 0) e
  ({ counts := a.counts.set k r.1, residues := a.residues.set k r.2.1 }, r.2.2, decide (r.1 >>> 48 ≠ c >>> 48))

/-- Amounts added to several accumulators: the accumulators, the counts each gained, whether any WRAP moved. -/
def addAll (a : Accs) : List (Nat × Rat × Rat) → Accs × Table Nat × Bool
  | [] => (a, [], false)
  | (k, q, e) :: rest =>
    let x := addAcc a k q e
    let y := addAll x.1 rest
    (y.1, tset y.2.1 k x.2.1, x.2.2 || y.2.2)

/-! ### Closing a period (R131 to R141, R163) -/

/-- What a period of a channel comes to: amounts for its accumulators, flags, values (R133 to R141). -/
structure Closing where
  amounts : List (Nat × Rat × Rat)
  flags : Word
  values : List Word
deriving DecidableEq, Repr

/-- The frequency of a period in Hz; none when it is invalid (R134). -/
def periodFreq (e : ElectricSums) : Option Rat :=
  if e.crossings < 3 ∨ e.last ≤ e.first then none
  else
    let f := ((e.crossings - 1 : Nat) : Rat) / ((e.last - e.first) / tickS)
    if 40 ≤ f ∧ f ≤ 70 then some f else none

/-- The lowest-numbered electrical channel of a channel's GROUP; none without a group. -/
def groupHead (s : State) (g : Nat) : Option Nat :=
  (List.range 12).find? (fun n => isElectrical (mtrChan s n).record && decide ((mtrChan s n).record.group = g ∧ g ≤ 3))

/-- The fundamental voltage phasor of a period, real and imaginary parts: the single-bin DFT at a frequency, its angle
counted from counter value 0 (R133). -/
def phasor (f : Rat) (wave : List (Nat × Int)) : Rat × Rat :=
  wave.foldl (fun z e =>
    let turns := f * e.1 / tickS
    (z.1 + e.2 * cosTurn turns, z.2 - e.2 * sinTurn turns)) (0, 0)

/-- The angle of a channel's fundamental in a period, in degrees; none without a valid frequency. -/
def phasorAngle (e : ElectricSums) : Option Rat := (periodFreq e).map (fun f =>
  let z := phasor f e.wave
  atan2Deg z.2 z.1)

/-- An angle brought to -180 to +180 degrees. -/
def wrapDeg (a : Rat) : Rat := if 180 < a then a - 360 else if a < -180 then a + 360 else a

/-- The voltage angles of the channels in the period that closes (R133): none where nothing is stated to subtract, the
channel being in no GROUP or its head without a valid frequency (log entry 138). -/
def voltageAngle (s : State) (n : Nat) : Option Rat :=
  let m := mtrChan s n
  match phasorAngle m.electric, (groupHead s m.record.group).map (fun h => (h, phasorAngle (mtrChan s h).electric)) with
  | none, _ => some 0
  | some a, some (h, some b) => some (if h = n then 0 else wrapDeg (a - b))
  | some _, _ => none

/-- A period of an electrical channel (R133, R135), with its voltage angle; `k` numbers its free values. -/
def closeElectric (s : State) (angle : Option Rat) (n k : Nat) (m : MtrChan) : Closing :=
  let e := m.electric
  let g := gainT s m
  let sp := num32 (chanRecord s n).scale
  let sc := g.1 * num32 (chanRecord s (n + 16)).scale
  let cnt : Rat := if e.n = 0 then 1 else e.n
  let fs : Rat := 2147483648 * 2147483648
  let v := r64 (absR sp * sqrt64 (e.v2 / fs / cnt))
  let i := r64 (absR sc * sqrt64 (e.i2 / fs / cnt))
  let p := r64 (sp * sc * (e.vi / fs / cnt))
  let q := r64 (sp * sc * (e.hd / cnt))
  let va := r64 (v * i)
  let lowS := decide (va < num32 m.record.pMax / 1000)
  let f := periodFreq e
  { amounts := [(if p < 0 then 1 else 0, quantumJ m.record.quantum, absR p / 4),
      (if q < 0 then 3 else 2, quantumJ m.record.quantum, absR q / 4), (4, quantumJ m.record.quantum, va / 4)]
    flags := flagWord [(4, decide (num32 m.record.pMax < va)), (7, g.2), (8, f.isNone), (9, lowS)]
    values := [fp32 v, fp32 i, fp32 p, fp32 q, fp32 va, if lowS then 0 else fp32 (p / va), fp32 (f.getD 0),
      if p = 0 ∧ q = 0 then Config.freeWord k else fp32 (atan2Deg q p),
      match angle with
        | some a => fp32 a
        | none => Config.freeWord (k + 1), 0] }

/-- The channel bills to its uncertified registers for its identity (R152 to R154). -/
def uncertified (m : MtrChan) : Bool := isThermal m.record && (decide (m.identity ≠ 1) || m.resumes)

/-- The channel bills to its uncertified registers now: its identity, or temperatures held for 60 s (R141, R152). -/
def billsUncertified (m : MtrChan) : Bool :=
  uncertified m || (isThermal m.record && decide (6000 ≤ m.thermal.heldTicks))

/-- A period of a thermal channel (R139 to R141). -/
def closeThermal (m : MtrChan) : Closing :=
  let x := m.thermal
  let un := uncertified m
  let q := quantumJ m.record.quantum
  let cnt : Rat := if x.ticks = 0 then 1 else x.ticks
  { amounts := [(0, q, if un then 0 else x.eF), (1, q, if un then 0 else x.eR), (2, 1, x.vF), (3, 1, x.vR),
      (4, q, if un then x.eF + x.uF else x.uF), (5, q, if un then x.eR + x.uR else x.uR)]
    flags := flagWord [(2, un)]
    values := [fp32 x.theta.1, fp32 x.theta.2, fp32 x.delta, fp32 x.q, fp32 (x.sumP / cnt), fp32 (x.sumK / cnt),
      0, 0, 0, 0] }

/-- What a channel's period comes to; a mismatched channel, or a thermal one without a table, integrates nothing
(R127, R142). -/
def closeChannel (s : State) (angle : Option Rat) (n k : Nat) (m : MtrChan) : Closing :=
  let c := if isElectrical m.record then closeElectric s angle n k m else closeThermal m
  let mis := !matched s n
  let noTable := isThermal m.record && m.table.isNone
  { c with
    amounts := if mis || noTable then [] else c.amounts
    flags := c.flags ||| flagWord [(10, mis), (11, noTable)] }

/-- Quality of value m of a metering channel from its period flags (R187). -/
def meteringQuality (thermal : Bool) (m : Nat) (f : Word) : Nat :=
  if f.getLsbD 10 || f.getLsbD 11 then 11
  else if thermal && decide (m = 3 ∨ m = 4) && f.getLsbD 5 then 8
  else if decide (m = 6 ∨ m = 8) && f.getLsbD 8 then 9
  else if !thermal && decide (m = 5) && f.getLsbD 9 then 9
  else if f.getLsbD 1 || f.getLsbD 6 || f.getLsbD 7 || f.getLsbD 4 || f.getLsbD 0 then 1
  else 0

/-- The values of a channel are published as device-own points (R163). -/
def publishValues (n : Nat) (thermal : Bool) (flags : Word) (vals : List Word) (s : State) : State :=
  applyAll (fun (e : Nat × Word) t =>
    publishOwn (0x0100 + 16 * n + e.1) (widen e.2) (meteringQuality thermal e.1 flags) t.mtr.endServo t)
    (numbered vals) s

/-- The channel flags of R157 that a period's flags add. -/
def sinceFlags (f : Word) (wrap : Bool) : Half :=
  (flagWord [(0, f.getLsbD 0), (1, f.getLsbD 1), (2, f.getLsbD 2), (4, f.getLsbD 4), (5, f.getLsbD 5),
    (6, f.getLsbD 7), (7, wrap), (8, f.getLsbD 10)]).setWidth 16

/-- PULSE_SPILL (R149): the counts that the source gained enter the residue, and pulses become pending. -/
def spill (gain : Nat) (p : Pulse) : Pulse :=
  let r := min (p.residue + gain) (2 ^ 64 - 1)
  let n := if p.threshold = 0 then 0 else min (r / p.threshold) (255 - p.pending)
  { p with residue := r - n * p.threshold, pending := p.pending + n, backlog := decide (p.pending + n = 255) }

/-- The pulses bound to a channel take the counts its accumulators gained (R149). -/
def spillChannel (n : Nat) (gains : Table Nat) (s : State) : State :=
  applyAll (fun (e : Nat × Pulse) t =>
    if e.2.source / 8 = n then
      let p := spill (tget gains (e.2.source % 8) 0) e.2
      let u := { t with mtr := { t.mtr with pulses := tset t.mtr.pulses e.1 p } }
      if p.backlog && !e.2.backlog then mtrFlag 2 u else u
    else t) s.mtr.pulses s

/-- The amounts of a period cut short after `len` ticks: an electrical channel's power over that time; a thermal channel's
amounts are those of its complete ticks (R160; log entry 102). -/
def cutShort (electrical : Bool) (len : Nat) (l : List (Nat × Rat × Rat)) : List (Nat × Rat × Rat) :=
  if len = periodTicks ∨ electrical = false then l
  else l.map (fun e => (e.1, e.2.1, e.2.2 * ((len : Nat) : Rat) / periodTicks))

/-- The period of one channel is closed after `len` ticks (R131). -/
def closeOne (angles : Nat → Option Rat) (len n : Nat) (s : State) : State :=
  let m := mtrChan s n
  if m.record.kind = 0 then s
  else
    let c := closeChannel s (angles n) n s.free m
    let a := addAll m.accs (cutShort (isElectrical m.record) len c.amounts)
    let flags := m.opened ||| c.flags
    let s1 := modMtr n (fun x => { x with
      accs := a.1, opened := 0, closed := flags, since := x.since ||| sinceFlags flags a.2.2, values := c.values
      resumes := false
      electric := { x.electric with
        n := 0, v2 := 0, i2 := 0, vi := 0, hd := 0, wave := [], crossings := 0, first := 0, last := 0 }
      thermal := { x.thermal with
        eF := 0, eR := 0, uF := 0, uR := 0, vF := 0, vR := 0, sumP := 0, sumK := 0, ticks := 0 } }) (tickFree s 2)
    let s2 := if a.2.2 then mtrFlag 3 s1 else s1
    spillChannel n a.2.1 (publishValues n (isThermal m.record) flags c.values s2)

/-- LEGAL time at a counter value. -/
def legalAt (s : State) (t : Nat) : Ts := tsOf 0 s.tim.legal.valid (viewAt s.tim.legal t)

/-- Every channel's period is closed after `len` ticks, at an instant of SERVO and LEGAL time. -/
def closeAll (len : Nat) (endServo endLegal : Ts) (s : State) : State :=
  let s1 := { s with mtr := { s.mtr with
    endServo := endServo, endLegal := endLegal, periods := s.mtr.periods + 1 } }
  applyAll (closeOne (voltageAngle s1) len) (List.range 12) s1

/-! ### Snapshots (R156 to R159) -/

/-- Signature bytes of an algorithm choice: ECDSA 96, ML-DSA-87 4,627 (R157). -/
def sigBytes (alg : Nat) : Nat := (if alg = 1 ∨ alg = 3 then 96 else 0) + (if alg = 2 ∨ alg = 3 then 4627 else 0)

/-- Record bytes of a snapshot (R157). -/
def snapBytes (alg : Nat) : Nat := 944 + sigBytes alg

/-- A channel's part of a snapshot body (R157). -/
def snapChannel (m : MtrChan) : Bytes :=
  le 1 m.record.kind ++ le 1 m.record.quantum ++ le16 m.since.toNat ++ zeros 4
    ++ (if isThermal m.record then m.serial.getD (zeros 16) else zeros 16)
    ++ (List.range 6).flatMap (fun k => le64 (m.accs.counts.getD k 0).toNat)

/-- The 944-byte body of the next snapshot (R157). -/
def snapBody (s : State) (flags : Nat) : Bytes :=
  le32 s.mtr.snapNext ++ le16 (snapBytes s.mtr.signAlg) ++ le 1 s.mtr.signAlg ++ le 1 flags
    ++ tsBytes s.mtr.endLegal ++ le32 s.log.opsec ++ le32 s.log.cycles
    ++ (if s.mtr.snapNext = 0 then zeros 48 else s.mtr.snapHash)
    ++ (List.range 12).flatMap (fun n => snapChannel (mtrChan s n))

/-- The flags of a snapshot (R157): the causes, LEGAL_INVALID, GAP, UNSIGNED. -/
def snapFlags (s : State) (causes : Nat) (isSigned : Bool) : Nat :=
  causes + bit (!s.mtr.endLegal.valid) + 2 * bit s.mtr.gap + 32 * bit (!isSigned)

/-- SNAPSHOT (R156, R158): taken, chained, signed where the key is usable, kept in the ring of 8,192. -/
def takeSnapshot (usableKey : Bool) (sgn : Bytes → Bytes) (causes : Nat) (s : State) : State :=
  let body := snapBody s (snapFlags s causes usableKey)
  let sig := if usableKey then (sgn body).take (sigBytes s.mtr.signAlg) else zeros (sigBytes s.mtr.signAlg)
  let ring := s.mtr.ring ++ [{ number := s.mtr.snapNext, body := body, signatures := sig }]
  let s1 := { s with mtr := { s.mtr with
    ring := ring.drop (ring.length - 8192), snapNext := s.mtr.snapNext + 1, snapHash := sha384 body, gap := false
    channels := s.mtr.channels.map (fun e => (e.1, { e.2 with since := 0 })) } }
  raise 28 (if usableKey then s1 else mtrFlag 6 s1)

/-- The scheduling instants passed by a counter value (R156): in counter time from step 10, and in LEGAL time, in UTC. -/
def counterSched (s : State) (t : Nat) : Nat := (t - s.mtr.startedAt) / (60 * s.mtr.snapMin * tickS)
def legalSched (s : State) (t : Nat) : Nat := (utcSeconds s (legalAt s t)).toNat / (60 * s.mtr.snapMin)

/-- A scheduled snapshot is due at a boundary: an instant of LEGAL time has been passed since the boundary before it, if
only by LEGAL's one step; of counter time while LEGAL is not valid (R156, R344). -/
def schedDue (s : State) (t : Nat) : Bool :=
  if s.tim.legal.valid then decide (s.mtr.schedLegal < legalSched s t) else decide (s.mtr.lastSched < counterSched s t)

/-- The scheduling instants passed are noted. -/
def noteSched (t : Nat) (s : State) : State :=
  { s with mtr := { s.mtr with lastSched := counterSched s t, schedLegal := legalSched s t } }

/-- A record or a table accepted takes effect at the boundary; a change of KIND or QUANTUM zeroes the accumulators
(R128, R130, R142). -/
def applyPending (n : Nat) (s : State) : State :=
  modMtr n (fun m =>
    let m1 := { m with table := m.nextTable.orElse (fun _ => m.table), nextTable := none }
    match m1.next with
    | none => m1
    | some r =>
      if r.kind ≠ m1.record.kind ∨ r.quantum ≠ m1.record.quantum then
        { m1 with record := r, next := none, accs := {}, electric := {}, thermal := {}, opened := 0 }
      else { m1 with record := r, next := none }) s

/-- A pending record changes a channel's KIND or QUANTUM (R130). -/
def configDue (s : State) : Bool :=
  (List.range 12).any (fun n =>
    let m := mtrChan s n
    match m.next with
    | some r => decide (r.kind ≠ m.record.kind ∨ r.quantum ≠ m.record.quantum)
    | none => false)

/-- A global record accepted takes effect (R128, R129). -/
def applyGlobal (t : Nat) (s : State) : State := match s.mtr.nextGlobal with
  | none => s
  | some g => noteSched t { s with mtr := { s.mtr with
      snapMin := g.snapMin, signSlot := g.signSlot, signAlg := g.signAlg, nextGlobal := none } }

/-- What step 10 finds accepted is in force as metering starts: no period is open and nothing changes KIND (log entry
134). -/
def startRecords (s : State) : State :=
  applyGlobal (now s) (applyAll (fun n => modMtr n (fun m => { m with
    record := m.next.getD m.record, next := none
    table := m.nextTable.orElse (fun _ => m.table), nextTable := none })) (List.range 12) s)

/-- The period that ends at boundary `t` is closed (R131): every channel closes, a snapshot for the causes due, then what
was pending takes effect. -/
def periodClose (usableKey : Bool) (sgn : Bytes → Bytes) (t : Nat) (endServo endLegal : Ts) (s : State) : State :=
  let s1 := closeAll periodTicks endServo endLegal s
  let causes := s1.mtr.due.toNat + (if schedDue s1 t then 64 else 0) + (if configDue s1 then 8 else 0)
  let s2 := noteSched t { s1 with mtr := { s1.mtr with due := 0 } }
  let s3 := if causes = 0 then s2 else takeSnapshot usableKey sgn causes s2
  applyGlobal t (applyAll applyPending (List.range 12) s3)

/-! ### Ferroelectric copies (R147) -/

/-- What a bank holds of the metering state. -/
def bankOf (s : State) (seq : Nat) : MtrBank :=
  { seq := seq, crcOk := true, accs := (List.range 12).map (fun n => (mtrChan s n).accs),
    pulses := (List.range 16).map (fun p => tget s.mtr.pulses p {}), snapNext := s.mtr.snapNext,
    snapHash := s.mtr.snapHash }

/-- The sequence of a bank; 0 for one that holds nothing valid. -/
def bankSeq : Option MtrBank → Nat
  | some b => if b.crcOk then b.seq else 0
  | none => 0

/-- ACCUMULATOR_SECOND_WRITE: the older bank is written (R147). -/
def writeBank (s : State) : State :=
  let b := s.mtr.banks
  let seq := max (bankSeq b.1) (bankSeq b.2) + 1
  { s with mtr := { s.mtr with
    banks := if bankSeq b.1 ≤ bankSeq b.2 then (some (bankOf s seq), b.2) else (b.1, some (bankOf s seq)) } }

/-- The valid bank with the higher sequence (R147). -/
def newerBank (b : Option MtrBank × Option MtrBank) : Option MtrBank :=
  if bankSeq b.1 = 0 ∧ bankSeq b.2 = 0 then none else if bankSeq b.2 ≤ bankSeq b.1 then b.1 else b.2

/-- The metering state loaded from a bank at BOOT (R147). -/
def loadBank (b : MtrBank) (s : State) : State :=
  let s1 := applyAll (fun (e : Nat × Accs) t => modMtr e.1 (fun m => { m with accs := e.2 }) t) (numbered b.accs) s
  { s1 with mtr := { s1.mtr with
    snapNext := b.snapNext, snapHash := b.snapHash
    pulses := (numbered b.pulses).foldl (fun t e =>
      tmod t e.1 {} (fun p => { p with residue := e.2.residue, pending := e.2.pending, backlog := e.2.backlog }))
      s1.mtr.pulses } }

/-- One thing that has waited for the DSP, and all of them in their order (R79). -/
def doWork (close : Nat → Ts → Ts → State → State) (w : MtrWork) (s : State) : State := match w with
  | .sample x => meterSample x s
  | .tick n _ q => tickChannel n q s
  | .volume k f => countVolume k f s
  | .close t a b => close t a b s
  | .write => writeBank s

def integrateWith (close : Nat → Ts → Ts → State → State) (s : State) : State :=
  applyAll (doWork close) s.mtr.held { s with mtr := { s.mtr with held := [] } }

/-- ACCUMULATOR_SECOND_WRITE: at each second boundary once (R147). -/
def secondWrite (s : State) : State :=
  if secondTick s ≤ max s.mtr.writtenAt s.mtr.startedAt then s
  else feedMetering .write writeBank { s with mtr := { s.mtr with writtenAt := secondTick s } }

/-- HOLDUP_ACCUMULATOR_WRITE (R160): what waits is integrated, the open period is closed at this instant and everything
written; no snapshot. -/
def holdupMetering (s : State) : State :=
  if meteringOn s then
    let t := integrateWith (fun _ a b u => closeAll periodTicks a b u) s
    writeBank (closeAll (now s - max (boundary s) s.mtr.startedAt) (servo s) (legal s) t)
  else s

/-! ### Pulses (R149) -/

/-- A pulse output is in the 30 ms high part of a pulse. -/
def pulseHigh (s : State) (p : Nat) : Bool := decide (now s + 30 * tickMs < (tget s.mtr.pulses p {}).idleAt)

/-- PULSE_EMIT: an idle output with pulses pending drives one; a half without the token leaves its ball undriven. -/
def pulseEmit (p : Nat) (s : State) : State :=
  let x := tget s.mtr.pulses p {}
  if !pd s 3 || decide (x.pending = 0) || decide (now s < x.idleAt) then s
  else
    let t := { s with mtr := { s.mtr with
      pulses := tset s.mtr.pulses p { x with
        pending := x.pending - 1, backlog := false, idleAt := now s + 60 * tickMs } } }
    if remote s then t else emit (.pulse p) t

/-! ### Sensor identity (R150 to R155) -/

/-- Days from 1970-01-01 to a civil date, and the civil date of a day (proleptic Gregorian). -/
def daysFromCivil (y m d : Nat) : Nat :=
  let y' := if m ≤ 2 then y - 1 else y
  let era := y' / 400
  let yoe := y' % 400
  let doy := (153 * (if m ≤ 2 then m + 9 else m - 3) + 2) / 5 + d - 1
  era * 146097 + (yoe * 365 + yoe / 4 - yoe / 100 + doy) - 719468

def civilFromDays (z0 : Nat) : Nat × Nat × Nat :=
  let z := z0 + 719468
  let era := z / 146097
  let doe := z % 146097
  let yoe := (doe - doe / 1460 + doe / 36524 - doe / 146096) / 365
  let doy := doe - (365 * yoe + yoe / 4 - yoe / 100)
  let mp := (5 * doy + 2) / 153
  let m := if mp < 10 then mp + 3 else mp - 9
  (yoe + era * 400 + (if m ≤ 2 then 1 else 0), m, doy - (153 * mp + 2) / 5 + 1)

/-- Days in a month. -/
def monthDays (y m : Nat) : Nat :=
  if m = 2 then (if y % 4 = 0 ∧ (y % 100 ≠ 0 ∨ y % 400 = 0) then 29 else 28)
  else if m = 4 ∨ m = 6 ∨ m = 9 ∨ m = 11 then 30 else 31

/-- A date plus calendar months, clamped to the month end, in days from 1970-01-01 (R152). -/
def addMonths (day months : Nat) : Nat :=
  let c := civilFromDays day
  let t := c.2.1 - 1 + months
  let y := c.1 + t / 12
  let m := t % 12 + 1
  daysFromCivil y m (min c.2.2 (monthDays y m))

/-- The day of 2000-01-01, from which CAL_DAY counts (R151). -/
def day2000 : Nat := 10957

/-- The certified life has ended on today's LEGAL date (R152). -/
def lifeEnded (s : State) (calDay months : Nat) : Bool :=
  decide (addMonths (day2000 + calDay) months ≤ (utcSeconds s (legal s)).toNat / 86400)

/-- A chip's first 64 bytes are a valid record (R151). -/
def chipOk (b : Bytes) : Bool :=
  decide (64 ≤ b.length ∧ u16 b 0 = 1 ∧ 1 ≤ u8 b 2 ∧ u8 b 2 ≤ 3 ∧ 1 ≤ u16 b 24 ∧ u16 b 24 ≤ 240
    ∧ u32 b 60 = (crc32c (b.take 60)).toNat)

/-- The valid record of an answer, if it holds one. -/
def chipRecord (answer : Option Bytes) : Option Bytes := match answer with
  | some b => if chipOk b then some b else none
  | none => none

/-- The identity state of a channel from a read (R152). -/
def identityOf (m : MtrChan) (chip : Option Bytes) (expired : Bool) : Nat := match chip with
  | none => 2
  | some b => if m.serial = some (slice b 4 16) then (if expired then 4 else 1) else 3

/-- A channel takes an identity state; a change raises SENSOR, is recorded, asks for a snapshot, and goes to the partner
with the pair status (R153, R155). -/
def setIdentity (n st : Nat) (s : State) : State :=
  let m := mtrChan s n
  if m.identity = st then s
  else
    let s1 := modMtr n (fun x => { x with
      identity := st, resumes := decide (st = 1), since := bset x.since 3 }) s
    mirror untagged (.pairStatus { noUpdate with identity := [(n, st)] })
      (report 24 n st 0 (mtrFlag 1 { s1 with mtr := { s1.mtr with due := bset s1.mtr.due 4 } }))

/-- Only the token holder, or a device alone, drives its I2C balls (R155). -/
def readsChips (s : State) : Bool := s.board.alone || s.sys.token

/-- A chip's record is kept as the last valid read. -/
def keepRead (n : Nat) (chip : Option Bytes) (expired : Bool) (s : State) : State := match chip with
  | none => s
  | some b => modMtr n (fun x => { x with
      readType := u8 b 2, calDay := u32 b 20, lifeMonths := u16 b 24, expired := expired }) s

/-- A transfer succeeds: acknowledged, the clock stretched by no more than 1 ms, 64 bytes read (R150). -/
def tryOk (x : I2cTry) : Bool := x.acked && decide (x.stretchUs ≤ 1000 ∧ 64 ≤ x.data.length)

/-- An attempt that goes unanswered. -/
def unanswered : I2cTry := { acked := false, stretchUs := 0, data := [] }

/-- The three attempts of a read, one that is not given going unanswered (R150). -/
def attempts (l : List I2cTry) : List I2cTry := (l ++ List.replicate 3 unanswered).take 3

/-- What a read brings: the first transfer of the three that succeeds (R150). -/
def readAnswer (l : List I2cTry) : Option Bytes := ((attempts l).find? tryOk).map (·.data)

/-- The transfers of a read: on bus n modulo 4, to address 0x50 + n / 4, until one succeeds (R150). -/
def driveI2c (n : Nat) (l : List I2cTry) (s : State) : State :=
  let failed := ((attempts l).takeWhile (fun x => !tryOk x)).length
  applyAll (fun _ t => emit (.i2c (n % 4) (0x50 + n / 4)) t) (List.range (min 3 (failed + 1))) s

/-- Intervals of 86,400 s since step 10 (R152). -/
def readDay (s : State) : Nat := (now s - s.mtr.startedAt) / (86400 * tickS)

/-- The chip of a thermal channel is read and its identity state set (R150 to R153): expiry is judged only while LEGAL
time is valid. -/
def readChip (n : Nat) (l : List I2cTry) (s : State) : State :=
  let m := mtrChan s n
  if !meteringRuns s || !isThermal m.record || !readsChips s then s
  else
    let chip := chipRecord (readAnswer l)
    let expired := match chip with
      | some b => if s.tim.legal.valid then lifeEnded s (u32 b 20) (u16 b 24) else m.expired
      | none => m.expired
    setIdentity n (identityOf m chip expired)
      (keepRead n chip expired (modMtr n (fun x => { x with dayRead := readDay s }) (driveI2c n l s)))

/-- SENSOR_IDENTITY_READ: every 86,400 s of counter time after step 10 (R152). -/
def identityRead (n : Nat) (l : List I2cTry) (s : State) : State :=
  if (mtrChan s n).dayRead < readDay s then readChip n l s else s

/-- The chips that the board carries, all read (R152, R155). -/
def boardTry (s : State) (n : Nat) : List I2cTry := match tfind s.board.sensors n with
  | some b => [{ acked := true, stretchUs := 0, data := b }]
  | none => []
def readChips (s : State) : State := applyAll (fun n u => readChip n (boardTry u n) u) (List.range 12) s

/-- Expiry is judged again at the first period after LEGAL time becomes valid, of the chips read since BOOT; of one not
read it stays as last judged (R153). -/
def judgeExpiry (s : State) : State :=
  if s.mtr.expiryJudged || !s.tim.legal.valid then s
  else
    let s1 := { s with mtr := { s.mtr with expiryJudged := true } }
    applyAll (fun n t =>
      let m := mtrChan t n
      if isThermal m.record && decide ((m.identity = 1 ∨ m.identity = 4) ∧ m.lifeMonths ≠ 0) then
        let e := lifeEnded t m.calDay m.lifeMonths
        setIdentity n (if e then 4 else 1) (modMtr n (fun x => { x with expired := e }) t)
      else t) (List.range 12) s1

/-- The DSP is re-initialised after a fault, in the way of FUNC_REINIT (R79, R162): the flag, the event; the next snapshot
carries GAP and RESTART. -/
def dspFault (s : State) : State :=
  mtrFlag 5 { s with
    mtr := { s.mtr with failedAt := some (now s), gap := true, due := bset s.mtr.due 2 }
    sys := { s.sys with reinit := s.sys.reinit ++ [{ func := 3, unit := 0, ends := some (now s + 100 * tickMs) }] } }

/-- A second failure within 60 s (R162). -/
def dspFailsAgain (s : State) : Bool := match s.mtr.failedAt with
  | none => false
  | some c => decide (now s < c + 60 * tickS)

/-! ### The opcodes -/

/-- The accumulator record of MTR_READ (R164). -/
def mtrReadRecord (s : State) (n : Nat) : Bytes :=
  let m := mtrChan s n
  le 1 n ++ le 1 m.record.kind ++ le 1 m.record.quantum ++ le 1 (if isThermal m.record then m.identity else 0)
    ++ le32 m.closed.toNat ++ tsBytes s.mtr.endLegal ++ tsBytes s.mtr.endServo
    ++ (List.range 8).flatMap (fun k => le64 (m.accs.counts.getD k 0).toNat)
    ++ (List.range 10).flatMap (fun i => f32Bytes (m.values.getD i 0))

/-- MTR_READ (R164). -/
def mtrReadBody (c : Call) (s : State) : State × Reply :=
  let n := u8 c.payload 0
  if c.payload.length ≠ 1 then no stLength s
  else if c.cap < 144 then no stRspSpace s
  else if 11 < n then no stOutOfRange s
  else if (mtrChan s n).record.kind = 0 then no stNotFound s
  else yes (mtrReadRecord s n) s

/-- MTR_SNAP_READ (R159): the full response is that of `count` records, those held as long as they are, the others as the
SIGN_ALG in force makes them. -/
def mtrSnapReadBody (c : Call) (s : State) : State × Reply :=
  let first := u32 c.payload 0
  let n := u16 c.payload 4
  let held := s.mtr.ring.filter (fun x => decide (first ≤ x.number))
  let out := held.take n
  let data := le32 first ++ le16 out.length ++ [0, 0] ++ out.flatMap (fun x => x.body ++ x.signatures)
  let full := 8 + (out.map (fun x => x.body.length + x.signatures.length)).sum
    + (n - out.length) * snapBytes s.mtr.signAlg
  if c.payload.length ≠ 8 then no stLength s
  else if n = 0 ∨ c.limit < full then no stReadCount s
  else if c.cap < full then no stRspSpace s
  else if u16 c.payload 6 ≠ 0 then no stOutOfRange s
  else if !s.mtr.ring.any (fun x => decide (x.number = first)) then no stNotFound s
  else yes data s

/-- A metering channel record's fields (R128). -/
def mtrFields (b : Bytes) : MtrRecord :=
  { kind := u8 b 0, quantum := u8 b 1, flowSrc := u8 b 2, flowIdx := u8 b 3, group := u8 b 4, tcompSrc := u8 b 5
    cutoffMs := u16 b 6, pMax := w32 b 8, vPulse := w32 b 12, qMax := w32 b 16, qCut := w32 b 20, dtMin := w32 b 24 }

/-- A metering channel record in range (R128). -/
def mtrRecordOk (r : MtrRecord) : Bool :=
  let th := isThermal r
  let cf := th && decide (r.flowSrc = 0)
  decide (r.kind ≤ 3 ∧ r.quantum ≤ 6)
  && (if th then decide ((r.flowSrc = 0 ∧ r.flowIdx ≤ 31) ∨ (r.flowSrc = 1 ∧ 32 ≤ r.flowIdx ∧ r.flowIdx ≤ 79))
        && decide (r.group = 0xFF ∧ r.tcompSrc = 0xFF)
      else decide (r.flowSrc = 0xFF ∧ r.flowIdx = 0xFF))
  && (!isElectrical r || (decide (r.group ≤ 3 ∨ r.group = 0xFF)
      && decide (r.tcompSrc = 0xFF ∨ r.tcompSrc = 0xFE ∨ (32 ≤ r.tcompSrc ∧ r.tcompSrc ≤ 79))))
  && (if cf then decide (100 ≤ r.cutoffMs ∧ r.cutoffMs ≤ 60000) && in32 r.vPulse (1 / 1000000) 1
      else decide (r.cutoffMs = 0) && in32 r.vPulse 0 0)
  && in32 r.pMax 1 1000000000
  && (if th then in32 r.qMax 0 100 && in32 r.qCut 0 (num32 r.qMax) && in32 r.dtMin 0 3
      else in32 r.qMax 0 0 && in32 r.qCut 0 0 && in32 r.dtMin 0 0)

/-- The ten point identifiers of a metering channel (R163, R168). -/
def mtrPoints (n : Nat) : List Nat := (List.range 10).map (fun m => 0x0100 + 16 * n + m)

/-- A channel record is accepted: it takes effect at the next period boundary; its points come or go (R128, R168). -/
def setMtrRecord (n : Nat) (r : MtrRecord) (s : State) : State :=
  let s1 := modMtr n (fun m => { m with next := some r }) s
  if r.kind = 0 then applyAll dropOwn (mtrPoints n) s1
  else applyAll (fun i t => ownPoint i 1000 t) (mtrPoints n) s1

/-- MTR_CHAN_SET (R128, R129); `slotOk`: the usage policy of a key slot permits metering signatures. -/
def mtrChanSetBody (slotOk : Nat → Bool) (c : Call) (s : State) : State × Reply :=
  let n := u8 c.payload 0
  let b := c.payload.drop 4
  let r := mtrFields b
  if c.payload.length ≠ (if n = 255 then 20 else 36) then no stLength s
  else if (11 < n ∧ n ≠ 255) ∨ ¬allZero (slice c.payload 1 3) then no stOutOfRange s
  else if n = 255 then
    if u16 b 0 = 0 ∨ 1440 % u16 b 0 ≠ 0 ∨ u8 b 3 = 0 ∨ 3 < u8 b 3 ∨ ¬allZero (slice b 4 12) then no stOutOfRange s
    else if !slotOk (u8 b 2) then no stKeyPolicy s
    else yes [] { s with mtr := { s.mtr with
      nextGlobal := some { snapMin := u16 b 0, signSlot := u8 b 2, signAlg := u8 b 3 } } }
  else if !mtrRecordOk r || decide (u32 b 28 ≠ 0) then no stOutOfRange s
  else if decide (r.kind ≠ 0) && !roomFor s (mtrPoints n) then no stNoSpace s
  else yes [] (setMtrRecord n r s)

/-- The 32 points of a compensation table (R142). -/
def tablePoints (b : Bytes) : List (Word × Word) := (List.range 32).map (fun i => (w32 b (4 * i), w32 b (128 + 4 * i)))

/-- Temperatures increase strictly. -/
def increasing : List (Word × Word) → Bool
  | a :: b :: rest => decide (num32 a.1 < num32 b.1) && increasing (b :: rest)
  | _ => true

/-- A table in the range of a KIND (R142). -/
def tableOk (kind : Nat) (t : List (Word × Word)) : Bool :=
  t.all (fun e => in32 e.1 (-50) 200) && increasing t &&
  t.all (fun e => if kind = 1 then in32 e.2 (9 / 10) (11 / 10) else in32 e.2 3000000 4500000) && decide (kind ≠ 0)

/-- The KIND that a channel has or is about to have. -/
def comingKind (m : MtrChan) : Nat := match m.next with
  | some r => r.kind
  | none => m.record.kind

/-- MTR_TCOMP_SET (R142). -/
def mtrTcompSetBody (c : Call) (s : State) : State × Reply :=
  let n := u8 c.payload 0
  let t := tablePoints (c.payload.drop 4)
  if c.payload.length ≠ 260 then no stLength s
  else if 11 < n ∨ ¬allZero (slice c.payload 1 3) ∨ ¬tableOk (comingKind (mtrChan s n)) t then no stOutOfRange s
  else yes [] (modMtr n (fun m => { m with nextTable := some t }) s)

/-- MTR_SENSOR_ACCEPT (R154); `l`: the transfers of the read it makes at once. A read that is not accepted sets the identity state
too (R152; log entry 103). -/
def mtrSensorAcceptBody (l : List I2cTry) (c : Call) (s0 : State) : State × Reply :=
  let n := u8 c.payload 0
  let serial := slice c.payload 4 16
  let m := mtrChan s0 n
  let chip := chipRecord (readAnswer l)
  let s := driveI2c n l s0
  if c.payload.length ≠ 20 then no stLength s0
  else if 11 < n ∨ ¬allZero (slice c.payload 1 3) ∨ ¬isThermal m.record then no stOutOfRange s0
  else if !readsChips s0 then no stSensorIdentity s0
  else match chip with
    | none => (setIdentity n 2 s, .fail stSensorIdentity)
    | some b =>
      let expired := if s.tim.legal.valid then lifeEnded s (u32 b 20) (u16 b 24) else m.expired
      if slice b 4 16 ≠ serial ∨ expired then
        (setIdentity n (identityOf m chip expired) (keepRead n chip expired s), .fail stSensorIdentity)
      else
        let s1 := keepRead n (some b) expired (modMtr n (fun x => { x with serial := some serial }) s)
        let s2 := setIdentity n 1 s1
        yes [] (mtrFlag 7 { s2 with mtr := { s2.mtr with due := bset s2.mtr.due 4 } })

/-- A pulse source that does not read 0, by the KIND that its channel has or is about to have (R143, R148). -/
def mtrSourceOk (s : State) (src : Nat) : Bool :=
  let k := comingKind (mtrChan s (src / 8))
  decide (src = 0xFF ∨ (src ≤ 95 ∧ ((k = 1 ∧ src % 8 ≤ 4) ∨ ((k = 2 ∨ k = 3) ∧ src % 8 ≤ 5))))

/-- MTR_PULSE_SET (R148). -/
def mtrPulseSetBody (c : Call) (s : State) : State × Reply :=
  let p := u8 c.payload 0
  let src := u8 c.payload 1
  let t := u64 c.payload 4
  if c.payload.length ≠ 12 then no stLength s
  else if 15 < p ∨ u16 c.payload 2 ≠ 0 ∨ t = 0 ∨ 2 ^ 48 < t ∨ ¬mtrSourceOk s src then no stOutOfRange s
  else yes [] { s with mtr := { s.mtr with pulses := tset s.mtr.pulses p { source := src, threshold := t } } }

/-- A read of MTR_ACCn_kL latches the whole value (R145). -/
def accLatch (n k : Nat) (s : State) : State :=
  modMtr n (fun m => { m with
    latch := (List.range 8).map (fun i => if i = k then m.accs.counts.getD i 0 else m.latch.getD i 0) }) s

end Sys2Proof.Machine
end

