-- ==== Sys2Proof/Machine/Outputs.lean ====
section
/-! DEFINITION. What drives an output ball (R278), the output-hold latch (R300), the sluice (R301 to R306), and the
OUT_ and SLC_ commands. -/

namespace Sys2Proof.Machine

/-! ### Rows and balls -/

/-- The safe value of an output (R297). -/
def safeValue (s : State) (o : Nat) : Word := tget s.slc.safe o sHighZ

/-- TRIP_MASK of an output (R299). -/
def tripMask (s : State) (o : Nat) : Word := tget s.slc.masks o 0xFFFFFFFF

/-- Global force (R279). -/
def globalForce (s : State) : Bool := match s.sys.mode with
  | .provision | .commission | .safe | .service | .dump => true
  | _ => false

/-- This half drives its output balls: row 1 of R278 does not apply. -/
def driving (s : State) : Bool := s.sys.token && !s.out.undriven && decide (s.sys.mode ≠ .vault)

/-- The slot an output is bound to. -/
def boundSlot (s : State) (o : Nat) : Option Nat :=
  let b := tget s.out.binding o 0xFFFF
  if b < 1024 then some b else none

/-- A loop slot. -/
def slotState (s : State) (k : Nat) : Slot := tget s.lpe.slots k {}

/-- The row of R278 in force for an output; 0 for a PULSE output that metering drives. -/
def rowOf (s : State) (o : Nat) : Nat :=
  if !driving s then 1
  else if s.slc.latch &&& tripMask s o ≠ 0 then 2
  else if globalForce s then 3
  else if s.out.hold.isSome then 4
  else if 112 ≤ o then 0
  else if s.sys.mode = .manual then 5
  else match boundSlot s o with
    | none => 7
    | some k => if (slotState s k).enabled && (slotState s k).evaluated then 6 else 7

/-- An output is a GPIO configured as an input. -/
def gpioInput (s : State) (o : Nat) : Bool := decide (48 ≤ o ∧ o ≤ 111) && !s.out.gpioDir.getLsbD (o - 48)

/-- An output's ball is a GPIO's that is an input now: the output-hold latch keeps the directions that it found (R300). -/
def ballInput (s : State) (o : Nat) : Bool :=
  if s.out.hold.isSome then decide (48 ≤ o ∧ o ≤ 111) && !s.out.holdDir.getLsbD (o - 48) else gpioInput s o

/-- A slot's value as an output takes it (R295): clamped to 0 and 1, a GPIO high or low. -/
def outputScale (o : Nat) (x : Word) : Word :=
  let c := sclamp x s0 s1
  if 48 ≤ o ∧ o ≤ 111 then (if slt c sHalf then s0 else s1) else c

/-- The value applied by a row. -/
def rowValue (s : State) (o : Nat) : Nat → Word
  | 0 => if pulseHigh s (o - 112) then s1 else s0
  | 1 => sHighZ
  | 4 => tget (s.out.hold.getD []) o sHighZ
  | 5 => tget s.out.manual o sHighZ
  | 6 => match boundSlot s o with
    | some k => outputScale o (slotState s k).u
    | none => sHighZ
  | _ => safeValue s o

/-- The value to which an output ball is set, 2.0 at high impedance (R298). -/
def ballOf (s : State) (o : Nat) : Word := if ballInput s o then sHighZ else rowValue s o (rowOf s o)

/-- The values at all 128 outputs. -/
def balls (s : State) : Table Word := (List.range 128).map (fun o => (o, ballOf s o))

/-! ### Loops behind an output (R68, R286) -/

/-- A slot's primary output: the lowest-numbered device output bound to it (R286). -/
def primaryOutput (s : State) (k : Nat) : Option Nat :=
  (List.range 112).find? (fun o => decide (boundSlot s o = some k))

/-- The value in force at a slot's primary output, none at high impedance (R68). -/
def outputInForce (s : State) (k : Nat) : Option Word := match primaryOutput s k with
  | none => some (slotState s k).u
  | some o => if ballOf s o = sHighZ then none else some (ballOf s o)

/-- A slot goes on from a value: its output now, and what its next evaluation must equal (R68, R286). -/
def resumeFrom (v : Option Word) (x : Slot) : Slot := { x with resume := v, u := v.getD x.u }

/-- A slot's primary output was not the slot's under rows 2 to 5 of R278, and now is (R286). -/
def outputReturns (before after : State) (k : Nat) : Bool := match primaryOutput after k with
  | none => false
  | some o => decide (2 ≤ rowOf before o ∧ rowOf before o ≤ 5 ∧ rowOf after o = 6)

/-- Loops whose outputs return to them go on from the values that were in force (R286, R303). -/
def returnToLoops (before s : State) : State :=
  { s with lpe := { s.lpe with slots := s.lpe.slots.map (fun e =>
    if e.2.enabled && outputReturns before s e.1 then (e.1, resumeFrom (outputInForce before e.1) e.2) else e) } }

/-! ### The output-hold latch (R300) -/

/-- A bit of OUT_FLAGS is raised: CLAMP 69, HOLD_TIMEOUT 68 (R309). -/
def outFlag (b : Nat) (s : State) : State :=
  if s.out.flags.getLsbD b then s else raise (69 - b) { s with out := { s.out with flags := bset s.out.flags b } }

/-- The latch engages with the values applied; one already engaged stays as it is. -/
def engageHold (s : State) : State :=
  if s.out.hold.isSome then s
  else { s with out := { s.out with
    hold := some (balls s), holdDir := s.out.gpioDir, holdPwm := s.out.pwmPeriod, holdAt := now s, holdMs := 0 } }

/-- The latch is released. -/
def releaseHold (s : State) : State :=
  if s.out.hold.isNone then s
  else { s with out := { s.out with hold := none, holdMs := (now s - s.out.holdAt) / tickMs } }

/-- OUT_HOLD_MS: of the current or last engagement. -/
def holdMs (s : State) : Nat := if s.out.hold.isSome then (now s - s.out.holdAt) / tickMs else s.out.holdMs

/-- An output that its slot drives beyond 0.0 to 1.0 is clamped: CLAMP (R295). -/
def clampFlag (o : Nat) (s : State) : State := match boundSlot s o with
  | none => s
  | some k =>
    let u := (slotState s k).u
    if decide (rowOf s o = 6) && (slt u s0 || slt s1 u) then outFlag 0 s else s

/-! ### The sluice (R301 to R305) -/

/-- A trip's input is at its active level (R299, R301). -/
def tripLevelActive (s : State) (n : Nat) : Bool := s.board.tripLevel.getLsbD n == s.slc.polarity.getLsbD n

/-- A trip's input is active: enabled, and at its active level (R301, R303). -/
def tripActive (s : State) (n : Nat) : Bool := s.slc.enable.getLsbD n && tripLevelActive s n

/-- A latch of a trip that was PLANT-class as it latched is set (R299, R302). -/
def plantLatched (s : State) : Bool := decide (s.slc.latch &&& ~~~s.slc.latchedLocal ≠ 0)

/-- A bit of SLC_FLAGS is set and its event raised on every occurrence (R309): TRIP 72, RELEASE 73. -/
def slcFlag (b : Nat) (s : State) : State :=
  raise (72 + b) { s with slc := { s.slc with flags := bset s.slc.flags b } }

/-- An enabled trip latches (R301): its time, the first trip, the count, the flag, event 72, its record; armed traces
that hold their PRE samples meet the condition of any trip (R307). -/
def latchTrip (n : Nat) (s : State) : State :=
  if s.slc.latch.getLsbD n || !s.slc.enable.getLsbD n then s
  else
    let first := decide (s.slc.latch = 0)
    let t := { s with slc := { s.slc with
      latch := bset s.slc.latch n, latchedLocal := bput s.slc.latchedLocal n (s.slc.locals.getLsbD n), trips := s.slc.trips + 1, times := tset s.slc.times n (now s)
      firstValid := true, first := if first then n else s.slc.first } }
    let t1 := { t with lpe := { t.lpe with
      traces := t.lpe.traces.map (fun e => (e.1,
        if e.2.state = 1 ∧ e.2.pre ≤ e.2.samples.length then { e.2 with tripped := true } else e.2)) } }
    report 72 n 0 0 (slcFlag 0 t1)

/-- Trips whose inputs stand at their active level latch: at step 1 of R73, and when a trip field changes (R299). -/
def latchActive (s : State) : State :=
  applyAll (fun n t => if tripActive t n then latchTrip n t else t) (List.range 32) s

/-- The level of a trip input changes; from the instant it is not active its inactive time runs (R303). -/
def setTripLevel (n : Nat) (active : Bool) (s : State) : State :=
  let high := if s.slc.polarity.getLsbD n then active else !active
  let t := { s with board := { s.board with tripLevel := bput s.board.tripLevel n high } }
  if !active && tripActive s n then { t with slc := { t.slc with inactive := tset t.slc.inactive n (now t) } } else t

/-- An active pulse latches: always from 3 ns, never below 1 ns, otherwise either (R301). -/
def pulseLatches (s : State) (ns : Nat) : Bool := if 3 ≤ ns then true else if ns < 1 then false else (Config.freeByte s.free 0).getLsbD 0

/-- A trip may be released: its input not active, and inactive for RELEASE_MS (R303). -/
def mayRelease (s : State) (n : Nat) : Bool :=
  !tripActive s n && (match tfind s.slc.inactive n with
    | some c => passed s c (s.slc.releaseMs * tickMs)
    | none => true)

/-- The trips of a mask. -/
def trips (mask : Word) : List Nat := (List.range 32).filter (fun n => mask.getLsbD n)

/-- The latches of a mask clear, each with a record that names the credential (R303, R304). -/
def clearLatches (mask credential : Word) (s : State) : State :=
  applyAll (fun n t => report 73 n 0 credential.toNat { t with slc := { t.slc with latch := bclr t.slc.latch n } })
    (trips (mask &&& s.slc.latch)) s

/-- Byte 0 of the status port (R305). -/
def summaryByte (s : State) : Nat :=
  bit (decide (s.slc.latch ≠ 0)) + 2 * bit (plantLatched s)
    + 4 * bit ((List.range 32).any (tripActive s)) + 8 * bit (globalForce s) + 16 * bit s.out.hold.isSome
    + 32 * bit s.sys.token + 64 * bit (driving s) + 128 * bit s.lpe.alive

/-- Latched trips. -/
def latchedCount (s : State) : Nat := (trips s.slc.latch).length

/-- A byte of the status port (R305). -/
def portByte (s : State) (a : Nat) : Byte := BitVec.ofNat 8 (match a % 8 with
  | 0 => summaryByte s
  | 5 => if s.slc.firstValid then 128 + s.slc.first else 0
  | 6 => modeCode s.sys.mode + 128 * bit s.slc.leftBoot
  | 7 => latchedCount s
  | k => s.slc.latch.toNat / 2 ^ (8 * (k - 1)) % 256)

/-! ### Commands -/

/-- OUT_BIND (R296). -/
def outBindBody (c : Call) (s : State) : State × Reply :=
  let o := u16 c.payload 0
  let src := u16 c.payload 2
  if c.payload.length ≠ 4 then no stLength s
  else if 111 < o ∨ gpioInput s o = true ∨ (1023 < src ∧ src ≠ 0xFFFF) then no stOutOfRange s
  else yes [] (clampFlag o { s with out := { s.out with
    binding := if src = 0xFFFF then tdel s.out.binding o else tset s.out.binding o src } })

/-- A value in range as a safe value of an output, less 2.0 (R297). -/
def outputValueOk (o : Nat) (x : Word) : Bool :=
  if o < 16 then in32 x 0 1 else decide (val32 x = some 0 ∨ val32 x = some 1)

/-- SLC_SAFE_SET (R297). -/
def slcSafeSetBody (c : Call) (s : State) : State × Reply :=
  let o := u16 c.payload 0
  let x := w32 c.payload 4
  if c.payload.length ≠ 8 then no stLength s
  else if 127 < o ∨ u16 c.payload 2 ≠ 0 ∨ ¬(x = sHighZ ∨ outputValueOk o x = true) then no stOutOfRange s
  else yes [] { s with slc := { s.slc with safe := tset s.slc.safe o x } }

/-- SLC_STATUS (R305). -/
def slcStatusBody (c : Call) (s : State) : State × Reply :=
  if c.payload.length ≠ 0 then no stLength s
  else if c.cap < 12 then no stRspSpace s
  else yes (le32 ((List.range 32).foldl (fun m n => if tripLevelActive s n then m + 2 ^ n else m) 0)
    ++ le32 s.slc.latch.toNat ++ le 1 (summaryByte s) ++ zeros 3) s

/-- SLC_RELEASE (R303): a loop behind a released output returns bumplessly; the holder of a pair reports the release
(R304). -/
def slcReleaseBody (c : Call) (s : State) : State × Reply :=
  let mask := w32 c.payload 0
  if c.payload.length ≠ 4 then no stLength s
  else if !(trips mask).all (mayRelease s) then no stTripActive s
  else
    let t := returnToLoops s (clearLatches mask c.credential s)
    let u := if mask &&& s.slc.latch = 0 then t else slcFlag 1 t
    yes (le32 u.slc.latch.toNat)
      (mirror untagged (.pairStatus { noUpdate with release := some { mask := mask, credential := c.credential } }) u)

/-- The session in control of MANUAL's outputs, when another than this one (R41, R67). -/
def manualElsewhere (s : State) (sid : Word) : Option Word := match s.sys.manual with
  | some h => if h = sid then none else some h
  | none => none

/-- OUT_SET (R298); control without a holder passes to this session (R67). -/
def outSetBody (c : Call) (s : State) : State × Reply :=
  let o := u16 c.payload 0
  let x := w32 c.payload 4
  if c.payload.length ≠ 8 then no stLength s
  else match manualElsewhere s c.sid with
    | some h => (s, .busy (holderBytes s h))
    | none =>
      if 111 < o ∨ u16 c.payload 2 ≠ 0 ∨ outputValueOk o x = false then no stOutOfRange s
      else yes [] { s with
        out := { s.out with manual := tset s.out.manual o x }, sys := { s.sys with manual := some c.sid } }

/-- OUT_READ (R298). -/
def outReadBody (c : Call) (s : State) : State × Reply :=
  let first := u16 c.payload 0
  let n := u16 c.payload 2
  if c.payload.length ≠ 4 then no stLength s
  else if n = 0 ∨ 128 < n ∨ 128 < first + n then no stCount s
  else if c.cap < 4 * n then no stRspSpace s
  else yes ((List.range n).flatMap (fun i => f32Bytes (ballOf s (first + i)))) s

end Sys2Proof.Machine
end

