-- ==== Sys2Proof/Machine/Loops.lean ====
section
/-! DEFINITION. The loop engine (R280 to R294), traces (R307, R308) and the loop commands. -/

namespace Sys2Proof.Machine

/-! ### The slot record (R280) -/

def lrLaw (r : Bytes) : Nat := u8 r 0
def lrReverse (r : Bytes) : Bool := decide (u8 r 1 = 1)
def lrSpSrc (r : Bytes) : Nat := u8 r 2
def lrFbSrc (r : Bytes) : Nat := u8 r 3
def lrSpRef (r : Bytes) : Nat := u32 r 4
def lrFbRef (r : Bytes) : Nat := u32 r 8
def lrBkRef (r : Bytes) : Nat := u32 r 12
def lrBkSrc (r : Bytes) : Nat := u8 r 16
def lrLostPol (r : Bytes) : Nat := u8 r 17
def lrFrozenPol (r : Bytes) : Nat := u8 r 18
def lrFeAction (r : Bytes) : Nat := u8 r 19
def lrPeriod (r : Bytes) : Nat := u32 r 20
def lrPhase (r : Bytes) : Nat := u32 r 24
def lrFreezeN (r : Bytes) : Nat := u16 r 28
def lrRecoverN (r : Bytes) : Nat := u16 r 30
def lrSpConst (r : Bytes) : Word := w32 r 32
def lrTi (r : Bytes) : Word := w32 r 36
def lrTd (r : Bytes) : Word := w32 r 40
def lrDfilt (r : Bytes) : Word := w32 r 44
def lrOutMin (r : Bytes) : Word := w32 r 48
def lrOutMax (r : Bytes) : Word := w32 r 52
def lrRateMax (r : Bytes) : Word := w32 r 56
def lrSpRamp (r : Bytes) : Word := w32 r 60
def lrFeLimit (r : Bytes) : Word := w32 r 64
def lrFeTimeMs (r : Bytes) : Nat := u32 r 68
def lrRampSafe (r : Bytes) : Word := w32 r 72
def lrFfGain (r : Bytes) : Word := w32 r 76
def lrFfQ (r : Bytes) : Nat := u32 r 80
def lrFbAgeUs (r : Bytes) : Nat := u32 r 84
def lrHyst (r : Bytes) : Word := w32 r 88

/-- ts of a record: PERIOD x 100 us (R281). -/
def lrTs (r : Bytes) : Word := fp32 ((lrPeriod r : Rat) / 10000)

/-- STALE_MS of a slot's own points (R168). -/
def slotStale (r : Bytes) : Nat := lrPeriod r / 5 + 1000

/-- A front-end channel that may be a source (R280). -/
def sourceChannel (n : Nat) : Bool := isModulator n || isProcess n

/-- A feedback source and its reference. -/
def sourceOk (k src ref : Nat) : Bool :=
  decide (src = 0) && sourceChannel ref || decide (src = 1 ∧ ref < 2 ^ 28) || decide (src = 2 ∧ k < 16 ∧ ref = 0)

/-- A slot record in range (R280). -/
def slotRecordOk (k : Nat) (r : Bytes) : Bool :=
  decide (lrLaw r ≤ 2 ∧ u8 r 1 ≤ 1 ∧ lrSpSrc r ≤ 3) && sourceOk k (lrFbSrc r) (lrFbRef r)
    && (match lrSpSrc r with
      | 0 => decide (lrSpRef r = 0)
      | 1 => decide (lrSpRef r ≤ 65535)
      | 2 => decide (lrSpRef r ≤ 1023 ∧ lrSpRef r ≠ k)
      | _ => decide (lrSpRef r < 2 ^ 28))
    && (if lrBkSrc r = 0xFF then decide (lrBkRef r = 0)
        else decide (lrBkSrc r ≤ 1) && sourceOk k (lrBkSrc r) (lrBkRef r))
    && decide (lrLostPol r ≤ 2 ∧ lrFrozenPol r ≤ 2 ∧ lrFeAction r ≤ 2)
    && decide (1 ≤ lrPeriod r ∧ lrPeriod r ≤ 600000 ∧ lrPhase r < lrPeriod r)
    && decide ((lrFreezeN r = 0 ∨ 2 ≤ lrFreezeN r) ∧ 1 ≤ lrRecoverN r ∧ lrRecoverN r ≤ 1000)
    && sfinite (lrSpConst r)
    && (decide (val32 (lrTi r) = some 0) || in32 (lrTi r) (r32 (ten (-4))) 100000)
    && in32 (lrTd r) 0 10000 && in32 (lrDfilt r) 2 100
    && sfinite (lrOutMin r) && sfinite (lrOutMax r) && slt (lrOutMin r) (lrOutMax r)
    && sfinite (lrRateMax r) && !slt (lrRateMax r) s0 && sfinite (lrSpRamp r) && !slt (lrSpRamp r) s0
    && sfinite (lrFeLimit r) && !slt (lrFeLimit r) s0 && decide (lrFeTimeMs r ≤ 3600000)
    && sfinite (lrRampSafe r) && slt s0 (lrRampSafe r) && sfinite (lrFfGain r)
    && decide (lrFfQ r ≤ 65535 ∨ lrFfQ r = 0xFFFFFFFF)
    && decide (lrFbAgeUs r = 0 ∨ (100 ≤ lrFbAgeUs r ∧ lrFbAgeUs r ≤ 60000000))
    && sfinite (lrHyst r) && !slt (lrHyst r) s0 && decide (u32 r 92 = 0)

/-! ### Slots -/

def modSlot (k : Nat) (f : Slot → Slot) (s : State) : State :=
  { s with lpe := { s.lpe with slots := tmod s.lpe.slots k {} f } }

/-- The slot holds a record. -/
def hasRecord (x : Slot) : Bool := !x.record.isEmpty || x.next.isSome

/-- The record that the next sample instant uses. -/
def comingRecord (x : Slot) : Bytes := x.next.getD x.record

/-- Bits of the slot state word (R310). -/
def sbApplied : Nat := 1
def sbTracking : Nat := 2
def sbLost : Nat := 3
def sbFrozen : Nat := 4
def sbBackup : Nat := 5
def sbFeTiming : Nat := 6
def sbFe : Nat := 7
def sbSatHigh : Nat := 8
def sbSatLow : Nat := 9
def sbIntStop : Nat := 10
def sbRampSafe : Nat := 11
def sbHold : Nat := 12
def sbForced : Nat := 13
def sbSpHeld : Nat := 14
def sbExpress : Nat := 15

/-- A bit of LPE_FLAGS is raised: LOST 64, FROZEN 65, FOLLOW 66 (R290, R291). -/
def lpeFlag (b : Nat) (s : State) : State :=
  if s.lpe.flags.getLsbD b then s else raise (64 + b) { s with lpe := { s.lpe with flags := bset s.lpe.flags b } }

/-- The loop engine evaluates: PD4 powered, running, a mode whose loops run (R57), no handover under way. -/
def loopsRun (s : State) : Bool :=
  pd s 4 && s.lpe.running && !s.brd.givingUp &&
  match s.sys.mode with
  | .shadow | .steer | .hold | .island | .manual => true
  | _ => false

/-- The latest sample instant of a record at or before a counter value (R283). -/
def sampleInstantOf (r : Bytes) (c : Nat) : Nat :=
  let p := lrPeriod r * 25000
  let off := lrPhase r * 25000
  if c < off then 0 else off + (c - off) / p * p

/-- The value a slot takes over with: the value in force, and the safe value at the end of a BOOT whose outputs were at
high impedance (R68; log entry 89). -/
def takeoverValue (s : State) (k : Nat) : Option Word := match outputInForce s k with
  | some v => some v
  | none =>
    if s.sys.mode ≠ .boot then none
    else match primaryOutput s k with
      | none => none
      | some o => if safeValue s o = sHighZ then none else some (safeValue s o)

/-! ### Sources (R281, R287, R288) -/

/-- What a source gives: the value, the raw value, the stamp, and whether it is lost. -/
structure Source where
  y : Word
  raw : Int
  stamp : Option Nat
  lost : Bool
deriving DecidableEq

/-- A sample of a front-end channel as feedback (R287). -/
def sampleSource (limit t : Nat) (x : Sample) : Source :=
  { y := x.eng, raw := x.raw, stamp := some x.tick
    lost := x.flags.getLsbD 0 || x.flags.getLsbD 3 || x.flags.getLsbD 4 || x.flags.getLsbD 5
      || decide (x.tick + limit < t) || !sfinite x.eng }

/-- The age limit of a record in ticks (R280). -/
def ageLimit (r : Bytes) : Nat := if lrFbAgeUs r = 0 then 2 * lrPeriod r * 25000 else lrFbAgeUs r * tickUs

/-- A source that is absent. -/
def noSource : Source := { y := 0, raw := 0, stamp := none, lost := true }

/-- A front-end channel or a point read as feedback at an instant. -/
def readSource (s : State) (r : Bytes) (src ref t : Nat) : Source :=
  if src = 0 then
    if !(chanRecord s ref).enable then noSource
    else match tfind s.adc.samples ref with
      | some x => sampleSource (ageLimit r) t x
      | none => noSource
  else match findPoint s ref with
    | none => noSource
    | some p =>
      { y := narrow p.value, raw := p.value.toNat, stamp := some p.updates.toNat
        lost := !usable (effQuality (servoNs s) (some p)) || !finite64 p.value }

/-- The run of identical samples after a source is read (R288). -/
def freezeNext (x : Source) (f : Freeze) : Freeze :=
  if x.lost then { stamp := x.stamp, raw := x.raw, run := 0 }
  else if x.stamp = f.stamp ∧ f.run ≠ 0 then f
  else { stamp := x.stamp, raw := x.raw, run := if x.raw = f.raw ∧ f.run ≠ 0 then f.run + 1 else 1 }

/-- Frozen (R288). -/
def isFrozen (r : Bytes) (f : Freeze) : Bool := decide (lrFreezeN r ≠ 0 ∧ lrFreezeN r ≤ f.run)

/-- The setpoint source's value, none when it gives no usable one (R281); a ledger read is a read of R270. -/
def setpointSource (ns : Nat) (r : Bytes) (s : State) : State × Option Word := match lrSpSrc r with
  | 0 => (s, some (lrSpConst r))
  | 1 => readLedger ns (lrSpRef r) s
  | 2 =>
    let x := slotState s (lrSpRef r)
    (s, if x.evaluated then some x.u else none)
  | _ =>
    let v := readPoint s (lrSpRef r)
    (s, if usable v.2 && finite64 v.1 then some (narrow v.1) else none)

/-- The setpoint used: toward the source's value by at most SP_RAMP x ts (R281). -/
def rampSetpoint (r : Bytes) (last : Option Word) (v : Word) : Word := match last with
  | none => v
  | some p =>
    if val32 (lrSpRamp r) = some 0 then v
    else
      let d := smul (lrSpRamp r) (lrTs r)
      sclamp v (ssub p d) (sadd p d)

/-- sp, ff and whether the setpoint is held, at an instant (R281, R285). -/
def formSetpoint (k : Nat) (ns : Nat) (s : State) : State × Word × Word × Bool :=
  let x := slotState s k
  let a := setpointSource ns x.record s
  let sp := match a.2 with
    | some v => rampSetpoint x.record x.sp v
    | none => x.sp.getD s0
  let b := if lrFfQ x.record = 0xFFFFFFFF then (a.1, none) else readLedger ns (lrFfQ x.record) a.1
  let q := match b.2 with
    | some v => some v
    | none => if lrFfQ x.record = 0xFFFFFFFF then none else x.ff
  (modSlot k (fun y => { y with sp := some sp, ff := q }) b.1, sp,
    (match q with
      | some v => smul (lrFfGain x.record) v
      | none => s0), a.2.isNone)

/-! ### The law (R284, R285) -/

/-- The entries of the gain table in use (R284). -/
def tableInUse : List (Word × Word) → List (Word × Word)
  | [] => []
  | [e] => [e]
  | e :: f :: rest => if slt e.1 f.1 then e :: tableInUse (f :: rest) else [e]

/-- The gain at |e|, interpolated linearly (R284). -/
def gainOfTable (x : Word) : List (Word × Word) → Word
  | [] => s0
  | [e] => e.2
  | e :: f :: rest =>
    if slt x f.1 then sadd e.2 (smul (sdiv (ssub x e.1) (ssub f.1 e.1)) (ssub f.2 e.2)) else gainOfTable x (f :: rest)

/-- The error of a slot (R280, DIR). -/
def errorOf (r : Bytes) (sp y : Word) : Word := if lrReverse r then ssub y sp else ssub sp y

/-- e, p, dd, di and u0 of the law (R285). -/
structure Law where
  e : Word
  p : Word
  dd : Word
  di : Word
  u0 : Word
deriving DecidableEq

/-- The law at an evaluation: setpoint, feed-forward, feedback; y_prev and dd_prev as the slot holds them. -/
def lawOf (x : Slot) (sp ff y : Word) : Law :=
  let r := x.record
  let ts := lrTs r
  let e := errorOf r sp y
  match lrLaw r with
  | 0 =>
    let k := gainOfTable (sabs e) (tableInUse x.table)
    let p := smul k e
    let den := sadd (lrTd r) (smul (lrDfilt r) ts)
    let a := sdiv (lrTd r) den
    let yPrev := if x.fresh then y else x.yPrev
    let ddPrev := if x.fresh then s0 else x.ddPrev
    let dd := ssub (smul a ddPrev) (smul (sdiv (smul (smul k (lrTd r)) (lrDfilt r)) den) (ssub y yPrev))
    let di := if slt s0 (lrTi r) then sdiv (smul (smul k e) ts) (lrTi r) else s0
    { e := e, p := p, dd := dd, di := di, u0 := sadd (sadd (sadd ff p) (sadd x.i di)) dd }
  | 1 => { e := e, p := s0, dd := s0, di := s0, u0 := sadd sp ff }
  | _ =>
    { e := e, p := s0, dd := s0, di := s0
      u0 := if slt (lrHyst r) e then s1 else if slt e (sneg (lrHyst r)) then s0 else x.u }

/-- u: the law's output within OUT_MIN and OUT_MAX and the rate limit (R285). -/
def limited (r : Bytes) (uPrev u0 : Word) : Word :=
  let u := sclamp u0 (lrOutMin r) (lrOutMax r)
  if slt s0 (lrRateMax r) then
    let d := smul (lrRateMax r) (lrTs r)
    sclamp u (ssub uPrev d) (sadd uPrev d)
  else u

/-- The integrator that makes the output equal a value: u - ff - p - dd (R286). -/
def trackTo (r : Bytes) (u ff : Word) (l : Law) : Word :=
  if lrLaw r = 0 then ssub (ssub (ssub u ff) l.p) l.dd else s0

/-- The slot after its law has run: a value it must equal first (R68, R289, R293), or the limits and the conditional
integration. The bits are those of R310 that the law sets. -/
def runLaw (x : Slot) (sp ff y : Word) (keep : Option Word) : Slot × Half :=
  let r := x.record
  let l := lawOf x sp ff y
  let base := { x with fresh := false, yPrev := y, ddPrev := l.dd, error := l.e, feedback := y }
  match keep with
  | some u => ({ base with u := u, i := trackTo r u ff l }, 0)
  | none =>
    let u := limited r x.u l.u0
    let stop := (slt u l.u0 && slt s0 l.di) || (slt l.u0 u && slt l.di s0)
    let i := if lrLaw r = 0 then (if stop then x.i else sadd x.i l.di) else s0
    ({ base with u := u, i := i },
      (if slt u l.u0 then bset 0 sbSatHigh else 0) ||| (if slt l.u0 u then bset 0 sbSatLow else 0)
        ||| (if stop then bset 0 sbIntStop else 0))

/-! ### Lost and frozen feedback (R289, R290) -/

/-- The safe target of RAMP_SAFE (R289). -/
def safeTarget (s : State) (k : Nat) : Word := match primaryOutput s k with
  | none => lrOutMin (slotState s k).record
  | some o => if safeValue s o = sHighZ then lrOutMin (slotState s k).record else safeValue s o

/-- One step of RAMP_SAFE. -/
def rampStep (r : Bytes) (target u : Word) : Word :=
  let d := smul (lrRampSafe r) (lrTs r)
  sclamp target (ssub u d) (sadd u d)

/-- A change of a slot's LOST (64) or FROZEN (65) bit: the flag on setting, the record (R290, R426). -/
def markBit (k code : Nat) (old new : Bool) (s : State) : State :=
  if old = new then s else report code k (bit new) 0 (if new then lpeFlag (code - 64) s else s)

/-- The acting policy after a read of the primary source: lost first, then frozen, then recovery (R289). -/
def actingAfter (x : Slot) (lost frozen : Bool) : Slot × Bool :=
  if lost then ({ x with acting := some true, good := 0
                         onBackup := x.onBackup && decide (x.acting = some true)
                         backupGone := x.backupGone && decide (x.acting = some true) }, false)
  else if frozen then ({ x with acting := some false, good := 0
                                onBackup := x.onBackup && decide (x.acting = some false)
                                backupGone := x.backupGone && decide (x.acting = some false) }, false)
  else match x.acting with
    | none => (x, false)
    | some _ =>
      if lrRecoverN x.record ≤ x.good + 1 then
        ({ x with acting := none, good := 0, onBackup := false, backupGone := false }, true)
      else ({ x with good := x.good + 1 }, false)

/-- The policy of the condition that acts: 0 HOLD, 1 RAMP_SAFE, 2 BACKUP (R280). -/
def policyOf (x : Slot) : Option Nat := x.acting.map (fun l => if l then lrLostPol x.record else lrFrozenPol x.record)

/-- What an evaluation does: run the law on a feedback, hold, or ramp. -/
inductive Doing where
  | law (y : Word) (keep : Option Word)
  | hold
  | ramp
deriving DecidableEq

/-- The choice of R289 and R292. A latched following error comes first; a slot on BACKUP that loses its backup stays at
HOLD (log entry 40). -/
def choose (s : State) (x : Slot) (primary : Source) (recovered : Bool) (t : Nat) : Slot × Doing :=
  let r := x.record
  if x.fe ∧ lrFeAction r = 1 then (x, .hold)
  else if x.fe ∧ lrFeAction r = 2 then (x, .ramp)
  else match policyOf x with
    | none => (x, .law primary.y (match x.resume with
        | some u => some u
        | none => if recovered then some x.u else none))
    | some 1 => (x, .ramp)
    | some 2 =>
      if lrBkSrc r = 0xFF ∨ x.backupGone then ({ x with backupGone := true, onBackup := false }, .hold)
      else
        let b := readSource s r (lrBkSrc r) (lrBkRef r) t
        let f := freezeNext b x.backup
        if b.lost || isFrozen r f then ({ x with backup := f, backupGone := true, onBackup := false }, .hold)
        else if x.onBackup then ({ x with backup := f }, .law b.y x.resume)
        else ({ x with backup := f, onBackup := true }, .law b.y (some (x.resume.getD x.u)))
    | some _ => (x, .hold)

/-- The slot after it has done so, with the bits of R310. -/
def perform (x : Slot) (sp ff target : Word) : Doing → Slot × Half
  | .law y keep => runLaw { x with resume := none } sp ff y keep
  | .hold => ({ x with u := x.resume.getD x.u, resume := none }, bset 0 sbHold)
  | .ramp =>
    ({ x with u := rampStep x.record target (x.resume.getD x.u), resume := none }, bset 0 sbRampSafe)

/-! ### Following error (R291, R292) -/

/-- Evaluations that the timer runs (R291). -/
def feCount (r : Bytes) : Nat := max 1 ((lrFeTimeMs r * 10 + lrPeriod r - 1) / lrPeriod r)

/-- The following error after an evaluation: the slot, and whether it is declared now. -/
def followNext (x : Slot) (applied healthy : Bool) (e : Word) : Slot × Bool :=
  let r := x.record
  let above := slt (lrFeLimit r) (sabs e)
  if applied && healthy && slt s0 (lrFeLimit r) && above then
    let n := x.feTimer + 1
    if !x.fe && decide (feCount r ≤ n) then ({ x with feTimer := n, fe := true }, true)
    else ({ x with feTimer := n }, false)
  else ({ x with feTimer := 0, fe := x.fe && !(decide (lrFeAction r = 0) && !above) }, false)

/-! ### Traces (R307) -/

/-- The signal of a slot. -/
def traceSignal (x : Slot) : Nat → Word
  | 0 => x.sp.getD s0
  | 1 => x.feedback
  | 2 => x.u
  | 3 => x.i
  | _ => x.error

/-- The condition is met by a sample. -/
def traceMet (t : Trace) (v : Word) (bits : Half) : Bool :=
  let rising := match t.last with
    | some l => slt l t.level && !slt v t.level
    | none => false
  let falling := match t.last with
    | some l => slt t.level l && !slt t.level v
    | none => false
  match t.cond with
  | 0 => true
  | 1 => rising
  | 2 => falling
  | 3 => rising || falling
  | 4 => [sbLost, sbFrozen, sbFe].any (fun b => bits.getLsbD b && !t.lastBits.getLsbD b)
  | _ => t.tripped

/-- A trace takes a sample at a counter value; whether it completes now. -/
def traceStep (x : Slot) (c : Nat) (t : Trace) : Trace × Bool :=
  if t.skip ≠ 0 then ({ t with skip := t.skip - 1 }, false)
  else
    let v := traceSignal x t.signal
    let base := { t with skip := t.dec, last := some v, lastBits := x.bits }
    if t.state = 1 then
      if t.pre ≤ t.samples.length ∧ traceMet t v x.bits then
        let kept := t.samples.drop (t.samples.length - t.pre) ++ [v]
        if kept.length = 65536 then ({ base with samples := kept, state := 3, counter := c }, true)
        else ({ base with samples := kept, state := 2, counter := c }, false)
      else
        let l := t.samples ++ [v]
        ({ base with samples := l.drop (l.length - 65536) }, false)
    else if t.state = 2 then
      let l := t.samples ++ [v]
      if l.length = 65536 then ({ base with samples := l, state := 3 }, true) else ({ base with samples := l }, false)
    else (t, false)

/-- The traces of a slot take their sample; a completion raises EV_TRACE_DONE (R307). -/
def traceSlot (k c : Nat) (s : State) : State :=
  applyAll (fun b u => match tfind u.lpe.traces b with
    | none => u
    | some t =>
      if t.slot ≠ k then u
      else
        let z := traceStep (slotState u k) c t
        let w := { u with lpe := { u.lpe with traces := tset u.lpe.traces b z.1 } }
        if z.2 then raise 67 w else w) (List.range 8) s

/-! ### An evaluation -/

/-- The slot's four points, at most every 10 ms (R168). -/
def publishSlot (k : Nat) (t : Ts) (s : State) : State :=
  let x := slotState s k
  let due := match x.published with
    | some c => passed s c (10 * tickMs)
    | none => true
  if !due then s
  else
    let vs := [x.sp.getD s0, x.feedback, x.u, x.i]
    modSlot k (fun y => { y with published := some (now s) })
      ((numbered vs).foldl (fun u e => publishOwn (0x1000 + 4 * k + e.1) (widen e.2) 0 t u) s)

/-- One more evaluation, in the second that runs (R311). -/
def countEval (s : State) : State :=
  let l := s.lpe
  let lat := max l.latMax ((Config.freeWord s.free).toNat % 82201)
  tickFree { s with lpe := { l with
    evals := l.evals + 1, latMax := lat, rateNow := l.rateNow + 1 } } 1

/-- The outputs that a slot drives beyond 0.0 to 1.0 are clamped (R295). -/
def clampFlags (k : Nat) (s : State) : State :=
  applyAll (fun o t => if boundSlot t o = some k then clampFlag o t else t) (List.range 112) s

/-- The last part of an evaluation: tracking, following error, state word, points, traces (R286, R291). -/
def settleSlot (k : Nat) (sp ff : Word) (held isExpress healthy : Bool) (bits : Half) (s : State) : State :=
  let x := slotState s k
  let row := (primaryOutput s k).map (rowOf s)
  let applied := match row with
    | none => true
    | some n => decide (n = 6)
  let tracked := match row with
    | some n => if 2 ≤ n ∧ n ≤ 5 then outputInForce s k else none
    | none => none
  let x1 := match tracked with
    | none => x
    | some u => { x with u := u, i := trackTo x.record u ff (lawOf { x with fresh := false } sp ff x.feedback |> fun l =>
        { l with dd := x.ddPrev }) }
  let f := followNext x1 applied healthy x.error
  let w := bits ||| bset 0 0 ||| (if applied then bset 0 sbApplied else 0)
    ||| (if tracked.isSome then bset 0 sbTracking else 0)
    ||| (if x.acting = some true then bset 0 sbLost else 0) ||| (if x.acting = some false then bset 0 sbFrozen else 0)
    ||| (if x.onBackup then bset 0 sbBackup else 0)
    ||| (if f.1.feTimer ≠ 0 ∧ f.1.fe = false then bset 0 sbFeTiming else 0) ||| (if f.1.fe then bset 0 sbFe else 0)
    ||| (if row = some 2 ∨ row = some 3 then bset 0 sbForced else 0) ||| (if held then bset 0 sbSpHeld else 0)
    ||| (if isExpress then bset 0 sbExpress else 0)
  let s1 := modSlot k (fun _ => { f.1 with bits := w }) s
  if f.2 then report 66 k 1 0 (lpeFlag 2 s1) else s1

/-- An evaluation with its primary source read, at an instant (R285 to R293). -/
def evaluateWith (k t : Nat) (src : Source) (sp ff : Word) (held isExpress : Bool) (s : State) : State :=
  let x := slotState s k
  let f := freezeNext src x.primary
  let frozen := isFrozen x.record f && !src.lost
  -- the feedback of a slot that holds or ramps is still read (R289, R291)
  let seen := if src.lost then x else { x with feedback := src.y, error := errorOf x.record sp src.y }
  let a := actingAfter { seen with primary := f, evaluated := true } src.lost frozen
  let s1 := markBit k 65 (decide (x.acting = some false)) (decide (a.1.acting = some false))
    (markBit k 64 (decide (x.acting = some true)) (decide (a.1.acting = some true)) s)
  -- an express slot whose feedback is found lost or frozen keeps its output at that evaluation, and its policy acts from
  -- the next one (R294)
  let c := if isExpress && decide (x.acting ≠ a.1.acting) && a.1.acting.isSome then (a.1, Doing.hold)
    else choose s1 a.1 src a.2 t
  let p := perform c.1 sp ff (safeTarget s1 k) c.2
  let s2 := modSlot k (fun _ => p.1) s1
  let s3 := settleSlot k sp ff held isExpress (!src.lost && !frozen && a.1.acting.isNone) p.2 s2
  traceSlot k t (publishSlot k (servoAt s t) (countEval (clampFlags k s3)))

/-- The slot with its accepted record taken up (R280). -/
def takeRecord (k : Nat) (s : State) : State := match (slotState s k).next with
  | none => s
  | some r =>
    let t := modSlot k (fun x => { x with record := r, next := none }) s
    (List.range 4).foldl (fun u j => ownPoint (0x1000 + 4 * k + j) (slotStale r) u) t

/-- A slot is due: enabled, and a sample instant has been reached that was not evaluated (R283). -/
def slotDue (s : State) (k : Nat) : Bool :=
  let x := slotState s k
  loopsRun s && x.enabled && hasRecord x && decide (x.instant ≠ some (sampleInstantOf (comingRecord x) (now s)))
    && decide (lrPhase (comingRecord x) * 25000 ≤ now s)

/-- A slot's sample instant (R283, R285, R294). An express slot forms sp and ff and asks for its urgent injection; its law
runs on the result. -/
def runSlot (k : Nat) (s0 : State) : State :=
  let s := takeRecord k s0
  let r := (slotState s k).record
  let t := sampleInstantOf r (now s)
  let f := formSetpoint k (tsNs (servoAt s t)) s
  let s2 := modSlot k (fun x => { x with instant := some t }) f.1
  if lrFbSrc r = 2 then match expressChannel s2 k with
    | none => s2
    | some n => requestUrgent k n (modSlot k (fun x => { x with express := some (f.2.1, f.2.2.1, f.2.2.2, t) }) s2)
  else evaluateWith k t (readSource s2 r (lrFbSrc r) (lrFbRef r) t) f.2.1 f.2.2.1 f.2.2.2 false s2

/-- A slot's sample instant, if it is due. -/
def evaluateSlot (k : Nat) (s : State) : State := if slotDue s k then runSlot k s else s

/-- A slot's place among those due: by instant, express slots first, then by number (R283, R294). -/
def dueOrder (s : State) (k : Nat) : Nat :=
  let r := comingRecord (slotState s k)
  2048 * sampleInstantOf r (now s) + (if lrFbSrc r = 2 then 0 else 1024) + k

/-- A number taken into a list in the order of a key. -/
def takeIn (key : Nat → Nat) (k : Nat) : List Nat → List Nat
  | [] => [k]
  | j :: js => if key k < key j then k :: j :: js else j :: takeIn key k js

/-- The slots due ahead of a slot, in their order. -/
def dueBefore (s : State) (k : Nat) : List Nat :=
  (s.lpe.slots.map (·.1)).foldl (fun l j =>
    if slotDue s j && decide (dueOrder s j < dueOrder s k) then takeIn (dueOrder s) j l else l) []

/-- LOOP_EVALUATION: the slot is evaluated, and those due ahead of it before it (R283, R294). -/
def loopEvaluate (k : Nat) (s : State) : State :=
  if slotDue s k then runSlot k (applyAll evaluateSlot (dueBefore s k) s) else s

/-- EXPRESS_PIPELINE: the law runs on an urgent result (R294). -/
def expressPipeline (k n : Nat) (s : State) : State :=
  let x := slotState s k
  match x.express, tfind s.adc.samples n with
  | some (sp, ff, held, t), some y =>
    if loopsRun s && x.enabled then
      evaluateWith k t (sampleSource (ageLimit x.record) t y) sp ff held true
        (modSlot k (fun z => { z with express := none }) s)
    else s
  | _, _ => s

/-- URGENT_CONVERSION_DONE (R112, R294). -/
def urgentDone (k code : Nat) (f : Comparators) (s : State) : State := match urgentHead s k with
  | none => s
  | some u => expressPipeline u.slot u.channel (urgentStore k u code f s)

/-! ### Taking over outputs (R68) and the mirrored integrators (R286) -/

/-- Each enabled slot goes on from the output in force now, or a value given (R68). -/
def bumpless (value : Nat → Option Word) (s : State) : State :=
  { s with lpe := { s.lpe with slots := s.lpe.slots.map (fun e =>
    if e.2.enabled then (e.1, resumeFrom (value e.1) e.2) else e) } }

/-- The integrator record of a slot (R359). -/
def slotSnap (x : Slot) : SlotSnap := { i := x.i, u := x.u, yPrev := x.yPrev, ddPrev := x.ddPrev, sp := x.sp.getD s0 }

/-- The snapshot of every enabled slot (R286). -/
def snapshotNow (s : State) : Table SlotSnap :=
  (s.lpe.slots.filter (fun e => e.2.enabled)).map (fun e => (e.1, slotSnap e.2))

/-- INTEGRATOR_SNAPSHOT: every 10 ms of counter time; the holder mirrors it, a half in SHADOW takes the mirrored one
(R286, R359). -/
def integratorSnapshot (s : State) : State :=
  if !loopsRun s || !everyDue s s.lpe.snapAt (10 * tickMs) then s
  else
    let x := snapshotNow s
    mirror untagged (.integrators x) { s with lpe := { s.lpe with snapshot := x, snapAt := some (now s) } }

/-- Slots' integrators replaced by a snapshot (R286). -/
def restoreSnapshot (x : Table SlotSnap) (s : State) : State :=
  { s with lpe := { s.lpe with slots := s.lpe.slots.map (fun e => match tfind x e.1 with
    | some z => (e.1, { e.2 with i := z.i, u := z.u, yPrev := z.yPrev, ddPrev := z.ddPrev, sp := some z.sp })
    | none => e) } }

/-! ### Commands -/

/-- The local indices of a slot's points. -/
def slotPoints (k : Nat) : List Nat := (List.range 4).map (fun j => 0x1000 + 4 * k + j)

/-- A slot takes a record, in force from the first instant of its own grid after now: its points come to be with it
(R168, R280). A slot that is not being evaluated has no evaluation to wait for, and its record is in force at once (log
entry 89). -/
def storeSlot (k : Nat) (r : Bytes) (s : State) : State :=
  let first := !hasRecord (slotState s k)
  let t := modSlot k (fun x => { x with
    next := some r, instant := if x.enabled then some (sampleInstantOf r (now s)) else x.instant }) s
  if !(loopsRun s && (slotState s k).enabled) then takeRecord k t
  else if first then (slotPoints k).foldl (fun u j => ownPoint j (slotStale r) u) t else t

/-- LOOP_SET (R280, R168). -/
def loopSetBody (c : Call) (s : State) : State × Reply :=
  let k := u16 c.payload 0
  let r := c.payload.drop 4
  if c.payload.length ≠ 100 then no stLength s
  else if 1023 < k ∨ u16 c.payload 2 ≠ 0 ∨ slotRecordOk k r = false then no stOutOfRange s
  else if !roomFor s (slotPoints k) then no stNoSpace s
  else yes [] (storeSlot k r s)

/-- A gain table in range (R284). -/
def tableOkay (t : List (Word × Word)) : Bool :=
  decide ((t[0]?).map (fun e => val32 e.1) = some (some 0)) && t.all (fun e => sfinite e.1 && in32 e.2 0 1000000)

/-- LOOP_GAIN_SET (R284). -/
def loopGainSetBody (c : Call) (s : State) : State × Reply :=
  let k := u16 c.payload 0
  let t := (rowsOf c.payload 4 8 64).map (fun b => (w32 b 0, w32 b 4))
  if c.payload.length ≠ 516 then no stLength s
  else if 1023 < k ∨ u16 c.payload 2 ≠ 0 ∨ tableOkay t = false then no stOutOfRange s
  else yes [] (modSlot k (fun x => { x with table := t }) s)

/-- The slot state word as it is read: ENABLED follows the slot (R310). -/
def slotWord (x : Slot) : Half := if x.enabled then bset x.bits 0 else bclr x.bits 0

/-- LOOP_READ (R280, R310). -/
def loopReadBody (c : Call) (s : State) : State × Reply :=
  let k := u16 c.payload 0
  let x := slotState s k
  if c.payload.length ≠ 4 then no stLength s
  else if c.cap < 20 then no stRspSpace s
  else if 1023 < k ∨ u16 c.payload 2 ≠ 0 then no stOutOfRange s
  else if !hasRecord x then no stNotFound s
  else yes (f32Bytes (x.sp.getD s0) ++ f32Bytes x.feedback ++ f32Bytes x.u ++ f32Bytes x.i ++ le32 (slotWord x).toNat) s

/-- The slot is an express slot whose input no process channel names (R282). -/
def expressUnnamed (s : State) (k : Nat) : Bool :=
  decide (lrFbSrc (comingRecord (slotState s k)) = 2) && (expressChannel s k).isNone

/-- A following error that only LOOP_ENABLE clears (R292). -/
def latchedError (x : Slot) : Bool := x.fe && decide (lrFeAction x.record = 1 ∨ lrFeAction x.record = 2)

/-- A slot is enabled afresh, or its latched following error clears (R282, R292, R293): LOST and FROZEN that a slot
enabled afresh leaves behind clear with their records (R290). A slot enabled afresh starts by its law: R68 lists the
takeovers that are bumpless, and this is none of them (log entry 89). -/
def enableSlot (k : Nat) (s : State) : State :=
  let x := slotState s k
  if x.enabled then
    if latchedError x then
      modSlot k (fun y => { y with
        fe := false, feTimer := 0, resume := outputInForce s k, bits := bclr y.bits sbFe }) s
    else s
  else
    modSlot k (fun y => { y with
      enabled := true, evaluated := false, fresh := true, bits := 0, acting := none, good := 0, onBackup := false
      backupGone := false, fe := false, feTimer := 0, primary := {}, backup := {}, resume := none
      instant := some (sampleInstantOf (comingRecord x) (now s)) })
      (markBit k 65 (decide (x.acting = some false)) false (markBit k 64 (decide (x.acting = some true)) false s))

/-- A slot is disabled: its outputs fall to row 7, its points carry UNCERTAIN (R187, R282). -/
def disableSlot (k : Nat) (s : State) : State :=
  (slotPoints k).foldl (fun u j => withPoints (modPoint j (fun p => { p with stored := if p.updated then 1 else p.stored })) u)
    (modSlot k (fun y => { y with enabled := false, evaluated := false, express := none }) s)

/-- LOOP_ENABLE (R282). -/
def loopEnableBody (c : Call) (s : State) : State × Reply :=
  let k := u16 c.payload 0
  let on := u16 c.payload 2
  if c.payload.length ≠ 4 then no stLength s
  else if 1023 < k ∨ 1 < on then no stOutOfRange s
  else if !hasRecord (slotState s k) then no stNotFound s
  else if on = 1 ∧ expressUnnamed s k = true then no stNotFound s
  else yes [] (if on = 1 then enableSlot k s else disableSlot k s)

/-- The trigger record of a trace, armed with its slot in a state: what the slot shows already it does not gain (R307). -/
def traceOf (sid : Word) (bits : Half) (r : Bytes) : Trace :=
  { slot := u16 r 0, signal := u8 r 2, cond := u8 r 3, pre := u16 r 4, dec := u16 r 6, level := w32 r 8, state := 1
    holder := sid, lastBits := bits }

/-- A trace buffer is armed by another session (R41). -/
def traceElsewhere (s : State) (b : Nat) (sid : Word) : Option Word := match tfind s.lpe.traces b with
  | some t => if (t.state = 1 ∨ t.state = 2) ∧ t.holder ≠ sid ∧ t.holder ≠ 0 then some t.holder else none
  | none => none

/-- TRACE_ARM (R307). -/
def traceArmBody (c : Call) (s : State) : State × Reply :=
  let b := u8 c.payload 0
  let r := c.payload.drop 4
  if c.payload.length ≠ 20 then no stLength s
  else if 7 < b ∨ slice c.payload 1 3 ≠ zeros 3 then no stOutOfRange s
  else match traceElsewhere s b c.sid with
    | some h => (s, .busy (holderBytes s h))
    | none =>
      if 1023 < u16 r 0 ∨ 4 < u8 r 2 ∨ 5 < u8 r 3 ∨ sfinite (w32 r 8) = false ∨ u32 r 12 ≠ 0 then no stOutOfRange s
      else yes [] { s with lpe := { s.lpe with traces := tset s.lpe.traces b (traceOf c.sid (slotWord (slotState s (u16 r 0))) r) } }

/-- TRACE_READ (R308). -/
def traceReadBody (c : Call) (s : State) : State × Reply :=
  let b := u8 c.payload 0
  let count := u16 c.payload 2
  let first := u32 c.payload 4
  if c.payload.length ≠ 8 then no stLength s
  else if count = 0 ∨ c.limit < 8 + 4 * count then no stReadCount s
  else if c.cap < 8 + 4 * count then no stRspSpace s
  else if 7 < b ∨ 65535 < first ∨ u8 c.payload 1 ≠ 0 then no stOutOfRange s
  else match (tfind s.lpe.traces b).filter (fun t => decide (t.state = 3)) with
    | none => no stNotFound s
    | some t =>
      let vs := (t.samples.drop first).take count
      yes (le32 first ++ le32 vs.length ++ vs.flatMap f32Bytes) s

/-- Traces held by a session that closes are released: the buffer stays armed, without a holder (R40, R41). -/
def releaseTraces (sid : Word) (s : State) : State :=
  { s with lpe := { s.lpe with traces := s.lpe.traces.map (fun e =>
    if e.2.holder = sid then (e.1, { e.2 with holder := 0 }) else e) } }

/-- LOOP_ALIVE_TOGGLE: ALIVE toggles every 1 ms while the engine evaluates (R305, R311). -/
def aliveToggle (s : State) : State :=
  if loopsRun s && everyDue s s.lpe.aliveAt tickMs then
    { s with lpe := { s.lpe with alive := !s.lpe.alive, aliveAt := some (now s) } }
  else s

end Sys2Proof.Machine
end

