-- ==== Sys2Proof/Machine/FieldBus.lean ====
section
/-! DEFINITION. The field bus channels: records, what an object sends, attempts and their ends, cancels, bus-off,
reception, and the CAN_ commands (R312 to R331). -/

namespace Sys2Proof.Machine

/-! ### Records (R313 to R317) -/

/-- A channel, and the state with one changed. -/
def canOf (s : State) (c : Nat) : CanChan := tget s.can.channels c {}
def modCan (c : Nat) (f : CanChan → CanChan) (s : State) : State :=
  { s with can := { s.can with channels := tmod s.can.channels c {} f } }

/-- An object of a channel, and the state with one changed. -/
def objOf (s : State) (c o : Nat) : CanObj := tget (canOf s c).objects o {}
def modObj (c o : Nat) (f : CanObj → CanObj) (s : State) : State :=
  modCan c (fun x => { x with objects := tmod x.objects o {} f }) s

/-- Fields of the timing record (R313). -/
def ctEnable (r : Bytes) : Bool := decide (u8 r 0 = 1)
def ctFd (r : Bytes) : Bool := decide (u8 r 1 = 1)
def ctTdc (r : Bytes) : Bool := decide (u8 r 2 = 1)

/-- Clock periods of an arbitration bit and of a data bit (R314). -/
def arbitrationBit (r : Bytes) : Nat := u16 r 4 * (1 + u16 r 6 + u8 r 8)
def dataBit (r : Bytes) : Nat := u8 r 10 * (1 + u8 r 11 + u8 r 12)

/-- A timing record in range (R313), its rates as R314 allows them. -/
def timingOk (r : Bytes) : Bool :=
  decide (u8 r 0 ≤ 1 ∧ u8 r 1 ≤ 1 ∧ u8 r 2 ≤ 1 ∧ (u8 r 2 = 0 ∨ u8 r 10 = 1 ∨ u8 r 10 = 2) ∧ u8 r 3 ≤ 127)
    && decide (1 ≤ u16 r 4 ∧ u16 r 4 ≤ 256 ∧ 2 ≤ u16 r 6 ∧ u16 r 6 ≤ 256 ∧ 1 ≤ u8 r 8 ∧ u8 r 8 ≤ 128)
    && decide (1 ≤ u8 r 9 ∧ u8 r 9 ≤ u8 r 8 ∧ 1 ≤ u8 r 10 ∧ u8 r 10 ≤ 32 ∧ 1 ≤ u8 r 11 ∧ u8 r 11 ≤ 32)
    && decide (1 ≤ u8 r 12 ∧ u8 r 12 ≤ 16 ∧ 1 ≤ u8 r 13 ∧ u8 r 13 ≤ u8 r 12 ∧ u16 r 14 = 0)
    && decide (80 ≤ arbitrationBit r ∧ 10 ≤ dataBit r ∧ dataBit r ≤ arbitrationBit r)

/-- Fields of the object record (R316). -/
def coDir (r : Bytes) : Nat := u8 r 0
def coFormat (r : Bytes) : Nat := u8 r 1
def coIde (r : Bytes) : Bool := decide (u8 r 2 = 1)
def coRetry (r : Bytes) : Nat := u8 r 3
def coId (r : Bytes) : Nat := u32 r 4
def coMask (r : Bytes) : Nat := u32 r 8
def coDlc (r : Bytes) : Nat := u8 r 12
def coSrc (r : Bytes) : Nat := u8 r 13
def coSafeAct (r : Bytes) : Nat := u8 r 14
def coBig (r : Bytes) : Bool := decide (u8 r 15 = 1)
def coRef (r : Bytes) : Nat := u32 r 16
def coPeriod (r : Bytes) : Nat := u32 r 20
def coPhase (r : Bytes) : Nat := u32 r 24
def coPos (r : Bytes) : Nat := u8 r 28
def coWidth (r : Bytes) : Nat := u8 r 29
def coType (r : Bytes) : Nat := u8 r 30
def coScale (r : Bytes) : Word := w32 r 32
def coOffset (r : Bytes) : Word := w32 r 36
def coSafeValue (r : Bytes) : Word := w32 r 40
def coTripMask (r : Bytes) : Word := w32 r 44
def coTemplate (r : Bytes) : Bytes := slice r 48 64

/-- Bytes of a CAN FD data length code; on a classical object 9 to 15 count as 8 (R54, R317). -/
def dlcBytes (classical : Bool) (d : Nat) : Nat :=
  if d ≤ 8 then d
  else if classical then 8
  else [12, 16, 20, 24, 32, 48, 64].getD (d - 9) 64

/-- Highest identifier of a width. -/
def idLimit (r : Bytes) : Nat := if coIde r then 0x1FFFFFFF else 0x7FF

/-- The fields that transmit and receive objects share (R316). -/
def objectCommon (r : Bytes) : Bool :=
  decide (u8 r 2 ≤ 1 ∧ coId r ≤ idLimit r ∧ u8 r 15 ≤ 1 ∧ (coWidth r = 1 ∨ coWidth r = 2 ∨ coWidth r = 4))
    && decide (coType r ≤ 2 ∧ (coType r = 2 → coWidth r = 4) ∧ u8 r 31 = 0)
    && sfinite (coScale r) && decide (num32 (coScale r) ≠ 0) && sfinite (coOffset r) && sfinite (coSafeValue r)

/-- REF by SRC for a transmit object (R316). -/
def canRefOk (r : Bytes) : Bool := match coSrc r with
  | 0 => decide (coRef r = 0)
  | 1 => decide (coRef r ≤ 65535)
  | 2 => decide (coRef r ≤ 1023)
  | _ => decide (coRef r < 2 ^ 28)

/-- A transmit record in range on a channel with or without FD (R316, R317). -/
def transmitOk (fd : Bool) (r : Bytes) : Bool :=
  decide (coFormat r ≤ 2) && (decide (coFormat r = 0) || fd)
    && decide (coRetry r ≤ 15 ∧ coMask r = 0 ∧ coDlc r ≤ 15 ∧ coSrc r ≤ 3 ∧ coSafeAct r ≤ 2)
    && decide (coSrc r = 0 → coSafeAct r ≠ 0) && canRefOk r
    && (if coSrc r = 0 then decide (coPeriod r = 0 ∧ coPhase r = 0)
        else decide (1 ≤ coPeriod r ∧ coPeriod r ≤ 600000 ∧ coPhase r < coPeriod r))
    && decide (coPos r + coWidth r ≤ dlcBytes (decide (coFormat r = 0)) (coDlc r))

/-- A receive record in range (R316). -/
def receiveOk (r : Bytes) : Bool :=
  decide (coFormat r = 0 ∧ coRetry r = 0 ∧ coMask r ≤ idLimit r ∧ coDlc r = 0 ∧ coSrc r = 3 ∧ coSafeAct r = 0)
    && decide (coRef r < 2 ^ 28 ∧ coRef r / 65536 ≠ 0 ∧ coPeriod r = 0 ∧ coPhase r = 0)
    && decide (coSafeValue r = 0 ∧ coTripMask r = 0) && allZero (coTemplate r)

/-- An object record in range (R316, R317). -/
def objectOk (fd : Bool) (r : Bytes) : Bool := match coDir r with
  | 0 => true
  | 1 => objectCommon r && transmitOk fd r
  | 2 => objectCommon r && receiveOk r
  | _ => false

/-- A transmit object. -/
def transmits (x : CanObj) : Bool := decide (coDir x.record = 1)

/-! ### Rows of R328 and the channel's state -/

/-- The channel is on: powered, after BOOT, ENABLE 1 (row 1 of R328), and not being re-initialised (R79). -/
def canOn (s : State) (c : Nat) : Bool :=
  pd s 9 && s.sys.mode.live && ctEnable (canOf s c).record && !reinitRuns s 4 c

/-- The row of R328 in force for a transmit object. -/
def canRow (s : State) (c : Nat) (x : CanObj) : Nat :=
  if !canOn s c then 1
  else if !s.sys.token then 2
  else if globalForce s || decide (s.slc.latch &&& coTripMask x.record ≠ 0) then 3
  else 4

/-- The row lets the object's frames go to the bus. -/
def canMay (s : State) (c : Nat) (x : CanObj) : Bool := match canRow s c x with
  | 4 => true
  | 3 => decide (coSafeAct x.record ≠ 1)
  | _ => false

/-- The row discards the object's pending frame (R328). -/
def canDrops (s : State) (c : Nat) (x : CanObj) : Bool := match canRow s c x with
  | 2 => true
  | 3 => decide (coSafeAct x.record = 1)
  | _ => false

/-- Error-passive: TEC or REC above 127 (R323). -/
def canPassive (x : CanChan) : Bool := decide (127 < x.tecount ∨ 127 < x.recount)

/-- CAN_STATc.STATE (R331). -/
def canState (s : State) (c : Nat) : Nat :=
  let x := canOf s c
  if !canOn s c then 0
  else if x.busOff || decide (255 < x.tecount) then 3
  else if !s.sys.token then 4
  else if x.integrating then 5
  else if canPassive x then 2
  else 1

/-- A bit of CAN_FLAGSc is raised: events 80 to 84 (R330). -/
def canFlag (c b : Nat) (s : State) : State :=
  if (canOf s c).flags.getLsbD b then s else raise (80 + b) (modCan c (fun x => { x with flags := bset x.flags b }) s)

/-- A pending frame and what is queued are discarded as CANCELLED; an ACTIVE frame ends first (R321, R328). -/
def dropPending (x : CanObj) : CanObj :=
  if x.state = 1 then { x with state := 0, result := 4, data := none, queued := none } else { x with queued := none }

/-- Rows 2 and 3 act on the objects of a channel (R328). -/
def dropRows (c : Nat) (s : State) : State :=
  modCan c (fun x => { x with objects := x.objects.map (fun e =>
    if transmits e.2 && canDrops s c e.2 then (e.1, dropPending e.2) else e) }) s

/-- The frame of an object with its data: CAN FD by its FORMAT where the channel allows it, a classical frame otherwise
(R313, R316; log entry 139). -/
def frameOf (fd : Bool) (r data : Bytes) : CanFrame :=
  { ide := coIde r, id := coId r, fd := fd && decide (coFormat r ≠ 0), brs := fd && decide (coFormat r = 2), esi := false
    remote := false, data := data }

/-! ### Start of frame (R319) -/

/-- The rank of a frame in arbitration, lower first: the leading 11 bits, base ahead of extended, the rest (R319). -/
def arbitrationKey (r : Bytes) (o : Nat) : Nat :=
  if coIde r then ((coId r / 2 ^ 18 * 2 + 1) * 2 ^ 18 + coId r % 2 ^ 18) * 128 + o
  else coId r * 2 * 2 ^ 18 * 128 + o

/-- The object whose pending frame ranks first. -/
def firstPending (s : State) (c : Nat) : Option (Nat × CanObj) :=
  (canOf s c).objects.foldl (fun best e =>
    if transmits e.2 && decide (e.2.state = 1) && canMay s c e.2 then
      match best with
      | none => some e
      | some b => if arbitrationKey e.2.record e.1 < arbitrationKey b.2.record b.1 then some e else best
    else best) none

/-- The channel offers its first pending frame to a free bus (R319, log entry 50). -/
def canOffer (c : Nat) (s : State) : State :=
  if (canOf s c).active.isSome || (canOf s c).busy || !decide (canState s c = 1 ∨ canState s c = 2) then s
  else match firstPending s c with
    | none => s
    | some (o, x) =>
      let d := x.data.getD (frameOf false x.record [])
      let f := { d with esi := d.fd && canPassive (canOf s c) }
      emit (.can c f) (modCan c (fun y => { y with
        active := some { object := o, won := false, start := now s, live := true, frame := f } })
        (modObj c o (fun y => { y with state := 2 }) s))

/-- What the rows of R328 make of a channel now, and the next start of frame. -/
def canRows (c : Nat) (s : State) : State := canOffer c (dropRows c s)

/-- After a change of mode, token, force or latch (R328). -/
def applyCanRows (s : State) : State := applyAll canRows (List.range 16) s

/-- On taking the token each channel leaves bus monitoring and integrates (R328). -/
def integrateCans (s : State) : State :=
  { s with can := { s.can with channels := s.can.channels.map (fun e => (e.1, { e.2 with integrating := true })) } }

/-! ### Values and frames (R318) -/

/-- Data placed in an object (R320, R321): PENDING from IDLE, replacing what waits, or queued behind an ACTIVE
frame. -/
def place (f : CanFrame) (x : CanObj) : CanObj := match x.state with
  | 0 => { x with state := 1, data := some f, attempts := 0 }
  | 1 => { x with data := some f }
  | _ => { x with queued := some f }

/-- Data of an object goes to its channel, under the rows of R328. -/
def placeFrame (c o : Nat) (f : CanFrame) (s : State) : State := canRows c (modObj c o (place f) s)

/-- A value field's bytes in the object's order. -/
def fieldBytes (r : Bytes) (v : Nat) : Bytes := if coBig r then be (coWidth r) v else le (coWidth r) v

/-- value x SCALE + OFFSET in binary64; none for a value that is no number (R318). -/
def scaled (r : Bytes) (v : Dword) : Option Dword :=
  if isNan64 v then none else some (fadd (fmul v (widen (coScale r))) (widen (coOffset r)))

/-- The bounds of a fixed-point type. -/
def rawLow (r : Bytes) : Int := if coType r = 1 then -(2 ^ (8 * coWidth r - 1)) else 0
def rawHigh (r : Bytes) : Int := if coType r = 1 then 2 ^ (8 * coWidth r - 1) - 1 else 2 ^ (8 * coWidth r) - 1

/-- The raw field of a scaled value, and whether it was clamped (R318). -/
def rawField (r : Bytes) (x : Dword) : Nat × Bool :=
  if coType r = 2 then ((narrow x).toNat, false)
  else match val64 x with
    | none => (twos (8 * coWidth r) (if x.getLsbD 63 then rawLow r else rawHigh r), true)
    | some q =>
      let n := roundEven q
      (twos (8 * coWidth r) (clampI (rawLow r) (rawHigh r) n), decide (n < rawLow r ∨ rawHigh r < n))

/-- The frame of an object with a value field (R318). -/
def frameWith (fd : Bool) (r field : Bytes) : CanFrame :=
  let n := dlcBytes (!fd || decide (coFormat r = 0)) (coDlc r)
  frameOf fd r (((coTemplate r).take (coPos r) ++ field ++ (coTemplate r).drop (coPos r + coWidth r)).take n)

/-- The value at a due instant, at that instant's SERVO time; none when it is held (R318). -/
def canValue (r : Bytes) (ns : Nat) (s : State) : State × Option Dword := match coSrc r with
  | 1 => let v := readLedger ns (coRef r) s
    (v.1, v.2.map widen)
  | 2 => (s, some (widen (slotState s (coRef r)).u))
  | _ => let p := findPoint s (coRef r)
    (s, if usable (effQuality ns p) then p.map (·.value) else none)

/-- The raw field that a held value sends again; before the first it is open (R318, log entry 51). -/
def heldField (x : CanObj) (s : State) : State × Bytes := match x.last with
  | some f => (s, f)
  | none => (tickFree s 1, Config.freeBytes s.free (coWidth x.record))

/-- A value encoded for an object: its field, the status bits, what is kept as last sent (R318). -/
def encodeValue (c o : Nat) (v : Option Dword) (s : State) : State × Bytes :=
  let x := objOf s c o
  match v.bind (scaled x.record) with
  | some q =>
    let raw := rawField x.record q
    let f := fieldBytes x.record raw.1
    (modObj c o (fun y => { y with held := false, clamp := raw.2, last := some f }) s, f)
  | none =>
    let h := heldField x s
    (modObj c o (fun y => { y with held := true, last := some h.2 }) h.1, h.2)

/-- The latest due instant at or before a counter value (R318). -/
def dueInstant (r : Bytes) (c : Nat) : Option Nat :=
  let p := coPeriod r * 25000
  let off := coPhase r * 25000
  if c < off then none else some (off + (c - off) / p * p)

/-- A periodic transmit object whose due instant has come and was not yet reached. -/
def canDueNow (s : State) (c o : Nat) : Bool :=
  let x := objOf s c o
  transmits x && decide (coSrc x.record ≠ 0) && canOn s c
    && decide ((dueInstant x.record (now s)).isSome ∧ dueInstant x.record (now s) ≠ x.instant)

/-- CAN_DUE_INSTANT (R318, R321, R328). -/
def canDue (c o : Nat) (s0 : State) : State :=
  if !canDueNow s0 c o then s0
  else
    let t := (dueInstant (objOf s0 c o).record (now s0)).getD 0
    let s := modObj c o (fun y => { y with instant := some t }) s0
    let x := objOf s c o
    let row := canRow s c x
    if row = 3 ∧ coSafeAct x.record = 1 then s
    else
      let v := if row = 3 ∧ coSafeAct x.record = 0 then (s, some (widen (coSafeValue x.record)))
        else canValue x.record (tsNs (servoAt s t)) s
      let e := encodeValue c o v.2 v.1
      if row = 2 then e.1
      else
        let skip := decide (x.state = 1)
        placeFrame c o (frameWith (ctFd (canOf s c).record) x.record e.2)
          (if skip then modCan c (fun y => { y with skipped := y.skipped + 1 }) e.1 else e.1)

/-! ### Responses that wait (R325) -/

/-- Where a waiting command's response goes. -/
def Deferred.back (d : Deferred) : Return :=
  { transport := d.transport, assoc := d.assoc, tag := d.tag, address := d.rspAddr, head := d.sqHead }

/-- A waiting command gets its response. -/
def answer (d : Deferred) (st : Half) (data : Bytes) (s : State) : State :=
  let t := updSession d.sid (fun x => { x with
    outstanding := x.outstanding.filter (fun q => decide (q ≠ d.seq))
    cached := x.cached ++ [{ seq := d.seq, opcode := d.opcode, flags := rspFlags d.flags true, status := st,
                             payload := data }] })
    (post d.back d.seq d.sid d.opcode.toNat (rspFlags d.flags false) st data s)
  if d.transport = .pcie then ringDone d.assoc t else t

/-- The cancels that wait on an object are answered. -/
def answerCancels (c o : Nat) (st : Half) (s : State) : State :=
  let mine := fun (d : Deferred) => decide (d.opcode = 0x0904 ∧ d.channel = c ∧ d.object = o)
  applyAll (fun d t => answer d st [] t) (s.vcp.deferred.filter mine)
    { s with vcp := { s.vcp with deferred := s.vcp.deferred.filter (fun d => !mine d) } }

/-- The response of a command that waits on an object (R325). -/
def defer (c : Call) (opcode : Half) (channel object : Nat) (s : State) : State :=
  { s with vcp := { s.vcp with deferred := s.vcp.deferred ++ [{
      transport := c.transport, assoc := c.assoc, tag := c.tag, rspBuf := c.rspBuf, flags := c.flags, seq := c.seq,
      sid := c.sid, opcode := opcode, channel := channel, object := object, rspAddr := c.rspAddr, sqHead := c.sqHead }] } }

/-! ### The end of arbitration and of a frame (R321 to R325) -/

/-- The bus is no longer this channel's. -/
def leaveBus (c : Nat) (s : State) : State := modCan c (fun x => { x with active := none }) s

/-- An object's frame ends with a RESULT; what is queued comes next (R321). -/
def finishFrame (c o result : Nat) (s : State) : State :=
  modObj c o (fun x => match x.queued with
    | some f => { x with result := result, cancelReq := false, cancelLate := false, state := 1, data := some f,
                         queued := none, attempts := 0 }
    | none => { x with result := result, cancelReq := false, cancelLate := false, state := 0, data := none }) s

/-- CAN_ARBITRATION_END (R319, R325). -/
def arbitrationEnd (c : Nat) (won : Bool) (s : State) : State := match (canOf s c).active with
  | none => s
  | some a =>
    if a.won then s
    else
      let x := objOf s c a.object
      if won then
        let t := modCan c (fun y => { y with active := some { a with won := true } }) s
        if a.live && x.cancelReq then
          answerCancels c a.object stCancelLate
            (modObj c a.object (fun y => { y with cancelReq := false, cancelLate := true, queued := none }) t)
        else t
      else
        let t := modCan c (fun y => { y with active := none, busy := true }) s
        if !a.live then t
        else if x.cancelReq then
          answerCancels c a.object stOk (finishFrame c a.object 4
            (modObj c a.object (fun y => { y with queued := none }) t))
        else canRows c (modObj c a.object (fun y => { y with state := 1 }) t)

/-- The code of an error in LEC (R331). -/
def lecOf : CanError → Nat
  | .stuff => 1
  | .form => 2
  | .ack => 3
  | .bit1 => 4
  | .bit0 => 5
  | .crc => 6

/-- The flag of error-passive is raised when a channel becomes so (R330). -/
def notePassive (c : Nat) (was : Bool) (s : State) : State :=
  if !was && canPassive (canOf s c) then canFlag c 1 s else s

/-- Whether a transmitter's error leaves TEC as it is: an error-passive transmitter's acknowledgement error, and a
stuff error in arbitration (R312, R323, log entry 52). -/
def tecExempt (x : CanChan) (a : CanActive) (e : CanError) : Bool :=
  (decide (e = .ack) && canPassive x) || (decide (e = .stuff) && !a.won)

/-- Counts of a failed attempt (R322, R323, R331). -/
def countError (c : Nat) (a : CanActive) (e : CanError) (s : State) : State :=
  let x := canOf s c
  let t := modCan c (fun y => { y with
    errors := y.errors + 1, lec := lecOf e, tecount := if tecExempt x a e then y.tecount else y.tecount + 8 }) s
  let u := if a.live then modObj c a.object (fun y => { y with attempts := y.attempts + 1 }) t else t
  notePassive c (canPassive x) u

/-- The retry limit is reached (R322). -/
def retriesOut (x : CanObj) : Bool := decide (coRetry x.record < 15 ∧ 1 + coRetry x.record ≤ x.attempts)

/-- What becomes of an object whose attempt failed (R321, R322, R325). -/
def afterError (c o : Nat) (e : CanError) (s : State) : State :=
  let x := objOf s c o
  if x.cancelReq then
    answerCancels c o stOk (finishFrame c o 4 (modObj c o (fun y => { y with queued := none }) s))
  else if x.cancelLate then finishFrame c o 4 (modObj c o (fun y => { y with queued := none }) s)
  else if retriesOut x then
    if e = .ack then canFlag c 0 (finishFrame c o 2 s) else canFlag c 3 (finishFrame c o 3 s)
  else modObj c o (fun y => { y with state := 1 }) s

/-- The transmitter delay is measured on a frame with BRS and TDC on; its value is open (R331). -/
def measureDelay (c : Nat) (s : State) : State :=
  if ((canOf s c).active.map (·.frame.brs)).getD false && ctTdc (canOf s c).record then
    tickFree (modCan c (fun x => { x with delay := (Config.freeByte s.free 0).setWidth 7 }) s) 1
  else s

/-- A frame completed: TEC, counters, the object's stamp; a channel's own frame counts as unmatched (R323, R326, R327,
R331). A cancel still waiting came too late. -/
def frameDone (c : Nat) (a : CanActive) (s : State) : State :=
  let t := modCan c (fun y => { y with
    tecount := y.tecount - 1, txOk := y.txOk + 1, unmatched := y.unmatched + 1 }) s
  if !a.live then t
  else
    let x := objOf t c a.object
    let u := if x.cancelReq then answerCancels c a.object stCancelLate
        (modObj c a.object (fun y => { y with queued := none }) t) else t
    finishFrame c a.object (if x.cancelReq || x.cancelLate then 6 else 1)
      (modObj c a.object (fun y => { y with stamp := a.start, count := y.count + 1 }) (measureDelay c u))

/-- CAN_FRAME_END: the frame on the bus completes, or its attempt ends in an error. With TEC past 255 its end is
CAN_BUS_OFF's (R324). -/
def frameEnd (c : Nat) (error : Option CanError) (s : State) : State := match (canOf s c).active with
  | none => s
  | some a =>
    if 255 < (canOf s c).tecount then s
    else match error with
      | none => canRows c (leaveBus c (frameDone c a s))
      | some e =>
        let t := countError c a e s
        if 255 < (canOf t c).tecount then t
        else canRows c (leaveBus c (if a.live then afterError c a.object e t else t))

/-- CAN_BUS_OFF (R324). -/
def busOffEntry (c : Nat) (s : State) : State :=
  if (canOf s c).busOff || decide ((canOf s c).tecount ≤ 255) then s
  else
    let t := canFlag c 2 (modCan c (fun x => { x with busOff := true, busOffs := x.busOffs + 1 }) s)
    match (canOf t c).active with
    | some a =>
      let u := leaveBus c t
      if a.live then answerCancels c a.object stOk (finishFrame c a.object 5 u) else u
    | none => t

/-- CAN_BUS_OFF_RECOVERY (R324). -/
def busOffRecovery (c : Nat) (s : State) : State :=
  if (canOf s c).busOff then
    canRows c (modCan c (fun x => { x with busOff := false, tecount := 0, recount := 0 }) s)
  else s

/-- CAN_BUS_INTEGRATION: 11 recessive bits (R314, R328). -/
def busIntegration (c : Nat) (s : State) : State :=
  if canOn s c && (canOf s c).integrating then canRows c (modCan c (fun x => { x with integrating := false }) s) else s

/-! ### Reception (R326, R327) -/

/-- A channel takes part in the bus as a receiver. -/
def canHears (s : State) (c : Nat) : Bool := match canState s c with
  | 1 => true
  | 2 => true
  | 4 => true
  | _ => false

/-- The lowest-numbered receive object that a frame matches (R326). -/
def matchObject (x : CanChan) (f : CanFrame) : Option (Nat × CanObj) :=
  x.objects.find? (fun e => decide (coDir e.2.record = 2) && (coIde e.2.record == f.ide)
    && decide (f.id &&& coMask e.2.record = coId e.2.record &&& coMask e.2.record))

/-- The raw value field of a frame, as a number. -/
def rawNumber (r : Bytes) (data : Bytes) : Nat :=
  let b := slice data (coPos r) (coWidth r)
  let x := if coBig r then b.reverse else b
  (List.range x.length).foldl (fun n i => n + u8 x i * 256 ^ i) 0

/-- (raw - OFFSET) / SCALE in binary64 (R326). -/
def decodedValue (r : Bytes) (data : Bytes) : Dword :=
  let n := rawNumber r data
  let raw : Dword := match coType r with
    | 0 => fp64 (n : Rat)
    | 1 => fp64 (signed (8 * coWidth r) n : Rat)
    | _ => widen (BitVec.ofNat 32 n)
  fdiv (fsub raw (widen (coOffset r))) (widen (coScale r))

/-- The write of a received value: a pinned point keeps its value (R183, R326). -/
def fieldWrite (v : Dword) (t : Ts) (arrival : Nat) (p : Point) : Point :=
  if p.pinned then { p with sample := t, timeLocal := false, arrival := arrival, updates := p.updates + 1, updated := true }
  else updatePoint 1 v 0 t arrival 0 p

/-- REC after a frame received without error, as ISO 11898-1 has it (R323, log entry 52). -/
def recAfter (s : State) (n : Nat) : Nat :=
  if n = 0 then 0 else if n ≤ 127 then n - 1 else 119 + (Config.freeByte s.free 0).toNat % 9

/-- CAN_FRAME_RECEIVED. -/
def frameReceived (c age : Nat) (f : CanFrame) (s : State) : State :=
  if !canHears s c || (f.fd && !ctFd (canOf s c).record) then s
  else
    let t := tickFree (modCan c (fun x => { x with
      rxOk := x.rxOk + 1, busy := false
      recount := if s.sys.token then recAfter s x.recount else x.recount }) s) 1
    let lost := fun (u : State) => modCan c (fun x => { x with unmatched := x.unmatched + 1 }) u
    let done := match matchObject (canOf t c) f with
      | none => lost t
      | some (o, x) =>
        let r := x.record
        let u := modObj c o (fun y => { y with stamp := now s - age, count := y.count + 1 }) t
        if f.remote then lost t
        else if f.data.length < coPos r + coWidth r then canFlag c 4 (modObj c o (fun y => { y with short := true }) u)
        else
          let w := modObj c o (fun y => { y with short := false }) u
          match findPoint w (coRef r) with
          | none => lost w
          | some _ => withPoints (modPoint (coRef r)
              (fieldWrite (decodedValue r f.data) (servoAt s (now s - age)) (now s))) w
    canRows c done

/-- CAN_RECEIVE_ERROR (R323, R331); in bus monitoring the error counters do not change (R328). -/
def receiveError (c : Nat) (e : CanError) (amount : Nat) (s : State) : State :=
  if !canHears s c then s
  else
    let was := canPassive (canOf s c)
    let t := modCan c (fun x => { x with
      errors := x.errors + 1, lec := lecOf e, busy := false
      recount := if s.sys.token then min (x.recount + amount) 255 else x.recount }) s
    canRows c (notePassive c was t)

/-! ### Off the bus -/

/-- Every transmit object of a channel ends: waiting and active frames CANCELLED (R314, R329). -/
def endObjects (c : Nat) (s : State) : State :=
  let t := applyAll (fun o u => answerCancels c o stOk u) (List.range 128) s
  modCan c (fun x => { x with
    active := none, busy := false
    objects := x.objects.map (fun e => (e.1, if e.2.state = 0 then e.2 else { e.2 with
      state := 0, result := 4, data := none, queued := none, cancelReq := false, cancelLate := false })) }) t

/-- A channel starts again: error counters at 0, bus integration (R314). In bus-off it stays there: no command hastens the
recovery (R324). -/
def rejoin (c : Nat) (s : State) : State :=
  modCan c (fun x => { x with tecount := 0, recount := 0, integrating := !x.busOff }) (endObjects c (busOffEntry c s))

/-- FUNC_REINIT of a channel begins (R79, R329): it is off the bus, pending transmissions are lost, the error counters and
those of R331 restart at 0. -/
def reinitCan (c : Nat) (s : State) : State :=
  modCan c (fun x => { x with
    tecount := 0, recount := 0, busOff := false, integrating := false
    lec := 0, txOk := 0, rxOk := 0, errors := 0, busOffs := 0, unmatched := 0, skipped := 0
    objects := x.objects.map (fun e => (e.1, { e.2 with count := 0 })) }) (endObjects c s)

/-- A re-initialised channel is whole: it integrates (R79, R314). -/
def canRejoin (c : Nat) (s : State) : State := modCan c (fun x => { x with integrating := true }) s

/-! ### Commands -/

/-- CAN_CHAN_SET (R313, R314). -/
def canChanSetBody (c : Call) (s : State) : State × Reply :=
  let n := u8 c.payload 0
  let r := c.payload.drop 4
  if c.payload.length ≠ 20 then no stLength s
  else if 15 < n ∨ allZero (slice c.payload 1 3) = false ∨ timingOk r = false then no stOutOfRange s
  else yes [] (modCan n (fun x => { x with record := r }) (rejoin n s))

/-- An object with a new record (R317): a pending request is discarded as CANCELLED; a frame on the bus runs on without
it. -/
def setObject (now : Nat) (r : Bytes) (x : CanObj) : CanObj :=
  { record := if coDir r = 0 then [] else r
    result := if x.state = 0 then 0 else 4
    stamp := x.stamp, count := x.count
    instant := if coDir r = 1 ∧ coSrc r ≠ 0 then dueInstant r now else none }

/-- CAN_OBJ_SET (R316, R317). -/
def canObjSetBody (c : Call) (s : State) : State × Reply :=
  let n := u8 c.payload 0
  let o := u8 c.payload 1
  let r := c.payload.drop 4
  if c.payload.length ≠ 116 then no stLength s
  else if 15 < n ∨ 127 < o ∨ u16 c.payload 2 ≠ 0 ∨ objectOk (ctFd (canOf s n).record) r = false then no stOutOfRange s
  else
    let t := modObj n o (setObject (now s) r) (answerCancels n o stOk s)
    yes [] (modCan n (fun x => { x with
      active := x.active.map (fun a => if a.object = o then { a with live := false } else a) }) t)

/-- CAN_SEND (R320). -/
def canSendBody (c : Call) (s : State) : State × Reply :=
  let n := u8 c.payload 0
  let o := u8 c.payload 1
  let d := u8 c.payload 2
  let x := objOf s n o
  let classical := decide (x.record ≠ [] ∧ coFormat x.record = 0)
  if c.payload.length < 4 ∨ c.payload.length ≠ 4 + u8 c.payload 3 then no stLength s
  else if 15 < d ∨ u8 c.payload 3 ≠ dlcBytes classical d then no stDlc s
  else if 8 < d ∧ coFormat x.record ≠ 0 ∧ ctFd (canOf s n).record = false then no stDlc s
  else if 15 < n ∨ 127 < o ∨ transmits x = false ∨ coSrc x.record ≠ 0 then no stOutOfRange s
  else
    yes [] (placeFrame n o (frameOf (ctFd (canOf s n).record) x.record (c.payload.drop 4)) s)

/-- CAN_CANCEL (R325). -/
def canCancelBody (c : Call) (s : State) : State × Reply :=
  let n := u8 c.payload 0
  let o := u8 c.payload 1
  let x := objOf s n o
  if c.payload.length ≠ 4 then no stLength s
  else if 15 < n ∨ 127 < o ∨ u16 c.payload 2 ≠ 0 ∨ transmits x = false then no stOutOfRange s
  else match x.state with
    | 0 => yes [] s
    | 1 => yes [] (modObj n o dropPending s)
    | _ =>
      if ((canOf s n).active.map (·.won)).getD false then
        (modObj n o (fun y => { y with cancelLate := true, queued := none }) s, .fail stCancelLate)
      else (defer c 0x0904 n o (modObj n o (fun y => { y with cancelReq := true }) s), .later)

/-- The objects of a word that are PENDING or ACTIVE (R331). -/
def busyWord (x : CanChan) (w : Nat) : Nat :=
  (List.range 32).foldl (fun m b => if (tget x.objects (32 * w + b) {}).state = 0 then m else m + 2 ^ b) 0

/-- CAN_STATUS (R331). -/
def canStatusBody (c : Call) (s : State) : State × Reply :=
  let n := u8 c.payload 0
  let x := canOf s n
  if c.payload.length ≠ 4 then no stLength s
  else if c.cap < 20 then no stRspSpace s
  else if 15 < n ∨ allZero (slice c.payload 1 3) = false then no stOutOfRange s
  else yes (le 1 (min x.tecount 255) ++ le 1 x.recount ++ le 1 (canState s n) ++ [0]
    ++ (List.range 4).flatMap (fun w => le32 (busyWord x w))) s

/-- CAN_OSTc_o (R331). -/
def objectStatus (s : State) (c o : Nat) : Nat :=
  let x := objOf s c o
  coDir x.record + 4 * x.state + 16 * x.result + 128 * bit x.cancelReq + 256 * bit x.held + 512 * bit x.clamp
    + 1024 * bit (transmits x && decide (canRow s c x = 3)) + 2048 * bit x.short + 65536 * min x.attempts 15

end Sys2Proof.Machine
end

