-- ==== Sys2Proof/Machine/Sessions.lean ====
section
/-! DEFINITION. Sessions: their opening and closing (R37 to R41), the idle timeout, and the System block's reading
commands. -/

namespace Sys2Proof.Machine

/-- The commands of a session that wait for their response or their turn end with it: their rings count them no longer
(R40, R44). -/
def dropWaiting (sid : Word) (s : State) : State :=
  let rings := ((s.vcp.deferred.filter (fun d => decide (d.sid = sid ∧ d.transport = .pcie))).map (·.assoc))
    ++ ((s.vcp.held.filter (fun h => decide (h.cmd.sid = sid ∧ h.cmd.transport = .pcie))).map (·.cmd.assoc))
  let spi := s.vcp.deferred.any (fun d => decide (d.sid = sid ∧ d.transport = .spi))
    || s.vcp.held.any (fun h => decide (h.cmd.sid = sid ∧ h.cmd.transport = .spi))
  applyAll ringDone rings { s with vcp := { s.vcp with
    spiBusy := s.vcp.spiBusy && !spi
    deferred := s.vcp.deferred.filter (fun d => decide (d.sid ≠ sid))
    held := s.vcp.held.filter (fun h => decide (h.cmd.sid ≠ sid)) } }

/-- A session closes: its resources are released, its responses discarded (R40, R67, R212, R307). -/
def closeSession (sid : Word) (s : State) : State :=
  if s.vcp.sessions.any (fun x => decide (x.sid = sid)) then
    let t := dropWaiting sid (releaseTraces sid (dropLoadsOf sid s))
    { t with
      sys := { t.sys with manual := if t.sys.manual = some sid then none else t.sys.manual }
      vcp := { t.vcp with sessions := t.vcp.sessions.filter (fun x => decide (x.sid ≠ sid)) } }
  else s

/-- The sessions that meet a condition close. -/
def closeWhere (p : Session → Bool) (s : State) : State :=
  applyAll closeSession ((s.vcp.sessions.filter p).map (·.sid)) s

/-- The sessions opened under a role-table entry close (R391). -/
def closeCredential (n : Nat) (s : State) : State := closeWhere (fun x => decide (x.credential.toNat = n)) s

/-- Every session closes. -/
def closeAllSessions (s : State) : State := closeWhere (fun _ => true) s

/-- The highest role that opens in a life-cycle state; none in SCRAPPED (R37, R372). -/
def roleLimit (life : Nat) : Option Nat := match life with
  | 0 => some 0
  | 1 => some 4
  | 2 => some 3
  | 3 => some 3
  | 4 => some 4
  | _ => none

/-- The entry of the role table (R391). -/
def roleEntry (s : State) (n : Nat) : Option RoleEntry := tfind s.key.roles n

/-- Signature bytes of an algorithm (R39). -/
def sigSize (alg : Nat) : Nat := match alg with
  | 1 => 96
  | 2 => 4627
  | _ => 0

/-- SES_CHALLENGE: a fresh nonce, valid for 30 s (R39). -/
def sesChallengeBody (c : Call) (s : State) : State × Reply :=
  let n := Config.freeBytes s.free 32
  if c.payload.length ≠ 0 then no stLength s
  else if c.cap < 32 then no stRspSpace s
  else yes n (tickFree { s with vcp := { s.vcp with
    nonces := s.vcp.nonces ++ [{ value := n, transport := c.transport, issued := now s }] } } 1)

/-- A nonce is valid: issued on this transport within 30 s and not yet used (R39). -/
def nonceValid (s : State) (t : Transport) (n : Bytes) : Bool :=
  s.vcp.nonces.any (fun x => decide (x.value = n ∧ x.transport = t ∧ now s ≤ x.issued + 30 * tickS))

/-- What the signature of SES_OPEN covers (R39). -/
def openDigest (t : Transport) (p : Bytes) : Bytes :=
  sha384 (ascii "VZD-VCP-OPEN" ++ slice p 8 32 ++ slice p 0 1 ++ le 1 (transportCode t) ++ slice p 4 4)

/-- Fields of SES_OPEN in range (R39). -/
def openFieldsOk (t : Transport) (p : Bytes) : Bool :=
  decide (u8 p 0 ≤ 4 ∧ u8 p 1 ≤ 2 ∧ u32 p 4 ≤ 63 ∧ u16 p 40 = sigSize (u8 p 1) ∧ u16 p 42 = 0)
    && (match t with
      | .udp => decide (1024 ≤ u16 p 2 ∧ u16 p 2 ≤ 8176)
      | _ => decide (u16 p 2 = 0))

/-- The proof of the role holds (R39): on UDP the certificate of the association, elsewhere the signature. -/
def openProof (t : Transport) (assoc : Nat) (p : Bytes) (s : State) : Bool := match t with
  | .udp => decide (u8 p 1 = 0) && (match (tfind s.vcp.assocs assoc).bind (fun a => roleEntry s a.credential) with
    | some e => decide (e.role ≤ 4 ∧ u8 p 0 ≤ e.role)
    | none => false)
  | _ => if u8 p 1 = 0 then decide (u8 p 0 = 0) else match roleEntry s (u32 p 4) with
    | some e => decide (e.role ≤ 4 ∧ u8 p 0 ≤ e.role ∧ e.alg = u8 p 1)
        && Config.verifies e.alg e.key (openDigest t p) (p.drop 44)
    | none => false

/-- No further session fits: the device holds 8, SPI carries one (R38), and so does a DTLS association (R49; log entry
101). -/
def sessionsFull (t : Transport) (assoc : Nat) (s : State) : Bool :=
  decide (8 ≤ s.vcp.sessions.length) || (match t with
    | .spi => s.vcp.sessions.any (fun x => decide (x.transport = .spi))
    | .udp => s.vcp.sessions.any (fun x => decide (x.transport = .udp ∧ x.assoc = assoc))
    | .pcie => false)

/-- An identifier for a new session: an open value, not 0 and not in use. -/
def newSid (s : State) : Word :=
  let used := fun (x : Word) => decide (x = 0) || s.vcp.sessions.any (fun y => decide (y.sid = x))
  let f := Config.freeWord s.free
  if used f then ((List.range 16).map (fun i => BitVec.ofNat 32 (i + 1))).find? (fun x => !used x) |>.getD 1 else f

/-- The session that SES_OPEN opens (R39, R42). Its header sets the first H; no command of the session has been accepted
yet, so a command with s = H counts as not seen and is accepted as a late arrival (DEDUCED, log entry 117). -/
def openedSession (c : Call) (s : State) : Session :=
  let p := c.payload
  { sid := newSid s, transport := c.transport, assoc := c.assoc, role := u8 p 0
    credential := match c.transport with
      | .udp => BitVec.ofNat 32 (((tfind s.vcp.assocs c.assoc).map (·.credential)).getD 0)
      | _ => w32 p 4
    maxPayload := match c.transport with
      | .udp => u16 p 2
      | _ => 16384
    high := c.seq, seen := 0, cached := [], outstanding := [], last := now s }

/-- SES_OPEN (R37 to R39). -/
def sesOpenBody (c : Call) (s : State) : State × Reply :=
  let p := c.payload
  if p.length < 44 ∨ p.length ≠ 44 + u16 p 40 then no stLength s
  else if c.cap < 12 then no stRspSpace s
  else if !openFieldsOk c.transport p then no stOutOfRange s
  else if ((roleLimit (lifecycle s)).map (fun r => decide (u8 p 0 ≤ r))).getD false = false then no stLifecycle s
  else if sessionsFull c.transport c.assoc s then no stSessionsFull s
  else if !nonceValid s c.transport (slice p 8 32) || !openProof c.transport c.assoc p s then no stAuth s
  else
    let x := openedSession c s
    yes (le32 x.sid.toNat ++ le 1 x.role ++ le 1 (transportCode c.transport) ++ le16 x.maxPayload ++ le32 300)
      (tickFree { s with vcp := { s.vcp with
        sessions := s.vcp.sessions ++ [x]
        nonces := s.vcp.nonces.filter (fun n => decide (n.value ≠ slice p 8 32 ∨ n.transport ≠ c.transport)) } } 1)

/-- SES_CLOSE (R40). -/
def sesCloseBody (c : Call) (s : State) : State × Reply :=
  if c.payload.length ≠ 0 then no stLength s else yes [] (closeSession c.sid s)

/-- SESSION_IDLE_TIMEOUT: 300 s without a command (R40). -/
def idleTimeout (sid : Word) (s : State) : State :=
  closeWhere (fun x => decide (x.sid = sid) && passed s x.last (300 * tickS)) s

/-- DTLS_ASSOCIATION_CLOSE (R40). -/
def closeAssociation (assoc : Nat) (s : State) : State :=
  closeWhere (fun x => decide (x.transport = .udp ∧ x.assoc = assoc))
    { s with vcp := { s.vcp with assocs := tdel s.vcp.assocs assoc } }

/-- SYS_NOP (R54). -/
def sysNopBody (c : Call) (s : State) : State × Reply :=
  if 64 < c.payload.length then no stLength s
  else if c.cap < c.payload.length then no stRspSpace s
  else yes c.payload s

end Sys2Proof.Machine
end

