-- ==== Sys2Proof/Machine/Vault.lean ====
section
/-! DEFINITION. The key vault's commands and events, the life cycle, and the vault's part of start-up (R372 to
R393). -/

namespace Sys2Proof.Machine

/-- Seconds of the real-time counter. -/
def rtcSeconds (s : State) : Nat := s.rtc.ticks / tickS

/-- The Braid lane has no pair key: LINK reads 3 and the lane is held idle (R392). -/
def refuseLink (s : State) : State := brdFlag 0 { s with brd := { s.brd with link := 3 } }

/-- The secret of the pair key. -/
def pairSecret (s : State) : Option Bytes := (braidSlot s).map (fun n => (keySlot s n).secret)

/-- A change of the key tree seen by the Braid lane (R392, R393): a replaced pair key is kept as the previous one, and
the half goes on sending under it for 10 s; a lost one refuses the link. -/
def pairKeyChange (before : Option Bytes) (s : State) : State := match before, pairSecret s with
  | some k, some k' =>
    if k = k' then s
    else { s with key := { s.key with previous := some (k, rtcSeconds s + 600), switchAt := some (now s + 10 * tickS) } }
  | some _, none => if s.brd.record.paired then refuseLink s else s
  | none, _ => s

/-- KEY_STATUS (R383). -/
def keyStatusBody (c : Call) (s : State) : State × Reply :=
  let n := u8 c.payload 0
  let x := keySlot s n
  if c.payload.length ≠ 4 then no stLength s
  else if c.cap < 12 then no stRspSpace s
  else if allZero (slice c.payload 1 3) = false then no stOutOfRange s
  else yes (le 1 x.parent ++ le 1 x.state ++ le16 x.policy ++ le32 (keyGen s n) ++ le32 (keyRecord s n).uses.toNat) s

/-- A policy of R384: exactly one of its bits. -/
def policyOk (p : Nat) : Bool := decide (p = polDerive ∨ p = polWrap ∨ p = polMeter ∨ p = polBraid)

/-- The checks that KEY_DERIVE and KEY_UPDATE share, after those of values and before the policy (R385): a parent that
is EMPTY or revoked, a slot in revocation. -/
def parentCheck (s : State) (slot parent policy : Nat) : Option Half :=
  let x := keySlot s parent
  if x.state = 0 then some stNotFound
  else if x.state = 2 ∨ x.state = 3 ∨ (keySlot s slot).state = 2 then some stKeyRevoked
  else if x.policy ≠ policy then some stKeyPolicy
  else if (keySlot s slot).state = 4 ∨ x.state = 4 then some stDestroyVerify
  else none

/-- Values of R385 in range for a slot and its parent. -/
def treeFits (s : State) (slot parent policy : Nat) : Bool :=
  decide (8 ≤ slot ∧ slot ≤ 255 ∧ (parent = 0 ∨ 8 ≤ parent) ∧ parent ≠ slot) && policyOk policy
    && !isBelow s slot parent && decide (keyDepth s parent < 4) && decide ((keyRecord s slot).generation < 2 ^ 32 - 1)

/-- The journal's entry for a new secret (R387). -/
def newKey (s : State) (slot parent policy : Nat) (secret : Bytes) : KeyJournal :=
  { slot := slot, secret := secret, parent := parent, policy := policy
    generation := (keyRecord s slot).generation + 1, committed := true }

/-- A new secret written through the journal; its parent's operation counts (R383, R387, R393). -/
def putKey (j : KeyJournal) (s : State) : State :=
  pairKeyChange (pairSecret s) (writeSlot j (keyGen s j.parent) (countUse j.parent s))

/-- The derived secret of R385. -/
def derivedSecret (s : State) (slot parent policy : Nat) (info : Bytes) : Bytes :=
  hkdf384 (le32 (keyGen s parent) ++ le 1 slot) (keySlot s parent).secret (ascii "VZD-KEY" ++ le16 policy ++ info)

/-- The change of a key command carried out (R387, R393). -/
def finishKey (j : KeyJournal) (s : State) : State × Reply := yes (le32 j.generation) (putKey j s)

/-- The change of a key command cut off by a power failure: its journal entry stays STAGED, or COMMITTED, and nothing is
answered (R387). -/
def cutKey (committed : Bool) (j : KeyJournal) (s : State) : State × Reply :=
  ({ s with key := { s.key with journal := some { j with committed := committed } } }, .later)

/-- KEY_DERIVE with what becomes of its change (R385, R387). -/
def keyDeriveWith (put : KeyJournal → State → State × Reply) (c : Call) (s : State) : State × Reply :=
  let p := c.payload
  let slot := u8 p 0
  let parent := u8 p 1
  let policy := u16 p 2
  if p.length < 8 ∨ p.length ≠ 8 + u8 p 4 ∨ 64 < u8 p 4 then no stLength s
  else if c.cap < 4 then no stRspSpace s
  else if lifecycle s ≠ 3 then no stLifecycle s
  else if !treeFits s slot parent policy || !allZero (slice p 5 3) then no stOutOfRange s
  else match parentCheck s slot parent polDerive with
    | some st => no st s
    | none => put (newKey s slot parent policy (derivedSecret s slot parent policy (p.drop 8))) s

/-- KEY_DERIVE (R385, R387). -/
def keyDeriveBody : Body := keyDeriveWith finishKey

/-- The secret that a wrapped key opens to; none when its tag fails (R386). -/
def unwrapped (s : State) (p : Bytes) : Option Bytes :=
  let key := (hkdf384 (slice p 8 4 ++ slice p 0 1) (Config.ecdh (keySlot s (u8 p 4)).secret (slice p 12 97))
    (ascii "VZD-WRAP")).take 32
  Config.gcmOpen key (slice p 112 12) (p.take 124) (slice p 124 64)

/-- KEY_UPDATE with what becomes of its change (R386, R387). -/
def keyUpdateWith (put : KeyJournal → State → State × Reply) (c : Call) (s : State) : State × Reply :=
  let p := c.payload
  let slot := u8 p 0
  let wrap := u8 p 4
  let policy := u16 p 6
  if p.length ≠ 188 then no stLength s
  else if c.cap < 4 then no stRspSpace s
  else if lifecycle s ≠ 3 then no stLifecycle s
  else if !treeFits s slot wrap policy || decide (u32 p 8 ≠ keyGen s wrap) || !Config.validKey 1 (slice p 12 97)
      || !allZero (slice p 1 3) || decide (u8 p 5 ≠ 0) || !allZero (slice p 109 3) then no stOutOfRange s
  else match parentCheck s slot wrap polWrap with
    | some st => no st s
    | none => match unwrapped s p with
      | none => no stSignature s
      | some k => put (newKey s slot wrap policy k) s

/-- KEY_UPDATE (R386, R387). -/
def keyUpdateBody : Body := keyUpdateWith finishKey

/-- A slot's operation in flight completes; requests that waited behind it fail with the slot (R388, R389). -/
def operationDone (n : Nat) (s : State) : State :=
  if s.key.inFlight.contains n then
    let t := countUse n { s with key := { s.key with inFlight := s.key.inFlight.erase n } }
    if (keySlot t n).state = 2 then
      overwriteSlot n { t with key := { t.key with inFlight := t.key.inFlight.filter (fun x => decide (x ≠ n)) } }
    else t
  else s

/-- A slot EMPTY, its generation kept. -/
def emptySlot (n : Nat) (s : State) : State :=
  { s with key := { s.key with
    slots := tdel s.key.slots n
    records := tmod s.key.records n {} (fun r => { r with state := 0, parent := 0xFF, policy := 0 }) } }

/-- KEY_DESTROY (R390); `stuck`: the read-back finds a non-zero bit after every overwrite. A pair key lost with it leaves
no previous key (R393). -/
def keyDestroyBody (stuck : Bool) (c : Call) (s : State) : State × Reply :=
  let n := u8 c.payload 0
  if c.payload.length ≠ 4 then no stLength s
  else if n < 8 ∨ allZero (slice c.payload 1 3) = false then no stOutOfRange s
  else if (keySlot s n).state = 0 then no stNotFound s
  else
    let before := pairSecret s
    let t := operationDone n (invalidateBelow n s)
    let u := if stuck then setSlotState n 4 t else emptySlot n t
    let v := if pairSecret u = before then u
      else
        let w := { u with key := { u.key with previous := none, switchAt := none } }
        if (braidSlot w).isNone && w.brd.record.paired then refuseLink w else w
    if stuck then (keyFlag 2 v, .fail stDestroyVerify) else yes [] v

/-- Bytes of a public key by algorithm (R391). -/
def keyBytes (alg : Nat) : Nat := match alg with
  | 1 => 97
  | 2 => 2592
  | _ => 0

/-- The role table with an entry written or cleared. -/
def withRole (n role alg : Nat) (key : Bytes) (s : State) : Table RoleEntry :=
  if alg = 0 then tdel s.key.roles n else tset s.key.roles n { role := role, alg := alg, key := key }

/-- KEY_ROLE_SET (R391). -/
def keyRoleSetBody (c : Call) (s : State) : State × Reply :=
  let p := c.payload
  let n := u8 p 0
  let role := u8 p 1
  let alg := u8 p 2
  let key := p.drop 8
  if p.length < 8 ∨ p.length ≠ 8 + u16 p 4 then no stLength s
  else if 63 < n ∨ ¬(role ≤ 3 ∨ role = 5) ∨ 2 < alg ∨ u16 p 4 ≠ keyBytes alg ∨ u8 p 3 ≠ 0 ∨ u16 p 6 ≠ 0 then
    no stOutOfRange s
  else if decide (alg ≠ 0) && !Config.validKey alg key then no stOutOfRange s
  else if !(withRole n role alg key s).any (fun e => decide (e.2.role = 3)) then no stOutOfRange s
  else yes [] (closeCredential n { s with key := { s.key with roles := withRole n role alg key s } })

/-! ### The life cycle (R374 to R377) -/

/-- The transitions of R374: from, to. -/
def lcMove (life target n : Nat) : Bool := match life, target with
  | 1, 2 => true
  | 2, 3 => true
  | 3, 4 => true
  | 4, 2 => decide (n < 13)
  | 1, 5 => true
  | 4, 5 => true
  | 2, 5 => true
  | 3, 5 => true
  | _, _ => false

/-- The life-cycle key of an algorithm that the active slot's bundle carries, when its digest matches (R375, R399). -/
def bundleKey (s : State) (alg : Nat) : Option Bytes :=
  let k := (if s.sys.bootSlot then s.board.slotB else s.board.slotA).lcKeys
  let key := if alg = 1 then k.take 97 else k.drop 97
  if sha384 key = slice Config.ewkHash (if alg = 1 then 96 else 144) 48 then some key else none

/-- SIGNER as R374 requires for a state; the algorithm agrees with the signer's entry. -/
def signerOk (s : State) (life signer alg : Nat) : Bool := match life with
  | 2 => decide (signer = 63) && (match roleEntry s 63 with
    | some e => decide (e.alg = alg)
    | none => false)
  | 3 => decide (signer ≤ 63) && (match roleEntry s signer with
    | some e => decide (e.role = 3 ∧ e.alg = alg)
    | none => false)
  | _ => decide (signer = 0xFF)

/-- The key that verifies an authorisation. -/
def signerKey (s : State) (signer alg : Nat) : Option Bytes :=
  if signer = 0xFF then bundleKey s alg else (roleEntry s signer).map (·.key)

/-- What the authorisation's signature covers (R375). -/
def lcDigest (s : State) (p : Bytes) : Bytes :=
  sha384 (ascii "VZD-LC" ++ Config.serial ++ le 1 (lifecycle s) ++ slice p 0 1 ++ le 1 s.key.fuses ++ slice p 8 1
    ++ slice p 10 2 ++ slice p 12 (u16 p 10))

/-- The role table after a move to a state (R374). -/
def lcRoles (target alg : Nat) (key : Bytes) (s : State) : Table RoleEntry := match target with
  | 2 => [(63, { role := 3, alg := alg, key := key })]
  | 3 => s.key.roles
  | _ => []

/-- The vault and the role table after a move to a state (R374). -/
def lcEffect (target alg : Nat) (key : Bytes) (s : State) : State :=
  let t := { s with key := { s.key with roles := lcRoles target alg key s } }
  match target with
  | 2 => deriveDevice t
  | 3 => deriveDevice (newOwnerRoot t)
  | 4 => deriveDevice (emptySlots 1 { t with key := { t.key with root := none, previous := none } })
  | _ => zeroise (emptySlots 0 t)

/-- The fuses of a move to a state (R373, R377). -/
def blowFuses (target : Nat) (s : State) : State :=
  { s with key := { s.key with fuses := if target = 5 then 16 else s.key.fuses + 1 } }

/-- A move carried out: fuses, vault, role table; every session closes (R377). -/
def finishMove (target alg : Nat) (key : Bytes) (s : State) : State × Reply :=
  yes [] (closeAllSessions (pairKeyChange (pairSecret s) (keyFlag 3 (lcEffect target alg key (blowFuses target s)))))

/-- A move cut off by a power failure: before its commit point nothing has changed, after it the fuses say the new state
and step 11 of the next BOOT does the rest (R377). -/
def cutMove (committed : Bool) (target alg : Nat) (key : Bytes) (s : State) : State × Reply :=
  if committed then
    let t := blowFuses target s
    ({ t with key := { t.key with rolesNext := some (lcRoles target alg key s) } }, .later)
  else (s, .later)

/-- LC_ADVANCE with what becomes of the move (R374 to R377). -/
def lcAdvanceWith (move : Nat → Nat → Bytes → State → State × Reply) (c : Call) (s : State) : State × Reply :=
  let p := c.payload
  let target := u8 p 0
  let signer := u8 p 4
  let alg := u8 p 5
  let newAlg := u8 p 8
  let newBytes := u16 p 10
  let key := slice p 12 newBytes
  let sig := p.drop (12 + newBytes)
  if p.length < 12 ∨ p.length ≠ 12 + newBytes + u16 p 6 then no stLength s
  else if !lcMove (lifecycle s) target s.key.fuses then no stLifecycle s
  else if !allZero (slice p 1 3) || decide (u8 p 9 ≠ 0) || !signerOk s (lifecycle s) signer alg
      || decide (alg = 0 ∨ 2 < alg ∨ u16 p 6 ≠ sigSize alg ∨ 2 < newAlg ∨ newBytes ≠ keyBytes newAlg)
      || decide (¬(newAlg ≠ 0 ↔ target = 2)) || (decide (newAlg ≠ 0) && !Config.validKey newAlg key) then no stOutOfRange s
  else match signerKey s signer alg with
    | none => no stSignature s
    | some k =>
      if !Config.verifies alg k (lcDigest s p) sig then no stSignature s
      else if target = 3 ∧ s.pmu.vbatMv.toNat < 2700 then no stVbatLow s
      else move target newAlg key s

/-- LC_ADVANCE (R374 to R377). -/
def lcAdvanceBody : Body := lcAdvanceWith finishMove

/-! ### Events -/

/-- PAIR_KEY_SWITCH: 10 s after the change the half sends under the new key (R393). -/
def pairKeySwitch (s : State) : State := match s.key.switchAt with
  | some c => if c ≤ now s then { s with key := { s.key with switchAt := none } } else s
  | none => s

/-- PREVIOUS_PAIR_KEY_EXPIRY (R393). -/
def previousExpiry (s : State) : State := match s.key.previous with
  | some (_, t) => if t ≤ rtcSeconds s then { s with key := { s.key with previous := none } } else s
  | none => s

/-- VAULT_REFRESH: a new mask each second of the real-time counter (R379). -/
def vaultRefresh (s : State) : State :=
  if s.board.vbat && decide (s.key.refreshed < rtcSeconds s) then
    tickFree { s with key := { s.key with mask := Config.freeDword s.free, refreshed := rtcSeconds s } } 1
  else s

/-- The sources that can trip: a disabled loop is not sampled (R380, R381). -/
def tamperSources (s : State) (x : Byte) : Byte := x &&& (0xF0 ||| BitVec.ofNat 8 s.key.tampEn)

/-- The firmware's part after a wipe (R377, R380). -/
def afterWipe (s : State) : State :=
  let t := if lifecycle s = 3 then newOwnerRoot s else s
  deriveDevice t

/-- TAMPER_DETECT (R380). -/
def tamperDetect (x : Byte) (s : State) : State :=
  let src := tamperSources s x
  if !s.board.vbat || decide (src = 0) then s
  else
    let before := pairSecret s
    let t := zeroise { s with key := { s.key with
      tamper := src, tamperAt := rtcSeconds s % 2 ^ 32, mask := 0, scramble := 0 } }
    if s.sys.mode = .vault then { t with key := { t.key with wiped := true } }
    else pairKeyChange before (if pd t 5 then afterWipe (keyFlag 0 t) else keyFlag 0 t)

/-! ### Start-up -/

/-- At each power-on of PD1: a new scramble key and mask (R379). -/
def rescramble (s : State) : State :=
  tickFree { s with key := { s.key with scramble := Config.freeWord s.free, mask := Config.freeDword (s.free + 1) } } 2

/-- The boot ROM's part of the role table in FACTORY and RETURNED: entry 62 (R391). -/
def serviceEntry (s : State) : State :=
  if lifecycle s = 1 ∨ lifecycle s = 4 then
    { s with key := { s.key with roles := tset s.key.roles 62 { role := 4, alg := 1, key := Config.serviceKey } } }
  else s

/-- Step 11: a committed journal entry is completed, a staged one discarded (R387). -/
def completeJournal (s : State) : State := match s.key.journal with
  | none => s
  | some j => if j.committed then keyFlag 5 (pairKeyChange (pairSecret s) (writeSlot j (keyGen s j.parent) s))
    else { s with key := { s.key with journal := none } }

/-- Step 11: the role table of a move that a power failure cut off is written (R377). -/
def completeRoles (s : State) : State := match s.key.rolesNext with
  | none => s
  | some r => serviceEntry { s with key := { s.key with roles := r, rolesNext := none } }

/-- Step 11: the vault agrees with the life-cycle state (R377). -/
def alignVault (s : State) : State :=
  let t := match lifecycle s with
    | 3 => if s.key.root.isNone then newOwnerRoot s else s
    | 5 => zeroise s
    | _ => if s.key.root.isSome then emptySlots 8 { s with key := { s.key with root := none } } else s
  deriveDevice t

/-- The slots left REVOKE_PENDING are overwritten before any function uses them (R389). -/
def finishRevocations (s : State) : State :=
  applyAll (fun n t => if (keySlot t n).state = 2 then overwriteSlot n t else t) (s.key.slots.map (·.1))
    { s with key := { s.key with inFlight := [] } }

/-- The vault's part of step 11 of R73. -/
def vaultBoot (s : State) : State :=
  let t := completeRoles (alignVault (finishRevocations (completeJournal s)))
  if t.key.wiped then keyFlag 0 { t with key := { t.key with wiped := false } } else t

end Sys2Proof.Machine
end

