-- ==== Sys2Proof/Machine/Modes.lean ====
section
/-! DEFINITION. The mode manager: transitions and what each does, the ownership token, the island policy, the start
move (R57 to R77). -/

namespace Sys2Proof.Machine

/-! ### The ownership token (R59, R355) -/

/-- The token changes hands: the flag and its event, the time of the change, the field buses (R328, R352, R370). -/
def tokenChanged (holds : Bool) (s0 : State) : State :=
  let s := noteFront s0
  let t := brdFlag 1 { s with sys := { s.sys with token := holds }, brd := { s.brd with tokenAt := servo s } }
  applyCanRows (settleExcited (if holds then integrateCans t else t))

/-- The half takes the token; what it asked for on OWN_OUT ends; it reads the identity chips (R155). -/
def takeToken (s : State) : State :=
  if s.sys.token then s
  else readChips (tokenChanged true { s with brd := { s.brd with
    requesting := none, takenAt := some (now s), lease := some (now s + 2 * s.brd.record.hbMs * tickMs) } })

/-- The half yields or releases the token; an engaged output-hold latch is released, and its balls go to high impedance
(R300, R355). -/
def yieldToken (s : State) : State :=
  if s.sys.token then
    tokenChanged false (releaseHold { s with brd := { s.brd with lease := none, contention := false } })
  else s

/-- A release by mode entry or fatal error, with its NOTICE (R59, R364). -/
def releaseToken (s : State) : State :=
  if s.brd.record.paired && s.sys.token then yieldToken (sendControl (.notice .release) s) else s

/-- The partner holds the token, by its heartbeats or by OWN_IN. -/
def partnerHas (s : State) : Bool := s.brd.record.paired && (s.board.ownIn || s.brd.partnerHolds)

/-- The half holds the token or may take it (R63, R355). -/
def mayTake (s : State) : Bool := s.sys.token || !s.brd.record.paired || !s.board.ownIn

/-! ### A handover that lapses (R64, R366) -/

/-- PAIR_HANDOVER commands that wait are answered (R366). -/
def answerHandover (st : Half) (s : State) : State :=
  let mine := fun (d : Deferred) => decide (d.opcode = 0x0B03)
  applyAll (fun d t => answer d st [] t) (s.vcp.deferred.filter mine)
    { s with vcp := { s.vcp with deferred := s.vcp.deferred.filter (fun d => !mine d) } }

/-- A handover under way in a mode that has no transition to SHADOW lapses; its command gets ST_TRANSITION, as a request
that lapses does (R63, R64; log entry 128). -/
def lapseHandover (s : State) : State :=
  if s.brd.givingUp then answerHandover stTransition { s with brd := { s.brd with givingUp := false } } else s

/-! ### Entering a mode -/

/-- The jobs that a mode runs, by any trigger (R57, R65). -/
def runsKind (m : Mode) (plan : Bool) : Bool := match m with
  | .shadow | .steer | .hold | .island | .manual => true
  | .safe => !plan
  | _ => false

/-- Jobs of a kind that the mode does not run stop; pending ones go (R65). -/
def stopJobs (m : Mode) (s : State) : State :=
  applyAll (fun p t => if runsKind m (decide (p = 1)) then t else abortWaiting p (abortRunning p t)) [0, 1] s

/-- The modes in which loops drive outputs. -/
def loopsDrive (m : Mode) : Bool := decide (m = .steer ∨ m = .hold ∨ m = .island)

/-- The modes that release the token of a half of a pair (R59). -/
def releases (m : Mode) : Bool := decide (m = .provision ∨ m = .commission ∨ m = .service ∨ m = .dump)

/-- The forecast ring is frozen on entry to ISLAND with FORECAST 1 and runs on after it; the PLAN period changes (R275,
R274). -/
def turnIsland (was m : Mode) (s : State) : State :=
  if decide (was = .island) == decide (m = .island) then s
  else if m = .island then
    primePeriod true { s with pln := { s.pln with
      frozen := repeats (policyWord s), ring := (dropAged s s.pln.ring).map (fun f => { f with days := 0 }) } }
  else primePeriod true { s with pln := { s.pln with frozen := false } }

/-- The System block at the entry to a mode (R60, R61). PREV is the mode just left; during the BOOT of a device reset that
is the mode in force before it, and once that BOOT has ended PREV shows BOOT (DESIGN CHOICE, log entry 127). -/
def stampMode (m : Mode) (cause : Half) (s : State) : State :=
  { s with sys := { s.sys with
    mode := m, prev := s.sys.mode, cause := cause, since := now s, entry := servo s, startMove := false
    manual := if m = .manual then s.sys.manual else none } }

/-- Loops that start while the output-hold latch is engaged go on from the values in force, and the latch is released
(R80, R300; log entry 76); a loop engine that re-initialises keeps it. -/
def releaseToLoops (value : Nat → Option Word) (s : State) : State :=
  if s.out.hold.isNone || !s.lpe.running then s
  else
    let slots := s.lpe.slots.map (fun e => match value e.1 with
      | some v => if e.2.enabled then (e.1, { e.2 with u := v, evaluated := true }) else e
      | none => e)
    releaseHold { s with lpe := { s.lpe with slots := slots } }

/-- One transition (R63): jobs stop, outputs pass over bumplessly or are captured, the token is released, and event 1 is
raised when it is complete. -/
def enterOnce (m : Mode) (cause : Half) (s : State) : State :=
  let was := s.sys.mode
  let t := stopJobs m (stampMode m cause s)
  let t1 := if mCfg was && !mCfg m then abandonCals t else t
  let t2 := if m = .manual then { t1 with out := { t1.out with manual := balls s } } else t1
  let t3 := if loopsDrive m && !loopsDrive was 
    then releaseToLoops (takeoverValue s) (bumpless (takeoverValue s) t2) else t2
  let t4 := turnIsland was m t3
  let t5 := if m = .steer ∨ m = .island then noteEvent 2 t4 else t4
  let t6 := if releases m then releaseToken t5 else t5
  raise 1 (applyCanRows (if loopsDrive m then t6 else lapseHandover t6))

/-- A transition; a half that enters STEER, HOLD, ISLAND or MANUAL while a PLANT trip is latched enters SAFE at once
(R302). -/
def enterMode (m : Mode) (cause : Half) (s : State) : State :=
  let t := enterOnce m cause s
  if mOps m && plantLatched t then enterOnce .safe 0x0005 t else t

/-- TRIP_TO_SAFE: a PLANT latch on the token holder (R63, R302). -/
def tripToSafe (s : State) : State :=
  if s.sys.token && mOps s.sys.mode && plantLatched s then enterMode .safe 0x0005 s else s

/-! ### Configuration and requests -/

/-- The configuration copy in force. -/
def copyInForce (s : State) : Option Memory := match s.cfg.inForce with
  | 1 => some s.cfg.copyA
  | 2 => some s.cfg.copyB
  | _ => none

/-- COMMISSIONED of the copy in force (R75, R416). -/
def commissioned (s : State) : Bool := match copyInForce s with
  | some m => (img16 m 6).testBit 0
  | none => false

/-- A row of R63 whose trigger is a request: role, and whether its condition is met; none for any other pair. -/
def requestRow (s : State) (target : Mode) : Option (Nat × Bool) :=
  let free := !s.sys.fatalSafe
  match s.sys.mode, target with
  | .provision, .commission => some (3, decide (lifecycle s = 3))
  | .commission, .provision | .service, .provision => some (3, true)
  | .commission, .hold | .service, .hold => some (2, commissioned s && mayTake s)
  | .commission, .shadow | .service, .shadow => some (2, commissioned s && partnerHas s)
  | .hold, .commission | .manual, .commission | .shadow, .commission | .service, .commission => some (2, true)
  | .safe, .commission | .safe, .service => if free then some (2, true) else none
  | .steer, .service | .hold, .service | .island, .service | .manual, .service | .shadow, .service
  | .commission, .service => some (2, true)
  | .hold, .steer | .steer, .hold | .island, .steer | .island, .hold | .manual, .steer | .manual, .hold
  | .steer, .manual | .hold, .manual | .island, .manual => some (1, true)
  | .safe, .steer | .safe, .hold | .safe, .manual => if free then some (1, !plantLatched s) else none
  | _, _ => none

/-- A successful request: the token is taken where the half may, MANUAL's control passes to the session (R63, R67). -/
def makeRequest (target : Mode) (sid : Word) (s : State) : State :=
  let t := if target = .hold ∧ s.sys.token = false then takeToken s else s
  enterMode target 0x0004
    (if target = .manual then { t with sys := { t.sys with manual := some sid } } else t)

/-- MODE_REQUEST (R63). -/
def modeRequestBody (c : Call) (s : State) : State × Reply :=
  if c.payload.length ≠ 4 then no stLength s
  else if allZero (slice c.payload 1 3) = false then no stOutOfRange s
  else match modeOf (u8 c.payload 0) with
    | none => no stOutOfRange s
    | some m =>
      if m = s.sys.mode then yes [] s
      else match requestRow s m with
        | none => no stTransition s
        | some (role, cond) =>
          if c.role < role then no stRole s
          else if !cond then no stTransition s
          else yes [] (makeRequest m c.sid s)

/-- MODE_GET (R61). -/
def modeGetBody (c : Call) (s : State) : State × Reply :=
  if c.payload.length ≠ 0 then no stLength s
  else if c.cap < 20 then no stRspSpace s
  else yes (le 1 (modeCode s.sys.mode) ++ le 1 (modeCode s.sys.prev) ++ le16 s.sys.cause.toNat ++ tsBytes s.sys.entry) s

/-! ### The island policy (R70 to R72) -/

/-- A policy that may be used. -/
def policyValid (s : State) : Bool := match s.policy with
  | some p => !p.stale
  | none => false

/-- ISLAND_POLICY_STALE (R72): the policy is kept and never used; an ISLAND in force ends in HOLD. -/
def policyStale (s : State) : State :=
  let t := { s with policy := s.policy.map (fun p => { p with stale := true }) }
  if s.sys.mode = .island then enterMode .hold 0x000B (raise 4 t) else t

/-- The digest of R71. -/
def policyDigest (w : Word) (s : State) (signature : Bytes) : Bytes := sha384 (le32 w.toNat ++ s.pln.recordP ++ signature)

/-- Fields of a policy word in range (R70). -/
def policyWordOk (w : Word) : Bool := decide (1 ≤ planMin w ∧ planMin w ≤ 60 ∧ 1 ≤ limitH w ∧ w.toNat < 2 ^ 18)

/-- A policy is installed; the holder mirrors it (R71, R359). -/
def installPolicy (w : Word) (hash : Bytes) (s : State) : State :=
  let t := { s with policy := some { word := w, hash := hash, approved := legal s, stale := false } }
  mirror untagged (.pairStatus { noUpdate with policy := some (w, hash) })
    (if t.sys.mode = .island then primePeriod true t else t)

/-- ISLAND_POLICY_SET (R70, R71). -/
def islandPolicySetBody (c : Call) (s : State) : State × Reply :=
  let w := w32 c.payload 0
  let hash := c.payload.drop 4
  if c.payload.length ≠ 52 then no stLength s
  else if !policyWordOk w then no stOutOfRange s
  else match residentCourse s 1 with
    | none => no stNotFound s
    | some r => if policyDigest w s (hSignature r.image) ≠ hash then no stOutOfRange s
      else yes [] (installPolicy w hash s)

/-- ISLAND_POLICY_GET (R70). -/
def islandPolicyGetBody (c : Call) (s : State) : State × Reply :=
  if c.payload.length ≠ 0 then no stLength s
  else if c.cap < 68 then no stRspSpace s
  else match s.policy with
    | none => no stNotFound s
    | some p => yes (le32 (p.word.toNat + 2 ^ 31 * bit p.stale) ++ p.hash ++ tsBytes p.approved) s

/-! ### Timers -/

/-- CONTACT_TIMER_EXPIRY (R63, R66). -/
def contactExpiry (s : State) : State := match s.sys.contact with
  | none => s
  | some c =>
    if !passed s c (s.sys.islandAfter * tickS) || !s.sys.mode.live then s
    else
      let t := raise 3 { s with sys := { s.sys with contact := none } }
      match s.sys.mode with
      | .steer => enterMode (if policyValid s then .island else .hold) 0x0009 t
      | .manual => enterMode .hold 0x0009 t
      | _ => t

/-- ISLAND_LIMIT_EXPIRY (R72). -/
def islandLimit (s : State) : State :=
  if s.sys.mode = .island ∧ passed s s.sys.since (limitH (policyWord s) * 3600 * tickS) = true then
    enterMode .hold 0x000A (raise 4 s)
  else s

/-- A partition holds a committed course, resident or pending. -/
def committed (s : State) (p : Nat) : Bool := (coursesOf s p).resident.isSome || (coursesOf s p).coming.isSome

/-- START_MOVE (R76). -/
def startMoveNow (s : State) : State :=
  if !s.sys.startMove || decide (s.sys.mode ≠ .hold) || !committed s 0 || !committed s 1 || !fitNow s then s
  else if s.sys.contact.isSome then enterMode .steer 0x000C s
  else if policyValid s then enterMode .island 0x000C s
  else s

/-! ### Course swap (R211) -/

/-- With no course resident before, the policy was approved for another course than the new one when its hash does not
name the new signature (R71, R72; log entry 38). -/
def policyFromOther (s : State) (new : Course) : Bool := match s.policy with
  | some q => decide (policyDigest q.word s (hSignature new.image) ≠ q.hash)
  | none => false

/-- COURSE_SWAP: the pending course becomes resident; the holder sends it on (R367). -/
def courseSwap (p : Nat) (s : State) : State :=
  if !swapDue s p then s
  else match (coursesOf s p).coming with
    | none => s
    | some new =>
      let old := residentCourse s p
      let t := modCourses p (fun x => { x with resident := some new, coming := none }) s
      let t1 := { t with slv := { t.slv with kept := match tfind t.slv.kept p with
        | some k => tset t.slv.kept p { k with replaced := true }
        | none => t.slv.kept } }
      let t2 := mirror (jobTag p (lastStarted s p)) (.bulk (.course p (memLoad new.image 0 new.bytes))) (raise 44 t1)
      let stale := decide (p = 1) && (match old with
        | some o => decide (hSignature o.image ≠ hSignature new.image)
        | none => policyFromOther s new)
      let t3 := if stale then policyStale t2 else t2
      if p = 1 then noteEvent 1 t3 else t3

end Sys2Proof.Machine
end

