-- ==== Sys2Proof/Machine/Braid.lean ====
section
/-! DEFINITION. The Braid lane and the ownership token of a pair: training, sequence numbers and acknowledgement,
heartbeats and health, takeover, handover, and the commands PAIR_STATUS, PAIR_SET and PAIR_HANDOVER (R352 to R366). -/

namespace Sys2Proof.Machine

/-! ### The configuration in force, as heartbeats report it (R360) -/

/-- The records of a configuration copy: offset, TYPE and payload of each, as far as they fit (R417). -/
def recordsFrom : Nat → Nat → Bytes → List (Nat × Nat × Bytes)
  | 0, _, _ => []
  | fuel + 1, o, b =>
    if b.length < 4 then []
    else
      let n := u16 b 2
      (o, u16 b 0, slice b 4 n) :: recordsFrom fuel (o + 4 + (n + 3) / 4 * 4) (b.drop (4 + (n + 3) / 4 * 4))

/-- LENGTH and the record bytes of a copy (R416). -/
def copyLength (m : Memory) : Nat := img32 m 12
def copyRecords (m : Memory) : Bytes := memLoad m 128 (copyLength m)

/-- The opcode of PAIR_SET, as a record TYPE. -/
def typePair : Nat := 0x0B02

/-- The configuration digest: SHA-384, first 16 bytes, over the records in force less the pair record (R360, log entry
70). -/
def configDigest (s : State) : Bytes :=
  let rs := match copyInForce s with
    | some m => recordsFrom (copyLength m) 0 (copyRecords m)
    | none => []
  (sha384 ((rs.filter (fun r => decide (r.2.1 ≠ typePair))).flatMap
    (fun r => le16 r.2.1 ++ le16 r.2.2.length ++ r.2.2))).take 16

/-- SEQUENCE of the copy in force; 0 when none is (R360). -/
def configSequence (s : State) : Nat := match copyInForce s with
  | some m => img32 m 8
  | none => 0

/-- The resident signature of a partition; zeros without a course. -/
def partSignature (s : State) (p : Nat) : Bytes := match residentCourse s p with
  | some c => hSignature c.image
  | none => zeros 16

/-! ### The lane (R356 to R358) -/

/-- The window of frames that may wait for an acknowledgement. -/
def laneWindow : Nat := 256

/-- A waiting frame is put on the lane. -/
def putFrame (u : Unacked) (s : State) : State :=
  useBraidKey (emit (.braid u.seq s.brd.seqIn u.tagged u.frame) { s with brd := { s.brd with
    tx := s.brd.tx + 1
    unacked := s.brd.unacked.map (fun x => if x.seq = u.seq then { x with sentAt := some (now s) } else x) } })

/-- An acknowledgement frees the frames up to it; those that waited for the window go out (R358). -/
def takeAck (ack : Word) (s : State) : State :=
  let old := s.brd.unacked
  let rest := old.filter (fun u => decide (2 ^ 31 ≤ (ack - u.seq).toNat))
  let sent := min laneWindow old.length - (old.length - rest.length)
  applyAll putFrame ((rest.take laneWindow).drop sent) { s with brd := { s.brd with unacked := rest } }

/-- The link comes up or leaves: what the halves knew of each other's mode goes with it. -/
def linkLost (link : Nat) (s : State) : State :=
  let t := { s with brd := { s.brd with link := link, pmode := none } }
  if s.brd.link = 2 then brdFlag 0 t else t

/-- The next bulk transfer of a rebuild is asked for, unless one is being asked for (R363). -/
def askNext (s : State) : State := match s.brd.rebuild with
  | [] => s
  | i :: _ =>
    if s.brd.unacked.any (fun u => decide (u.frame = .request i)) then s else sendSequenced untagged (.request i) s

/-- Waiting frames numbered again from 1 for a lane that has trained anew (log entry 71). -/
def renumber (l : List Unacked) : List Unacked :=
  (numbered l).map (fun e => { e.2 with seq := BitVec.ofNat 32 (e.1 + 1) })

/-- The link is up: both directions number their frames from 1, and what was not acknowledged goes again. -/
def linkUpNow (s : State) : State :=
  let l := renumber s.brd.unacked
  let t := { s with brd := { s.brd with
    link := 2, unacked := l, seqOut := BitVec.ofNat 32 l.length, seqIn := 0, discarded := (0, 0) } }
  askNext (applyAll putFrame (l.take laneWindow) t)

/-- BRAID_LINK_TRAIN: the lane trains and the halves exchange HELLO (R356, R392). -/
def linkTrain (hello : Option Hello) (s : State) : State :=
  if !s.brd.record.paired || !pd s 11 || reinitRuns s 7 0 then s
  else if (braidSlot s).isNone then refuseLink s
  else match hello with
    | none => linkLost 0 s
    | some h =>
      let t := useBraidKey (emit (.braid 0 0 untagged (.hello s.brd.record.pairId s.brd.record.side))
        { s with brd := { s.brd with tx := s.brd.tx + 1, rx := s.brd.rx + 1 } })
      if h.pairId.toNat = s.brd.record.pairId ∧ h.side ≠ s.brd.record.side then linkUpNow t else refuseLink t

/-- BRAID_LANE_DOWN (R370). -/
def laneDown (s : State) : State := if s.brd.link = 0 then s else linkLost 0 s

/-- The lane retrains (R352, R356, R358). -/
def retrain (s : State) : State := linkLost 1 s

/-- BRAID_FRAME_DISCARD: a frame discarded whole; the same sequenced frame a third time in a row retrains the lane
(R358). -/
def frameDiscard (seq : Word) (s : State) : State :=
  if !linkUp s then s
  else
    let n := if seq ≠ 0 ∧ s.brd.discarded.1 = seq then s.brd.discarded.2 + 1 else 1
    let t := { s with brd := { s.brd with
      bad := s.brd.bad + 1, discarded := if seq = 0 then s.brd.discarded else (seq, n) } }
    if seq ≠ 0 ∧ 3 ≤ n then retrain { t with brd := { t.brd with discarded := (0, 0) } } else t

/-- BRAID_RESEND_TIMEOUT: 100 us after the first frame not acknowledged was sent, the frames from it on go again
(R358). -/
def resend (s : State) : State :=
  if !linkUp s || !everyDue s (s.brd.unacked.head?.bind (·.sentAt)) (100 * tickUs) then s
  else
    let l := s.brd.unacked.take laneWindow
    let t := applyAll putFrame l s
    { t with brd := { t.brd with resent := t.brd.resent + BitVec.ofNat 32 l.length } }

/-- A frame is accepted: a control frame, or the next sequenced frame in order (R358). -/
def inOrder (h : BraidHead) (s : State) : Bool := linkUp s && decide (h.seq = 0 ∨ h.seq = s.brd.seqIn + 1)

/-- A frame from the partner: the link and the order are judged, its acknowledgement is taken, its content applied, and
a sequenced frame is acknowledged by an ACK-only frame unless another frame has carried the acknowledgement (R358,
R359). -/
def receive (h : BraidHead) (f : State → State) (s : State) : State :=
  if !inOrder h s then s
  else
    let t := takeAck h.ack (useBraidKey { s with brd := { s.brd with
      rx := s.brd.rx + 1, seqIn := if h.seq = 0 then s.brd.seqIn else h.seq, discarded := (0, 0) } })
    let u := f t
    if h.seq ≠ 0 ∧ u.brd.tx = t.brd.tx then sendControl .ackOnly u else u

/-! ### Health (R362) -/

/-- A condition that has lasted more than a time. -/
def lasted (s : State) (since : Option Nat) (ticks : Nat) : Bool := match since with
  | some c => decide (c + ticks < now s)
  | none => false

/-- A course of a partition is still arriving. -/
def courseArriving (s : State) (p : Nat) : Bool :=
  (coursesOf s p).coming.isSome || s.brd.rebuild.contains (if p = 0 then 0 else 3)

/-- The last two compares on a partition were mismatches. -/
def twoMismatches (s : State) (p : Nat) : Bool := decide (tget s.brd.lastCompares p (false, false) = (true, true))

/-- A heartbeat has been missed in the last second. -/
def missedLately (s : State) : Bool := match s.brd.lastMiss with
  | some c => decide (now s < c + tickS)
  | none => false

/-- Ledger number in force; 0 without one. -/
def ledgerInForce (s : State) : Word := ((s.pln.ledger).map (·.number)).getD 0

/-- The health bits of this half; bits 2 to 4 are set while no heartbeat has told what the holder has (log entry 72). -/
def healthOf (s : State) : BitVec 10 :=
  if s.sys.mode ≠ .shadow then 1
  else
    let differs := fun (f : Beat → Bool) => match s.brd.beat with
      | some b => f b
      | none => true
    BitVec.ofNat 10 (
      2 * bit (!linkUp s || missedLately s)
      + 4 * bit (differs (fun b => decide (b.cfgDigest ≠ configDigest s)))
      + 8 * bit (differs (fun b => decide (b.sig0 ≠ partSignature s 0)) || courseArriving s 0)
      + 16 * bit (differs (fun b => decide (b.sig1 ≠ partSignature s 1)) || courseArriving s 1)
      + 32 * bit (decide (s.brd.partnerLedger ≠ ledgerInForce s) && lasted s s.brd.ledgerDiffers tickS)
      + 64 * bit (s.brd.rebuild.contains 1)
      + 128 * bit (twoMismatches s 0 || twoMismatches s 1)
      + 256 * bit (plantLatched s)
      + 512 * bit (lasted s s.brd.offsetHigh (10 * tickS)))

/-- The half in SHADOW judges its health (R362). -/
def judgeHealth (s : State) : State := { s with brd := { s.brd with health := healthOf s } }

/-- The partner is a healthy SHADOW by its heartbeats (R362, R366). -/
def partnerHealthy (s : State) : Bool :=
  linkUp s && s.brd.beat.isSome && decide (s.brd.pmode = some (modeCode .shadow)) && decide (s.brd.partnerHealth = 0)

/-! ### Heartbeats (R360, R364) -/

/-- A lease is valid (R355, R365). -/
def leaseValid (s : State) : Bool := match s.brd.lease with
  | some c => decide (now s < c)
  | none => false

/-- The 72 bytes of a heartbeat (R360). -/
def beatBytes (s : State) : Bytes :=
  le 1 (modeCode s.sys.mode) ++ le 1 (bit s.sys.token)
    ++ le 1 (bit (leaseValid s) + 2 * bit (decide (s.upd.stage = 5)) + 4 * bit (plantLatched s)) ++ [0]
    ++ le32 s.sys.firmware.toNat ++ le32 (ledgerInForce s).toNat ++ le32 (max (s.pln.next - 1) s.brd.topJob)
    ++ le32 (if s.sys.mode = .shadow then s.brd.health.toNat else 0) ++ le32 (configSequence s) ++ configDigest s
    ++ partSignature s 0 ++ partSignature s 1

/-- HEARTBEAT_SEND: every HB_MS the half judges its health if it is in SHADOW, refreshes its lease if it holds, and
sends (R355, R359, R362). -/
def heartbeatSend (s : State) : State :=
  let due := everyDue s s.brd.beatSent (s.brd.record.hbMs * tickMs)
  if !s.brd.record.paired || !pd s 11 || !s.sys.mode.live || !due then s
  else
    let t := judgeHealth { s with brd := { s.brd with
      beatSent := some (now s)
      lease := if s.sys.token then some (now s + 2 * s.brd.record.hbMs * tickMs) else s.brd.lease } }
    sendControl (.heartbeat (beatBytes t)) t

/-! ### Takeover (R364, R355, R68, R69) -/

/-- A job ends because the half takes over; a pending one goes with it. -/
def abortPartner (s : State) : State :=
  applyAll (fun p t => match runningOf t p with
    | some r => if r.job.trigger = .partner then abortRunning p t else t
    | none => t) [0, 1] s

/-- After a handover the jobs go on as this half's own (R366). -/
def ownJobs (s : State) : State :=
  applyAll (fun p t => modRunning p (fun r =>
    { r with job := { r.job with trigger := if r.job.trigger = .partner then .run else r.job.trigger } }) t) [0, 1] s

/-- The mode of a half that takes the token (R69). -/
def takenMode (s : State) : Mode :=
  if plantLatched s then .safe
  else if committed s 0 && committed s 1 && fitOwn s && (policyValid s || s.sys.contact.isSome)
      && decide (s.brd.former = modeCode .steer ∨ s.brd.former = modeCode .island) then .steer
  else .hold

/-- The value that each slot goes on from: the partner's last mirrored or handed-over one (R68). -/
def takenValue (s : State) (k : Nat) : Option Word := match s.brd.handover with
  | some (outs, slots) => match (primaryOutput s k).bind (tfind outs) with
    | some v => if v = sHighZ then (tfind slots k).map (·.u) else some v
    | none => (tfind slots k).map (·.u)
  | none => (tfind s.brd.snapshot k).map (·.u)

/-- New jobs are numbered from one above the highest number seen (R364). -/
def jobsAbove (s : State) : State :=
  let top := max (s.pln.next - 1) s.brd.topJob
  { s with pln := { s.pln with next := if 2 ^ 32 - 1 ≤ top then 1 else top + 1 } }

/-- TAKEOVER: the half takes the token and enters its mode (R364, R366). -/
def takeover (s : State) : State :=
  let cause := s.brd.taking
  let t := jobsAbove (takeToken s)
  let t1 := if cause = 0x0008 then ownJobs t else abortPartner t
  let t2 := if s.brd.handover.isNone then restoreSnapshot s.brd.snapshot t1 else t1
  let t3 := enterMode (takenMode s) cause t2
  let t4 := if loopsDrive t3.sys.mode then bumpless (takenValue s) t3 else t3
  answerHandover stOk { t4 with brd := { t4.brd with handover := none, announced := none, partnerHolds := false } }

/-- REQUEST goes out on OWN_OUT; with OWN_IN already RELEASED the half takes at once (R364). -/
def sendRequest (cause : Half) (s : State) : State :=
  if !s.brd.record.paired || s.sys.token || decide (s.sys.mode ≠ .shadow) then s
  else if !s.board.ownIn then takeover { s with brd := { s.brd with taking := cause } }
  else { s with brd := { s.brd with requesting := some (s.brd.requesting.getD (now s)), taking := cause } }

/-- What a half in SHADOW counts misses from: the last heartbeat or the entry to SHADOW, never before the end of a
Braid re-initialisation (R364). -/
def missBase (s : State) : Nat := max (max (s.brd.lastBeat.getD s.sys.since) s.sys.since) s.brd.quietUntil

/-- A REQUEST is due at this miss (R364): at the MISS-th, or once an announced reset's 30 s have passed. -/
def requestDue (s : State) (missed : Nat) : Bool := match s.brd.announced with
  | some c => decide (c ≤ now s)
  | none => decide (missed = s.brd.record.miss)

/-- HEARTBEAT_MISS (R364). -/
def heartbeatMiss (s : State) : State :=
  let n := s.brd.missed + 1
  if !s.brd.record.paired || decide (s.sys.mode ≠ .shadow)
      || !passed s (missBase s) (n * s.brd.record.hbMs * tickMs) then s
  else
    let t := { s with brd := { s.brd with missed := n, hbMiss := s.brd.hbMiss + 1, lastMiss := some (now s) } }
    if requestDue t n then sendRequest 0x0007 { t with brd := { t.brd with announced := none } } else t

/-- SPLIT: heartbeats say that the holder holds while OWN_IN reads RELEASED (R364). -/
def judgeSplit (s : State) : State :=
  if s.brd.record.paired && decide (s.sys.mode = .shadow) && !s.sys.token && !s.board.ownIn && s.brd.partnerHolds
      && s.brd.requesting.isNone && decide (s.brd.missed = 0) then brdFlag 3 s
  else s

/-- Since when a condition has held. -/
def since (s : State) (holds : Bool) (c : Option Nat) : Option Nat := if holds then some (c.getD (now s)) else none

/-- HEARTBEAT: what a half learns from its partner's (R360, R362, R364, R370). -/
def heartbeat (b : Beat) (s : State) : State :=
  let lost := s.brd.beat.isSome && decide (s.brd.partnerHealth = 0 ∧ b.health ≠ 0)
  let t := { s with brd := { s.brd with
    beat := some b, lastBeat := some (now s), missed := 0, pmode := some b.mode, partnerHolds := b.holds
    partnerHealth := b.health, partnerFirmware := b.firmware, partnerLedger := b.ledger, offset := b.offsetNs
    offsetHigh := since s (decide (100000 < b.offsetNs.natAbs)) s.brd.offsetHigh
    ledgerDiffers := since s (decide (b.ledger ≠ ledgerInForce s)) s.brd.ledgerDiffers
    topJob := max s.brd.topJob b.topJob.toNat, announced := none
    former := if b.holds then b.mode else s.brd.former } }
  judgeSplit (if lost then brdFlag 5 t else t)

/-- REQUEST_UNANSWERED: after 1 ms the REQUEST stops (R364). -/
def requestUnanswered (s : State) : State := match s.brd.requesting with
  | some c => if passed s c tickMs then brdFlag 3 { s with brd := { s.brd with requesting := none } } else s
  | none => s

/-! ### The token line (R354, R355, R365, R366) -/

/-- A running job of the former holder goes on as a PARTNER job, and waiting ones go (R366, log entry 73). -/
def partnerJobs (s : State) : State :=
  applyAll (fun p t => abortWaiting p (match runningOf t p with
    | some r => if r.phase = 1 then abortRunning p t
      else setRunning p { r with job := { r.job with trigger := .partner }, holderDone := r.iterations } t
    | none => t)) [0, 1] s

/-- Step 4 of a handover: the holder releases the token and enters SHADOW (R366). -/
def giveUp (s : State) : State :=
  enterMode .shadow 0x0008 (partnerJobs (yieldToken { s with brd := { s.brd with givingUp := false } }))

/-- OWN_IN_REQUEST: ignored while the lease is valid, but for a handover under way (R355, R366). -/
def ownInRequest (s0 : State) : State :=
  let s := partnerExcites false s0
  let t := { s with brd := { s.brd with requested := true } }
  if !s.brd.record.paired || !s.sys.token then t
  else if s.brd.givingUp && loopsDrive s.sys.mode then giveUp t
  else if !leaseValid s then yieldToken t
  else t

/-- LEASE_LAPSE: the lease ends at its time; a REQUEST that stands is then answered (R355). -/
def leaseLapse (s : State) : State := match s.brd.lease with
  | none => s
  | some c =>
    if now s < c || !s.brd.record.paired then s
    else
      let t := { s with brd := { s.brd with lease := none } }
      if s.brd.requested && s.sys.token then yieldToken t else t

/-- This half sent HOLD less than 2 us ago and does not drive its balls yet (R355). -/
def taking (s : State) : Bool := s.sys.token && !everyDue s s.brd.takenAt (2 * tickUs)

/-- OWN_IN_HOLD: within 2 us of this half's own take side B returns to RELEASED and to SHADOW (log entry 140) and side A
goes on; later it is contention, which side B ends; without the token it says that the partner has taken (R355, R365). -/
def ownInHold (s0 : State) : State :=
  let s := partnerExcites true s0
  let t := { s with brd := { s.brd with requested := false } }
  if !s.brd.record.paired then t
  else if taking s then (if s.brd.record.side then enterMode .shadow 0x0007 (yieldToken t) else t)
  else if s.sys.token then
    let u := brdFlag 4 t
    if s.brd.record.side then yieldToken u else { u with brd := { u.brd with contention := true } }
  else if s0.board.ownIn then t
  else answerHandover stOk t

/-- OWN_IN_RELEASED: a requesting half takes the token and drives; otherwise the line may be split (R355, R364). -/
def ownInReleased (s0 : State) : State :=
  let s := partnerExcites false s0
  let t := { s with brd := { s.brd with requested := false, contention := false } }
  if !s.brd.record.paired then t
  else if s.brd.requesting.isSome && !s.sys.token && decide (s.sys.mode = .shadow) then takeover t
  else judgeSplit t

/-! ### Handover (R366) -/

/-- Steps 1 and 2: no job starts, the loops stop, NOTICE carries outputs and integrators. Only STEER, HOLD and ISLAND have
a transition to SHADOW (R63). -/
def startHandover (s : State) : State :=
  if s.brd.givingUp then s
  else sendControl (.notice (.handover (balls s) (snapshotNow s))) { s with brd := { s.brd with givingUp := true } }

/-- NOTICE (R359, R364, R366). -/
def notice (k : NoticeKind) (s : State) : State := match k with
  | .handover outs slots =>
    if s.sys.token then (if partnerHealthy s && loopsDrive s.sys.mode then startHandover s else s)
    else if s.sys.mode = .shadow then
      sendRequest 0x0008 (restoreSnapshot slots { s with brd := { s.brd with handover := some (outs, slots) } })
    else s
  | .release => sendRequest 0x0007 s
  | .pwrfail => sendRequest 0x0007 s
  | .announcedReset => { s with brd := { s.brd with announced := some (now s + 30 * tickS) } }
  | .braidReinit => { s with brd := { s.brd with quietUntil := now s + 500 * tickMs } }

/-- PAIR_HANDOVER: answered when the token has passed (R366). On the half in SHADOW it gets ST_MODE while the holder's
heartbeats tell a mode that has no transition to SHADOW (R63; DESIGN CHOICE, log entry 141). -/
def pairHandoverBody (c : Call) (s : State) : State × Reply :=
  if c.payload.length ≠ 4 then no stLength s
  else if u32 c.payload 0 ≠ 0x5A560B03 then no stOutOfRange s
  else if !s.brd.record.paired then no stMode s
  else if s.sys.token then
    if partnerHealthy s then (startHandover (defer c 0x0B03 0 0 s), .later) else no stPartner s
  else if decide (s.sys.mode = .shadow) && partnerHas s && decide (healthOf s = 0) then
    if s.brd.former ≠ modeCode .steer ∧ s.brd.former ≠ modeCode .hold ∧ s.brd.former ≠ modeCode .island then no stMode s
    else (sendControl (.notice (.handover [] [])) (defer c 0x0B03 0 0 s), .later)
  else no stPartner s

/-! ### The pair record (R352, R353) -/

/-- A pair record as its 16 bytes. -/
def pairBytes (r : PairRecord) : Bytes :=
  le 1 (bit r.paired) ++ le 1 (bit r.side) ++ le 1 r.hbMs ++ le 1 r.miss ++ le32 r.pairId ++ le16 r.bulkMbs
    ++ le16 r.actWaitS ++ le32 0

/-- A pair record in range. -/
def pairOk (b : Bytes) : Bool :=
  decide (u8 b 0 ≤ 1 ∧ u8 b 1 ≤ 1 ∧ 1 ≤ u8 b 2 ∧ u8 b 2 ≤ 20 ∧ 2 ≤ u8 b 3 ∧ u8 b 3 ≤ 10
    ∧ (u8 b 0 = 1 ↔ u32 b 4 ≠ 0) ∧ 100 ≤ u16 b 8 ∧ u16 b 8 ≤ 1000 ∧ 60 ≤ u16 b 10 ∧ u16 b 10 ≤ 3600 ∧ u32 b 12 = 0)

/-- The pair record of its 16 bytes. -/
def pairOf (b : Bytes) : PairRecord :=
  { paired := decide (u8 b 0 = 1), side := decide (u8 b 1 = 1), hbMs := u8 b 2, miss := u8 b 3, pairId := u32 b 4,
    bulkMbs := u16 b 8, actWaitS := u16 b 10 }

/-- The lane follows a new record: it trains in a pair; else it is powered down and the half holds the token (R352,
R353). -/
def applyPair (s : State) : State := if s.brd.record.paired then retrain s else takeToken (linkLost 0 s)

/-- PAIR_SET (R352); at step 9 of R73 the record is only kept, since the lane and the token follow at later steps. -/
def pairSetBody (c : Call) (s : State) : State × Reply :=
  if c.payload.length ≠ 16 then no stLength s
  else if !pairOk c.payload then no stOutOfRange s
  else
    let t := { s with brd := { s.brd with record := pairOf c.payload } }
    yes [] (if s.sys.mode = .boot then t else applyPair t)

/-- TOKEN of PAIR_STATUS and BRD_STAT (R352). -/
def tokenCode (s : State) : Nat :=
  if s.brd.contention then 3 else if s.sys.token then 1 else if partnerHas s then 2 else 0

/-- The health bits of the half in SHADOW (R352). -/
def shadowHealth (s : State) : Nat := if s.sys.mode = .shadow then s.brd.health.toNat else s.brd.partnerHealth.toNat

/-- Bulk bytes of the frames that wait on this half. -/
def bulkToSend (s : State) : Nat := (s.brd.unacked.map (fun u => match u.frame with
  | .bulk (.course _ image) => image.length
  | _ => 0)).sum

/-- Bulk bytes still to send or receive; what a rebuild has still to bring is a free value (log entry 1). -/
def bulkBytes (s : State) : Word :=
  if s.brd.rebuild.isEmpty then BitVec.ofNat 32 (bulkToSend s) else Config.freeWord s.free

/-- PAIR_STATUS (R352). -/
def pairStatusBody (c : Call) (s : State) : State × Reply :=
  if c.payload.length ≠ 0 then no stLength s
  else if c.cap < 64 then no stRspSpace s
  else yes (pairBytes s.brd.record ++ le 1 s.brd.link ++ le 1 (tokenCode s) ++ le 1 (s.brd.pmode.getD 255)
    ++ le 1 (min s.brd.missed 255) ++ le32 (shadowHealth s) ++ le32 s.brd.partnerFirmware.toNat
    ++ le32 s.brd.partnerLedger.toNat ++ le32 (bulkBytes s).toNat ++ le32 s.brd.mismatches.toNat
    ++ tsBytes s.brd.tokenAt ++ le32 (twos 32 (clampI (-2147483648) 2147483647 s.brd.offset)) ++ le32 0)
    (if s.brd.rebuild.isEmpty then s else tickFree s 1)

/-- FUNC_REINIT of Braid begins: NOTICE, counters at 0, the lane down until it retrains (R79, R356, R371). -/
def reinitBraid (s : State) : State :=
  let t := sendControl (.notice .braidReinit) s
  let u := { t with brd := { t.brd with
    tx := 0, rx := 0, resent := 0, bad := 0, hbMiss := 0 } }
  if s.brd.record.paired then linkLost 0 u else u

end Sys2Proof.Machine
end

