-- ==== Sys2Proof/Machine/Mirror.lean ====
section
/-! DEFINITION. What the halves of a pair mirror, and the compare on shadow: points, declarations, integrators, pair
status, ledgers, delta lists, courses, recorder records, PARTNER jobs and their compares (R304, R361, R363, R367, R368,
R433). -/

namespace Sys2Proof.Machine

/-- A mirrored item is applied by a half in SHADOW (R361). -/
def asShadow (f : State → State) (s : State) : State := if s.sys.mode = .shadow then f s else s

/-! ### Points and declarations (R192, R361) -/

/-- A mirrored record applied to its point: a host write as written, a report when its REPORT_SEQ is newer than the
record's, which is 0 before any (R185, R192). -/
def deltaPoint (s : State) (r : MirrorPoint) (p : Point) : Point :=
  let t := tsOfNs s r.sample
  match r.hostPin with
  | some pin => { updatePoint 2 r.value r.quality t (now s) r.reportSeq p with pinned := pin }
  | none =>
    if !seqNewer r.reportSeq p.reportSeq then p
    else if p.pinned then
      { p with sample := t, arrival := now s, updates := p.updates + 1, reportSeq := r.reportSeq, updated := true }
    else updatePoint 3 r.value r.quality t (now s) r.reportSeq p

/-- Point deltas applied; device-own points are never mirrored (R192). -/
def applyPointDelta (rs : List MirrorPoint) (s : State) : State :=
  withPoints (fun t => (rs.filter (fun r => decide (r.ident / 65536 ≠ 0))).foldl
    (fun a r => modPoint r.ident (deltaPoint s r) a) t) s

/-- A PTS_DECLARE payload applied whole (R361). -/
def applyDeclare (payload : Bytes) (s : State) : State :=
  match declareAll s.pts.points (rowsOf payload 4 16 (u32 payload 0)) with
  | some t => withPoints (fun _ => t) s
  | none => s

/-- PTS_DECLARE, mirrored as it executes (R361). -/
def ptsDeclareMirror (c : Call) (s : State) : State × Reply :=
  let r := ptsDeclareBody c s
  match r.2 with
  | .ok d => (mirror untagged (.declare c.payload) r.1, .ok d)
  | x => (r.1, x)

/-- The records of the points that differ between two states; `pin` names the points that a host write set. -/
def changedPoints (before after : State) (pin : Nat → Option Bool) : List MirrorPoint :=
  (after.pts.points.filter (fun e => decide (e.2.ident / 65536 ≠ 0 ∧ tfind before.pts.points e.1 ≠ some e.2))).map
    (fun e => mirrorPoint (pin e.2.ident) e.2)

/-- PTS_WRITE, its writes mirrored with their PIN (R359, R361). -/
def ptsWriteMirror (c : Call) (s : State) : State × Reply :=
  let r := ptsWriteBody c s
  match r.2 with
  | .ok d => (sendPoints (changedPoints s r.1 (fun i => (findPoint r.1 i).map (·.pinned))) r.1, .ok d)
  | x => (r.1, x)

/-- POINT_ENGINE_APPLY, what it changed mirrored (R361). -/
def engineApplyMirror (s : State) : State :=
  let t := engineApply s
  sendPoints (changedPoints s t (fun _ => none)) t

/-! ### Pair status (R304, R359) -/

/-- PARTNER_TRIP_RELEASE: the latches that the holder released clear here too when their inputs have been inactive
(R304). -/
def partnerRelease (r : TripRelease) (s : State) : State :=
  clearLatches ((trips r.mask).foldl (fun m n => if mayRelease s n then bset m n else m) 0) r.credential s

/-- A call that stands for a mirrored command. -/
def mirrorCall (payload : Bytes) : Call :=
  { payload := payload, limit := 0, cap := 0, dmaOut := false, transport := .spi, assoc := 0, seq := 0, sid := 0,
    role := 3, credential := 0, tag := 0, rspBuf := 0, flags := 0, config := true }

/-- PAIR_STATUS_FRAME (R361). -/
def applyUpdate (u : PairUpdate) (s : State) : State :=
  let t := match u.release with
    | some r => applyCanRows (partnerRelease r s)
    | none => s
  let t1 := applyAll (fun (e : Nat × Nat) x => setIdentity e.1 e.2 x) u.identity t
  let t2 := match u.policy with
    | some (w, h) => { t1 with policy := some { word := w, hash := h, approved := legal t1, stale := false } }
    | none => t1
  let t3 := applyAll (fun b x => (jobSetBody policyStale (mirrorCall b) x).1) u.jobs t2
  match u.part with
  | some e => { t3 with slv := { t3.slv with reaches := e } }
  | none => t3

/-! ### Delta lists (R367) -/

/-- A delta list applied to the resident course it was made for (R216). -/
def applyList (payload : Bytes) (s : State) : State := match residentCourse s (u8 payload 0) with
  | some r => if slice payload 4 16 = hSignature r.image then recordForecast payload (applyDeltas payload s) else s
  | none => s

/-- The partition's job has not made its start copy. -/
def notStarted (r : Running) : Bool := decide (r.phase = 1 ∨ r.phase = 10)

/-- The partition waits: a course is pending, or a job that has not made its start copy. -/
def partWaits (s : State) (p : Nat) : Bool :=
  (coursesOf s p).coming.isSome || (match runningOf s p with
    | some r => notStarted r
    | none => false)

/-- A frame's tag names the partition's job that has not started. -/
def tagWaits (s : State) (p : Nat) (tagged : Half) : Bool :=
  (coursesOf s p).coming.isSome || (match runningOf s p with
    | some r => notStarted r && decide (tagged = jobTag p r.job.number)
    | none => false)

/-- DELTA_FRAME: applied after the start copy of the job that its tag names (R367). -/
def deltaFrame (tagged : Half) (payload : Bytes) (s : State) : State :=
  if tagWaits s (u8 payload 0) tagged then { s with brd := { s.brd with held := s.brd.held ++ [payload] } }
  else applyList payload s

/-- Held delta lists of a partition are applied once nothing holds them back (R367). -/
def flushHeld (p : Nat) (s : State) : State :=
  if partWaits s p then s
  else
    let mine := fun (b : Bytes) => decide (u8 b 0 = p)
    applyAll applyList (s.brd.held.filter mine)
      { s with brd := { s.brd with held := s.brd.held.filter (fun b => !mine b) } }

/-- What held delta lists wait for has come, on either partition. -/
def flushBoth (s : State) : State := if s.brd.held.isEmpty then s else flushHeld 1 (flushHeld 0 s)

/-! ### Compares (R368) -/

/-- The compare on a job; the state with one changed, or with a new one among the last 256. -/
def compareOf (s : State) (n : Nat) : Option Compare := s.brd.compares.find? (fun x => decide (x.job = n))
def modCompare (n : Nat) (f : Compare → Compare) (s : State) : State :=
  { s with brd := { s.brd with compares := s.brd.compares.map (fun x => if x.job = n then f x else x) } }
def addCompare (x : Compare) (s : State) : State :=
  let l := s.brd.compares.filter (fun y => decide (y.job ≠ x.job)) ++ [x]
  { s with brd := { s.brd with compares := l.drop (l.length - 256) } }

/-- The outcome of a compare: not comparable when the start, course, estimate or firmware differed or the shadow ended
before the holder's count; else by the hashes (R368). -/
def outcomeOf (s : State) (x : Compare) (k : Nat) : Nat :=
  if x.differs ∨ x.iterations < k ∨ s.brd.partnerFirmware ≠ s.sys.firmware then 3
  else if x.own = x.partner then 1 else 2

/-- A mismatch: its flag, its count, its record (R368). -/
def noteMismatch (x : Compare) (s : State) : State :=
  report 98 x.job 0 x.job (brdFlag 2 { s with brd := { s.brd with mismatches := s.brd.mismatches + 1 } })

/-- An outcome is noted: the last two of the partition, and a mismatch (R362, R368). -/
def noteOutcome (x : Compare) (o : Nat) (s : State) : State :=
  let t := modCompare x.job (fun y => { y with outcome := o }) { s with brd := { s.brd with
    lastCompares := tset s.brd.lastCompares x.partition
      (decide (o = 2), (tget s.brd.lastCompares x.partition (false, false)).1) } }
  if o = 2 then noteMismatch x t else t

/-- The kept iterate is asked for after a mismatch, or when the start differed (R368). -/
def asksIterate (x : Compare) (o : Nat) : Bool := decide (o = 2) || (decide (o = 3) && x.startDiffers)

/-- The shadow compares once it has its own hash and the holder's count, and sends COMPARE (R368). -/
def judgeCompare (n : Nat) (s : State) : State := match compareOf s n with
  | none => s
  | some x => match x.count with
    | none => s
    | some k =>
      if x.own.isEmpty || decide (x.outcome ≠ 0) then s
      else
        let o := outcomeOf s x k
        let t := sendSequenced (jobTag x.partition n) (.compare (BitVec.ofNat 32 n) x.own o) (noteOutcome x o s)
        if asksIterate x o then sendSequenced untagged (.request (4 + x.partition)) t else t

/-- COMPARE on the holder (R368). -/
def compareFrame (n : Nat) (hash : Bytes) (o : Nat) (s : State) : State := match compareOf s n with
  | none => s
  | some x => if x.outcome ≠ 0 then s else noteOutcome x o (modCompare n (fun y => { y with partner := hash }) s)

/-- PAIR_COMPARE (R368). -/
def pairCompareBody (c : Call) (s : State) : State × Reply :=
  if c.payload.length ≠ 4 then no stLength s
  else if c.cap < 100 then no stRspSpace s
  else if !s.brd.record.paired then no stNotFound s
  else match compareOf s (u32 c.payload 0) with
    | none => no stNotFound s
    | some x =>
      yes ((x.own ++ zeros 48).take 48 ++ (x.partner ++ zeros 48).take 48 ++ le 1 x.outcome ++ zeros 3) s

/-! ### Jobs of the two halves (R367) -/

/-- The holder's compare opens when its JOB_START goes out. -/
def openCompare (p : Nat) (before : State) (s : State) : State := match runningOf before p, runningOf s p with
  | some r, some q =>
    if r.phase = 1 ∧ q.phase ≠ 1 ∧ q.job.trigger ≠ .partner ∧ mirrors s = true then
      addCompare { job := q.job.number, partition := p } s
    else s
  | _, _ => s

/-- JOB_START, with what a pair adds: the compare opens, held delta lists follow the start copy. -/
def jobStarted (p : Nat) (s : State) : State := flushHeld p (openCompare p s (startJob p s))

/-- WORK_AREA_AVAILABLE, with what a pair adds. -/
def workStarted (p : Nat) (s : State) : State := flushHeld p (workAvailable p s)

/-- The half's own hash enters its compare; the shadow judges it. -/
def ownHash (p : Nat) (r : Running) (s : State) : State := match tfind s.slv.kept p with
  | none => s
  | some k =>
    if k.job ≠ r.job.number then s
    else
      let t := modCompare k.job (fun x =>
        let st := decide (r.startHash ≠ x.holderStart)
        { x with
          own := k.hash, iterations := r.iterations, startDiffers := st
          differs := st || (r.job.plan && decide (r.estimate ≠ x.holderEstimate))
            || (match s.brd.beat with
              | some b => decide ((if p = 0 then b.sig0 else b.sig1) ≠ k.signature)
              | none => true) }) s
      if r.job.trigger = .partner then judgeCompare k.job t else t

/-- JOB_END, with what a pair adds. -/
def jobEnded (p : Nat) (s : State) : State := match runningOf s p with
  | none => s
  | some r =>
    let t := endJob p s
    if (runningOf t p).isSome then t else flushHeld p (ownHash p r t)

/-- JOB_START_FRAME: the PARTNER job is created, ready for its start; one that still runs ends first (R367). -/
def partnerStart (j : JobStartInfo) (s : State) : State :=
  let p := partitionOf j.plan
  let t := jobEnded p (abortRunning p s)
  let n := j.number.toNat
  let u := { t with brd := { t.brd with topJob := max t.brd.topJob n } }
  addCompare { job := n, partition := p, holderStart := j.startHash, holderEstimate := j.estimate.toNat }
    (setRunning p
      { job := { number := n, plan := j.plan, trigger := .partner, deadline := j.deadline,
                 t0 := referenceTime s j.plan (servoNs s) }
        record := j.record, phase := 1, wide := j.wide, estimate := j.estimate.toNat } u)

/-- A PARTNER job whose tag a frame carries, changed (R367). -/
def modPartner (tagged : Half) (f : Running → Running) (s : State) : State :=
  applyAll (fun p t => modRunning p (fun r =>
    if r.job.trigger = .partner ∧ tagged = jobTag p r.job.number then f r else r) t) [0, 1] s

/-- GATHER_FRAME (R367). -/
def partnerGather (tagged : Half) (values : List (Dword × Nat)) (s : State) : State :=
  modPartner tagged (fun r => { r with holderGather := some values }) s

/-- ITER_DONE (R367). -/
def partnerIter (tagged : Half) (j : Nat) (s : State) : State :=
  modPartner tagged (fun r => { r with holderDone := max r.holderDone j }) s

/-- The shadow stops at the holder's count: at once when it has done as many iterations, or one more (R367). -/
def stopAtCount (s : State) (k : Nat) (r : Running) : Running :=
  let r1 := { r with holderEnd := some k }
  if r.ended.isSome ∨ r.phase ≠ 3 then r1
  else if r.iterations = k ∧ 0 < k then
    { settlePivots r1 with ended := some ((testsOf s r1 r.iterate k).getD stIterLimit), phase := 8 }
  else if r.iterations = k + 1 then
    { settlePivots r1 with
      iterations := k, iterate := r.prior
      ended := some ((if k = 0 then none else testsOf s r1 r.prior k).getD stIterLimit), phase := 8 }
  else r1

/-- JOB_END_FRAME: the holder's count and hash (R367, R368); a shadow whose job is gone without a hash cannot be
compared. -/
def partnerEnd (tagged : Half) (k : Nat) (hash : Bytes) (s : State) : State :=
  let t := applyAll (fun p u => match runningOf s p, runningOf u p with
    | some r, some q => if r.ended.isNone && q.ended.isSome then discardPools p r u else u
    | _, _ => u) [0, 1] (modPartner tagged (stopAtCount s k) s)
  match t.brd.compares.reverse.find? (fun x => decide (jobTag x.partition x.job = tagged)) with
  | none => t
  | some x =>
    let gone := decide ((runningOf t x.partition).map (fun r => r.job.number) ≠ some x.job) && x.own.isEmpty
    judgeCompare x.job (modCompare x.job (fun y => { y with
      partner := hash, count := some k, own := if gone then zeros 48 else y.own
      differs := y.differs || gone }) t)

/-! ### Ledger and estimate (R361) -/

/-- The holder's estimate is kept with the one before it. -/
def adoptEstimate (e : Estimate) (s : State) : State :=
  { s with pln := { s.pln with earlier := s.pln.estimate, estimate := some e } }

/-- LEDGER_FRAME: a ledger put in force under its own number, or an estimate kept (R269, R361). -/
def applyLedger (l : LedgerFrame) (s : State) : State := match l with
  | .ledger x => putLedger x s
  | .estimate e => adoptEstimate e s

/-! ### Recorder records (R433) -/

/-- RECORD_FRAME: each record through the intake, PARTNER set in its CYCLE. -/
def applyRecords (rs : List PartnerRecord) (s : State) : State :=
  applyAll (fun (r : PartnerRecord) t => submit
    { record := { index := 0, opsec := r.opsec.toNat, cycle := (r.cycle ||| 0x02000000).toNat, code := r.code.toNat,
                  subject := r.subject.toNat, legalS := r.legalS.toNat, legalNs := r.legalNs.toNat,
                  repeats := r.repeats.toNat, aux := r.aux.toNat, data := r.data.toNat }
      partner := true, begun := false } t) rs s

/-! ### Bulk transfers (R363, R368) -/

/-- A transfer of a rebuild has ended; the next is asked for. -/
def transferEnded (i : Nat) (s : State) : State :=
  askNext { s with brd := { s.brd with rebuild := s.brd.rebuild.filter (fun x => decide (x ≠ i)) } }

/-- BULK_TRANSFER_DONE (R361, R363, R368). -/
def bulkDone (item : BulkItem) (s : State) : State := match item with
  | .course p image =>
    let c : Course := { bytes := image.length, image := memStore [] 0 image }
    transferEnded (if p = 0 then 0 else 3)
      (if image.isEmpty then s else modCourses p (fun x => { x with coming := some c }) s)
  | .points records declarations =>
    transferEnded 1 (applyPointDelta records (applyAll applyDeclare declarations s))
  | .ledgers e l =>
    let t := match e with
      | some x => adoptEstimate x s
      | none => s
    transferEnded 2 (match l with
      | some x => putLedger x t
      | none => t)
  | .iterate p signature job status t0 hash vectors =>
    let v := fun i => vectors.getD i []
    let k : Kept :=
      { iterate := { v := v 0, zl := v 1, zu := v 2, d := v 3 }, signature := signature, job := job.toNat
        status := status, t0 := t0, hash := hash, replaced := false }
    transferEnded (4 + p)
      (if vectors.isEmpty then s else { s with slv := { s.slv with kept := tset s.slv.kept p k } })

end Sys2Proof.Machine
end

