-- ==== Sys2Proof/Machine/Network.lean ====
section
/-! DEFINITION. The Ethernet ports: received frames, service binding, PRP duplicate discard and supervision, link
changes (R20 to R24, R449). -/

namespace Sys2Proof.Machine

/-- An Ethernet port's record, and the ports with one changed. -/
def netPort (s : State) (p : Nat) : NetPort := tget s.net.ports p {}
def modNet (p : Nat) (f : NetPort → NetPort) (s : State) : State :=
  { s with net := { s.net with ports := tmod s.net.ports p {} f } }

/-- A service's frames are accepted on a port: 0 VCP, 1 UPP, 2 PTP where a port runs it (R24). -/
def netBound (s : State) (p service : Nat) : Bool := match service with
  | 0 => s.net.bindVcp.testBit p
  | 1 => s.net.bindUpp.testBit p
  | 2 => (ptpPort s p).record.enable
  | _ => false

/-- Sequences of a source are held for 400 ms, IEC 62439-3's entry forget time (log entry 80). -/
def prpForget : Nat := 400 * tickMs

/-- Duplicate discard of a pair for a frame with a redundancy control trailer: the state after it, and whether the frame
is a duplicate (R22, R23). -/
def prpJudge (q source seq : Nat) (s : State) : State × Bool :=
  let x := tget s.net.prp q {}
  let put := fun (y : PrpPair) (t : State) => { t with net := { t.net with prp := tset t.net.prp q y } }
  let fresh := ((tfind x.table source).getD []).filter (fun e => decide (now s < e.2 + prpForget))
  if (tfind x.table source).isSome then
    if fresh.any (fun e => decide (e.1 = seq)) then (s, true)
    else (put { x with table := tset x.table source (fresh ++ [(seq, now s)]) } s, false)
  else if x.table.length < 4096 then (put { x with table := tset x.table source [(seq, now s)] } s, false)
  else
    let t := put { x with overflow := x.overflow + 1, fullSeen := true } s
    (if x.fullSeen then t else raise 40 t, false)

/-- A frame passed on to its service. -/
def deliver (service : Nat) (s : State) : State :=
  { s with net := { s.net with delivered := tmod s.net.delivered service 0 (· + 1) } }

/-- NET_FRAME_RECEIVED (R21 to R24, R348). A frame with more than one IEEE 802.1Q tag is not one that the MAC accepts: it
is dropped and counted like the others (DEDUCED, log entry 119). -/
def netFrame (f : NetFrame) (s : State) : State :=
  let p := f.port
  if !pd s 8 || decide (7 < p) || !(netPort s p).up || reinitRuns s 5 p then s
  else if f.bytes < 64 ∨ 9216 < f.bytes ∨ f.fcsOk = false ∨ 1 < f.tags then modNet p (fun x => { x with rxDrop := x.rxDrop + 1 }) s
  else if f.pause then modNet p (fun x => { x with pause := x.pause + 1 }) s
  else if f.service ≤ 2 ∧ netBound s p f.service = false then
    modNet p (fun x => { x with unbound := x.unbound + 1 }) s
  else match f.rct with
    | none => deliver f.service s
    | some seq =>
      if f.service = 2 ∨ (prpPartner s p).isNone then deliver f.service s
      else
        let r := prpJudge (p / 2) f.source seq s
        if r.2 then r.1 else deliver f.service r.1

/-- PRP_SUPERVISION: every 2,000 ms (R22). -/
def prpSupervise (q : Nat) (s : State) : State :=
  let x := tget s.net.prp q {}
  let due := everyDue s x.supervised (2000 * tickMs)
  if !pd s 8 || decide (1 < q) || !s.net.prpOn.testBit q || !due then s
  else sendFrame (2 * q) <| emit (.prpSupervision q) { s with net := { s.net with
    prp := tset s.net.prp q { x with supervised := some (now s) } } }

/-- SGMII_LINK_CHANGE: the link of a port in SGMII form, its speed from in-band status (R20, R347). -/
def sgmiiChange (p : Nat) (up : Bool) (speed : Nat) (s : State) : State :=
  if !pd s 8 || decide (7 < p) || !(netPort s p).sgmii || reinitRuns s 5 p then s
  else ptpLink p true up speed (modNet p (fun x => { x with up := up, speed := min speed 2 }) s)

/-- ETHERNET_LINK_CHANGE: the link of a port of fixed speed (R20, R449). -/
def ethernetChange (p : Nat) (up : Bool) (s : State) : State :=
  if !pd s 8 || decide (7 < p) || (netPort s p).sgmii || reinitRuns s 5 p then s
  else modNet p (fun x => { x with up := up, speed := 3 }) s

/-- A port starts: a configured form takes effect, the link comes up anew (R20, R79). -/
def reinitNet (p : Nat) (s : State) : State :=
  modNet p (fun x => { x with sgmii := decide (4 ≤ p) && s.net.formSgmii.testBit p, up := false, speed := 0 }) s

/-- FUNC_REINIT of an Ethernet port begins: its link is down, frames in flight are lost (R79). -/
def portDown (p : Nat) (s : State) : State := modNet p (fun x => { x with up := false, speed := 0 }) s

end Sys2Proof.Machine
end

