-- ==== Sys2Proof/Machine/ConfigCopies.lean ====
section
/-! DEFINITION. The configuration copies: their form, the records and fields, CFG_READ, CFG_STAGE, CFG_COMMIT, and the
load at step 9 of start-up (R416 to R422). -/

namespace Sys2Proof.Machine

/-- A bit of UPD_FLAGS is raised: events 112 to 119 (R423). -/
def updFlag (b : Nat) (s : State) : State :=
  if s.upd.flags.getLsbD b then s else raise (112 + b) { s with upd := { s.upd with flags := bset s.upd.flags b } }

/-! ### The copies (R397, R416) -/

/-- Bytes that a copy's records may take. -/
def recordRoom : Nat := 524160

/-- MAGIC, VERSION, FLAGS and LENGTH as R416 shows them. -/
def copyHeaderOk (m : Memory) : Bool :=
  decide (img32 m 0 = 0x47465A56 ∧ img16 m 4 = 1 ∧ img16 m 6 ≤ 1 ∧ img32 m 12 ≤ recordRoom ∧ img32 m 12 % 4 = 0)

/-- The HMAC of a copy under slot 2 (R392, R416). -/
def copyMac (s : State) (m : Memory) : Bytes := hmac384 (keySlot s 2).secret (memLoad m 0 64 ++ copyRecords m)

/-- A copy is valid: header, CRC and HMAC, with slot 2 usable (R392, R416). -/
def copyValid (s : State) (m : Memory) : Bool :=
  copyHeaderOk m && decide ((crc32c (copyRecords m)).toNat = img32 m 16) && decide ((keySlot s 2).state = 1)
    && decide (memLoad m 64 48 = copyMac s m)

/-- Of two sequences the first is newer: by R397, where equality and half the range count for the first copy. -/
def seqAhead (a b : Nat) : Bool :=
  let d := (a + 2 ^ 32 - b) % 2 ^ 32
  decide (d ≤ 2 ^ 31)

/-- The newer valid copy: 1 CFG_A, 2 CFG_B, 0 none (R397). -/
def newerCopy (s : State) : Nat :=
  let a := copyValid s s.cfg.copyA
  let b := copyValid s s.cfg.copyB
  if a && b then (if seqAhead (img32 s.cfg.copyA 8) (img32 s.cfg.copyB 8) then 1 else 2)
  else if a then 1 else if b then 2 else 0

/-- A copy by its number. -/
def copyOf (s : State) (n : Nat) : Memory := if n = 2 then s.cfg.copyB else s.cfg.copyA

/-- The copy that a write goes to: the one not in force; with none in force the invalid one, or CFG_A (R397, R421). -/
def writeTarget (s : State) : Nat := match s.cfg.inForce with
  | 1 => 2
  | 2 => 1
  | _ => if copyValid s s.cfg.copyA && !copyValid s s.cfg.copyB then 2
    else if copyValid s s.cfg.copyA && copyValid s s.cfg.copyB then 3 - newerCopy s else 1

/-- One above the higher valid sequence, or 1 (R397). -/
def nextSequence (s : State) : Nat := match newerCopy s with
  | 0 => 1
  | n => (img32 (copyOf s n) 8 + 1) % 2 ^ 32

/-! ### Records and fields (R417, R418) -/

/-- The opcodes whose payloads are records, with their bodies; LOOP_ENABLE sets the slot's state in any mode. -/
def recordBody (stale : State → State) (s : State) : Nat → Option Body
  | 0x0201 => some adcChanSetBody
  | 0x0202 => some adcSeqSetBody
  | 0x0204 => some adcCalSetBody
  | 0x0303 => some (mtrChanSetBody (meterSlotOk s))
  | 0x0304 => some mtrTcompSetBody
  | 0x0306 => some mtrPulseSetBody
  | 0x0405 => some ptsUnitSetBody
  | 0x0601 => some (jobSetBody stale)
  | 0x0606 => some partSetBody
  | 0x0701 => some loopSetBody
  | 0x0702 => some loopGainSetBody
  | 0x0704 => some loopEnableBody
  | 0x0802 => some outBindBody
  | 0x0803 => some slcSafeSetBody
  | 0x0901 => some canChanSetBody
  | 0x0902 => some canObjSetBody
  | 0x0A03 => some timPtpSetBody
  | 0x0A04 => some timServoSetBody
  | 0x0B02 => some pairSetBody
  | _ => none

/-- A bit of a mask set to a value 0 or 1. -/
def maskBit (m i v : Nat) : Nat := if m.testBit i then (if v = 0 then m - 2 ^ i else m) else m + v * 2 ^ i

/-- A trip's enable changes; from the instant a disabled trip is not active its inactive time runs (R299, R303). -/
def setTripEnable (n : Nat) (on : Bool) (s : State) : State :=
  let was := tripActive s n
  let t := { s with slc := { s.slc with enable := bput s.slc.enable n on } }
  if was && !tripActive t n then { t with slc := { t.slc with inactive := tset t.slc.inactive n (now t) } } else t

/-- A trip's polarity changes. -/
def setTripPolarity (n : Nat) (high : Bool) (s : State) : State :=
  let was := tripActive s n
  let t := { s with slc := { s.slc with polarity := bput s.slc.polarity n high } }
  if was && !tripActive t n then { t with slc := { t.slc with inactive := tset t.slc.inactive n (now t) } } else t

/-- A FIELD record's id, index and value in range (R299, R418). -/
def fieldOk (s : State) (id i v : Nat) : Bool := match id with
  | 1 => decide (i = 0 ∧ v ≤ 1)
  | 2 => decide (i = 0 ∧ 10 ≤ v ∧ v ≤ 3600)
  | 3 => decide (i = 0 ∧ v ≤ 100)
  | 4 => decide (i = 0 ∧ 1 ≤ v ∧ v ≤ 60)
  | 5 => decide (i = 0 ∧ v ≤ 15)
  | 6 => decide (i = 0 ∧ 60 ≤ v ∧ v ≤ 3600)
  | 7 | 8 | 9 => decide (i ≤ 31 ∧ v ≤ 1)
  | 10 => decide (i ≤ 127)
  | 11 => decide (i = 0 ∧ v ≤ 10000)
  | 12 => decide (i ≤ 31 ∧ 400 ≤ v ∧ v ≤ 40000000)
  | 13 | 14 => decide (i ≤ 63 ∧ v ≤ 1)
  | 15 => decide (4 ≤ i ∧ i ≤ 7 ∧ v ≤ 1)
  | 16 => decide (i ≤ 1 ∧ v ≤ 1) && (decide (v = 0)
      || ((ptpPort s (2 * i)).record.prp && (ptpPort s (2 * i + 1)).record.prp))
  | 17 => decide (i ≤ 1 ∧ v ≤ 255)
  | _ => false

/-- A FIELD record's value takes effect (R418); the vault takes TAMP_EN at step 9 of R73 alone (R381). -/
def setField (id i v : Nat) (s : State) : State := match id with
  | 1 => { s with sys := { s.sys with startSteer := decide (v = 0) } }
  | 2 => { s with sys := { s.sys with islandAfter := v } }
  | 3 => { s with pmu := { s.pmu with fabLinger := v } }
  | 4 => { s with pts := { s.pts with missLimit := v } }
  | 5 => if s.sys.mode = .boot then { s with key := { s.key with tampEn := v } } else s
  | 6 => { s with cfg := { s.cfg with confirmS := v } }
  | 7 => setTripEnable i (decide (v = 1)) s
  | 8 => setTripPolarity i (decide (v = 1)) s
  | 9 => { s with slc := { s.slc with locals := bput s.slc.locals i (decide (v = 1)) } }
  | 10 => { s with slc := { s.slc with masks := tset s.slc.masks i (BitVec.ofNat 32 v) } }
  | 11 => { s with slc := { s.slc with releaseMs := v } }
  | 12 => { s with out := { s.out with pwmPeriod := tset s.out.pwmPeriod i v } }
  | 13 => { s with out := { s.out with gpioDir := bput s.out.gpioDir i (decide (v = 1)) } }
  | 14 => { s with out := { s.out with gpioDrive := bput s.out.gpioDrive i (decide (v = 1)) } }
  | 15 => { s with net := { s.net with formSgmii := maskBit s.net.formSgmii i v } }
  | 16 => { s with net := { s.net with prpOn := maskBit s.net.prpOn i v } }
  | 17 => { s with net := { s.net with
      bindVcp := if i = 0 then v else s.net.bindVcp, bindUpp := if i = 1 then v else s.net.bindUpp } }
  | _ => s

/-- A call that applies a record. -/
def recordCall (payload : Bytes) : Call := { mirrorCall payload with limit := 268435456, cap := 268435456 }

/-- One record applied as its command would be: the state after it, or the status that refuses it. -/
def applyCopyRecord (stale : State → State) (type : Nat) (b : Bytes) (s : State) : State × Half :=
  if type = 0xFF01 then
    if b.length ≠ 8 then (s, stLength)
    else if fieldOk s (u16 b 0) (u16 b 2) (u32 b 4) then (setField (u16 b 0) (u16 b 2) (u32 b 4) s, stOk)
    else (s, stOutOfRange)
  else if type = 0xFF02 then
    if b.length < 1 ∨ 8192 < b.length then (s, stLength) else ({ s with cfg := { s.cfg with chain := b } }, stOk)
  else match recordBody stale s type with
    | none => (s, stCfgInvalid)
    | some body =>
      let r := body (recordCall b) s
      match r.2 with
      | .ok _ => (r.1, stOk)
      | .refuse st => (s, st)
      | .fail st => (s, st)
      | _ => (s, stCfgInvalid)

/-- The record that stands at the front of the bytes is whole: BYTES fits and its padding is zero (R417). -/
def recordWhole (b : Bytes) : Bool :=
  let n := u16 b 2
  decide (4 ≤ b.length ∧ 4 + (n + 3) / 4 * 4 ≤ b.length) && allZero (slice b (4 + n) ((n + 3) / 4 * 4 - n))

/-- Records applied in order; the state, or the status and the offset of the first that is refused (R420, R421). -/
def applyAllRecords (stale : State → State) : Nat → Nat → Bytes → State → Except (Half × Nat) State
  | 0, o, b, s => if b.isEmpty then .ok s else .error (stCfgInvalid, o)
  | fuel + 1, o, b, s =>
    if b.isEmpty then .ok s
    else if !recordWhole b then .error (stCfgInvalid, o)
    else
      let n := 4 + (u16 b 2 + 3) / 4 * 4
      let r := applyCopyRecord stale (u16 b 0) (slice b 4 (u16 b 2)) s
      if r.2 ≠ stOk then .error (r.2, o) else applyAllRecords stale fuel (o + n) (b.drop n) r.1

/-- What follows the records: a trip left active by a changed field latches, and the field-bus rows are judged again
(R299). -/
def settleFields (s : State) : State := applyCanRows (tripToSafe (latchActive s))

/-- The records of a copy applied. -/
def applyCopy (stale : State → State) (m : Memory) (s : State) : Except (Half × Nat) State :=
  match applyAllRecords stale (copyLength m + 1) 0 (copyRecords m) s with
  | .ok t => .ok (settleFields (returnToLoops s t))
  | .error e => .error e

/-! ### The load at step 9 of R73 (R420) -/

/-- Configuration that the device reset does not restart returns to its factory values: the trip fields, the safe
values, 2.0, and TAMP_EN (R297, R299, R381). -/
def factoryFields (s : State) : State :=
  let d : Slc := {}
  { s with slc := { s.slc with
    safe := d.safe, enable := d.enable, polarity := d.polarity, locals := d.locals, masks := d.masks
    releaseMs := d.releaseMs }
           key := { s.key with tampEn := 15 } }

/-- Step 9 is one change of the trip fields: a trip's inactive time runs on unless its input was active before and is not
after (R303). -/
def keepInactive (before s : State) : State :=
  { s with slc := { s.slc with inactive := (List.range 32).foldl (fun m n =>
      if tripActive before n && !tripActive s n then tset m n (now s) else m) before.slc.inactive } }

/-- A copy tried at BOOT: its records over factory values. -/
def tryCopy (n : Nat) (base : State) : Option State :=
  match applyCopy (fun t => t) (copyOf base n) base with
  | .ok t => some { t with cfg := { t.cfg with inForce := n } }
  | .error _ => none

/-- A copy that was refused at BOOT (R420). -/
def copyBad (s : State) : State := updFlag 7 s

/-- Step 9 of R73: the newer valid copy, the other one when a record is refused, or factory values. -/
def loadConfig (s : State) : State :=
  let base := factoryFields { s with cfg := { s.cfg with inForce := 0 } }
  keepInactive s (match newerCopy s with
  | 0 => settleFields base
  | n => match tryCopy n base with
    | some t => t
    | none =>
      let bad := copyBad base
      if copyValid s (copyOf s (3 - n)) then match tryCopy (3 - n) bad with
        | some t => t
        | none => settleFields bad
      else settleFields bad)

/-- The staging area at the end of BOOT and after a commit: the copy in force, or zeros (R421). -/
def restage (s : State) : State := { s with cfg := { s.cfg with staging := (copyInForce s).getD [] } }

/-! ### The commands (R421, R422) -/

/-- CFG_READ (R422). -/
def cfgReadBody (c : Call) (s : State) : State × Reply :=
  let n := u8 c.payload 0
  let count := u16 c.payload 2
  let off := u32 c.payload 4
  let m := if n = 2 then copyInForce s else some (copyOf s (n + 1))
  if c.payload.length ≠ 8 then no stLength s
  else if count = 0 ∨ 16380 < count then no stReadCount s
  else if c.cap < 4 + count then no stRspSpace s
  else if 2 < n ∨ u8 c.payload 1 ≠ 0 then no stOutOfRange s
  else match m with
    | none => no stNotFound s
    | some m =>
      if img32 m 0 ≠ 0x47465A56 then no stNotFound s
      else if 128 + img32 m 12 < off + count then no stOutOfRange s
      else yes (le32 (img32 m 8) ++ memLoad m off count) s

/-- CFG_STAGE (R421). -/
def cfgStageBody (c : Call) (s : State) : State × Reply :=
  let off := u32 c.payload 0
  let data := c.payload.drop 4
  if c.payload.length < 5 ∨ 16384 < c.payload.length then no stLength s
  else if 524288 < off + data.length then no stOutOfRange s
  else yes [] { s with cfg := { s.cfg with staging := memStore s.cfg.staging off data } }

/-- The copy that a commit writes: the staged header and records, with SEQUENCE, CRC, firmware version and HMAC (R416). -/
def committedCopy (s : State) : Memory :=
  let g := s.cfg.staging
  let records := copyRecords g
  let head := memLoad g 0 8 ++ le32 (nextSequence s) ++ memLoad g 12 4 ++ le32 (crc32c records).toNat
    ++ le32 s.sys.firmware.toNat ++ zeros 40
  memStore [] 0 (head ++ hmac384 (keySlot s 2).secret (head ++ records) ++ zeros 16 ++ records)

/-- A copy written. -/
def putCopy (n : Nat) (m : Memory) (s : State) : State :=
  { s with cfg := { s.cfg with
    copyA := if n = 1 then m else s.cfg.copyA, copyB := if n = 2 then m else s.cfg.copyB } }

/-- Steps 2 to 5 of CFG_COMMIT; a read-back that differs leaves the copy in force as it was (R421). -/
def commitCopy (readBack : Bool) (applied s : State) : State × Reply :=
  let n := writeTarget s
  let m := committedCopy s
  if !readBack then
    (tickFree (putCopy n (memStore [] 0 (Config.freeBytes s.free (128 + copyLength m))) s) 1, .fail stInternal)
  else
    let t := putCopy n m { applied with cfg := { applied.cfg with inForce := n } }
    yes (le32 (nextSequence s)) (updFlag 6 (restage t))

/-- A commit cut off by a power failure once so many bytes of the copy not in force are written, its start first: the
copy in force stands (R421; the order DESIGN CHOICE, log entry 142). -/
def cutCommit (written : Nat) (s : State) : State × Reply :=
  let n := writeTarget s
  let m := committedCopy s
  (putCopy n (if 128 + copyLength m ≤ written then m else memStore (copyOf s n) 0 (memLoad m 0 written)) s, .later)

/-- CFG_COMMIT with what becomes of the copy once every check has passed (R421). -/
def cfgCommitWith (put : State → State → State × Reply) (c : Call) (s : State) : State × Reply :=
  if c.payload.length ≠ 0 then no stLength s
  else if c.cap < 4 then no stRspSpace s
  else if !copyHeaderOk s.cfg.staging then (s, .fail stCfgInvalid)
  else match applyCopy policyStale s.cfg.staging s with
    | .error (st, off) => ({ s with cfg := { s.cfg with err := st, errOff := off } }, .fail stCfgInvalid)
    | .ok t => put t s

/-- CFG_COMMIT (R421). -/
def cfgCommitBody (readBack : Bool) : Body := cfgCommitWith (commitCopy readBack)

end Sys2Proof.Machine
end

