-- ==== Sys2Proof/Machine/Update.lean ====
section
/-! DEFINITION. Field update: the boot selector, the bundle's form and verification, the update session and its commands,
confirmation and rollback (R396 to R415). -/

namespace Sys2Proof.Machine

/-! ### The boot selector (R396 to R398) -/

/-- The selector copy that is loaded: which copy, and what it says; none when neither is valid (R397). -/
def loadedSelector (s : State) : Option (Bool × Selector) := match s.upd.selectors with
  | (some a, some b) => if seqAhead a.sequence b.sequence then some (false, a) else some (true, b)
  | (some a, none) => some (false, a)
  | (none, some b) => some (true, b)
  | (none, none) => none

/-- The selector in force; slot A as NORMAL without a valid copy (R397). -/
def selector (s : State) : Selector := ((loadedSelector s).map (·.2)).getD {}

/-- A selector is written to the copy that is not loaded, with the next sequence (R397). -/
def writeSelector (x : Selector) (s : State) : State :=
  let seq := match loadedSelector s with
    | some (_, y) => (y.sequence + 1) % 2 ^ 32
    | none => 1
  let y := { x with sequence := seq }
  let to1 := match loadedSelector s with
    | some (second, _) => !second
    | none => false
  { s with upd := { s.upd with
    selectors := if to1 then (s.upd.selectors.1, some y) else (some y, s.upd.selectors.2) } }

/-- The images of the slots, and one of them changed. -/
def slotImage (s : State) (b : Bool) : SlotImage := if b then s.board.slotB else s.board.slotA
def setImage (b : Bool) (x : SlotImage) (s : State) : State :=
  { s with board := { s.board with slotA := if b then s.board.slotA else x, slotB := if b then x else s.board.slotB } }

/-- The inactive slot (R398). -/
def inactiveSlot (s : State) : Bool := !(selector s).slotB

/-! ### The bundle (R399, R400, R405) -/

/-- The part entries of a manifest: TYPE, OFFSET, BYTES, hash. -/
def bundleParts (m : Memory) : List (Nat × Nat × Nat × Bytes) :=
  (List.range (img16 m 10)).map (fun i =>
    (img16 m (32 + 64 * i), img32 m (36 + 64 * i), img32 m (40 + 64 * i), memLoad m (48 + 64 * i) 48))

/-- Parts do not overlap, by their order in the bundle. -/
def partsApart (ps : List (Nat × Nat × Nat × Bytes)) : Bool :=
  ps.all (fun a => (ps.filter (fun b => decide (a.2.1 < b.2.1 + b.2.2.1 ∧ b.2.1 < a.2.1 + a.2.2.1))).length ≤ 1)

/-- The parts as R400 requires them. -/
def partsForm (m : Memory) (bytes : Nat) : Bool :=
  let ps := bundleParts m
  decide (ps.length ≤ 16) && (List.range 7).all (fun t => decide ((ps.filter (fun p => decide (p.1 = t + 1))).length = 1))
    && decide (ps.length = 7)
    && ps.all (fun p => decide (p.2.1 % 4096 = 0 ∧ 16384 ≤ p.2.1 ∧ p.2.1 + p.2.2.1 ≤ bytes))
    && partsApart ps
    && ps.all (fun p => decide (p.1 ≠ 1 ∨ p.2.2.1 ≤ 7340032))
    && decide (((ps.filter (fun p => decide (p.1 ≠ 1))).map (fun p => p.2.2.1)).sum ≤ 67108864)
    && (List.range ps.length).all (fun i => decide (img16 m (34 + 64 * i) = 0 ∧ img32 m (44 + 64 * i) = 0))

/-- MAGIC, VERSION, BUNDLE_BYTES, FIRMWARE_VERSION, TARGET, MIN_STEP, FLOOR and parts as R399 and R400 give them; 0x10 is
this part's step, 0x7E207700 its identity. -/
def manifestForm (m : Memory) (bytes : Nat) : Bool :=
  decide (img32 m 0 = 0x44555A56 ∧ img16 m 4 = 1 ∧ 1 ≤ img16 m 6 ∧ img16 m 6 ≤ 128 ∧ img16 m 8 ≤ img16 m 6
    ∧ img32 m 12 = bytes ∧ img32 m 16 ≠ 0 ∧ img32 m 20 = 0x7E207700 ∧ (memRead m 24).toNat ≤ 0x10)
    && allZero (memLoad m 25 7) && allZero (memLoad m 6434 1758) && allZero (memLoad m 12915 3469) && partsForm m bytes

/-- The image keys match EWK_HASH, and both signatures verify (R373, R399). -/
def manifestSigned (m : Memory) : Bool :=
  let k1 := memLoad m 1056 97
  let k2 := memLoad m 1153 2592
  let digest := sha384 (memLoad m 0 8192)
  decide (sha384 k1 = slice Config.ewkHash 0 48 ∧ sha384 k2 = slice Config.ewkHash 48 48)
    && Config.verifies 1 k1 digest (memLoad m 8192 96) && Config.verifies 2 k2 digest (memLoad m 8288 4627)

/-- A part's bytes match its hash. -/
def partMatches (m : Memory) (p : Nat × Nat × Nat × Bytes) : Bool := decide (sha384 (memLoad m p.2.1 p.2.2.1) = p.2.2.2)

/-- The checks of R405 in order: the status of the first that fails. -/
def verifyStatus (s : State) : Half :=
  let m := s.upd.image
  if sha384 (memLoad m 0 s.upd.bytes) ≠ s.upd.hash then stSignature
  else if !manifestForm m s.upd.bytes then stOutOfRange
  else if !manifestSigned m then stSignature
  else if img16 m 6 ≠ s.upd.version ∨ s.upd.version < s.upd.floor then stSecurityVersion
  else if !(bundleParts m).all (partMatches m) then stSignature
  else stOk

/-- What the boot ROM finds in a slot that holds a verified bundle. -/
def imageOf (m : Memory) : SlotImage :=
  { fitted := true, signed := true, coreOk := true, partsOk := true, securityVersion := img16 m 6,
    firmware := BitVec.ofNat 32 (img32 m 16), floor := img16 m 8, lcKeys := memLoad m 3745 2689 }

/-! ### The update session (R402) -/

/-- The holder that is live. -/
def liveHolder (s : State) : Option Word := if s.upd.lapsed then none else s.upd.holder

/-- Another credential holds the session. -/
def updElsewhere (s : State) (credential : Word) : Bool := match liveHolder s with
  | some h => decide (h ≠ credential)
  | none => false

/-- The holder's 12 bytes (R41, R402): its open session, or identifier 0; without one, the role is the role table's and
the transport a free value (log entry 1). -/
def updHolderBytes (s : State) : Bytes := match s.upd.holder with
  | none => zeros 12
  | some h => match s.vcp.sessions.find? (fun x => decide (x.credential = h)) with
    | some x => holderBytes s x.sid
    | none => le32 0 ++ le32 h.toNat ++ le 1 (((roleEntry s h.toNat).map (·.role)).getD 0)
        ++ [Config.freeByte s.free 0] ++ le16 0

/-- An UPD_ command of the holder keeps it from lapsing (R402). -/
def keepHolder (c : Call) (s : State) : State :=
  if s.upd.holder = some c.credential ∧ s.upd.lapsed = false then { s with upd := { s.upd with last := now s } } else s

/-- An UPD_ command that executes (R402). -/
def updYes (c : Call) (data : Bytes) (s : State) : State × Reply := yes data (keepHolder c s)

/-- The credential becomes the holder. -/
def takeSession (c : Call) (s : State) : State :=
  { s with upd := { s.upd with holder := some c.credential, lapsed := false, last := now s } }

/-- The journal at IDLE: nothing staged, the session released (R401, R414). -/
def toIdle (s : State) : State :=
  { s with upd := { s.upd with
    stage := 0, bytes := 0, hash := [], version := 0, durable := 0, held := 0, holder := none, lapsed := false
    arm := none, image := [], waiting := none } }

/-- UPDATE_HOLDER_LAPSE: 3,600 s without an UPD_ command from the holder (R402). -/
def holderLapse (s : State) : State :=
  if (liveHolder s).isSome && passed s s.upd.last (3600 * tickS) then
    updFlag 5 { s with upd := { s.upd with lapsed := true } }
  else s

/-- The last VBAT reading is below 2.7 V (R96). Before the first reading of a power-on PMU_VBAT reads 0 and counts as
low: no update without a reading (DESIGN CHOICE, log entry 126). -/
def vbatLow (s : State) : Bool := decide (s.pmu.vbatMv.toNat < 2700)

/-! ### Download (R403, R404) -/

/-- A new bundle: the session taken, stage DOWNLOAD with nothing held (R403). -/
def beginDownload (c : Call) (bytes version : Nat) (hash : Bytes) (s : State) : State :=
  takeSession c { s with upd := { s.upd with
    stage := 1, bytes := bytes, hash := hash, version := version, durable := 0, held := 0, arm := none, image := []
    waiting := none } }

/-- The resume offset of UPD_BEGIN. -/
def resumeOffset (s : State) : Nat := if s.upd.stage = 1 then s.upd.durable else s.upd.bytes

/-- The fields of UPD_BEGIN in range (R399, R403). -/
def beginFieldsOk (bytes version flags pad : Nat) : Bool :=
  decide (bytes % 4096 = 0 ∧ 65536 ≤ bytes ∧ bytes ≤ 134217728 ∧ 1 ≤ version ∧ version ≤ 128 ∧ flags ≤ 1 ∧ pad = 0)

/-- UPD_BEGIN (R403). -/
def updBeginBody (c : Call) (s : State) : State × Reply :=
  let b := c.payload
  let bytes := u32 b 0
  let version := u16 b 4
  let hash := slice b 8 48
  let same := decide (s.upd.bytes = bytes ∧ s.upd.version = version ∧ s.upd.hash = hash)
  if b.length ≠ 56 then no stLength s
  else if c.cap < 4 then no stRspSpace s
  else if !s.board.slotA.fitted || !s.board.slotB.fitted || (selector s).trial then no stNoSlot s
  else if s.upd.lock then no stOwnerLock s
  else if vbatLow s then no stVbatLow s
  else if !beginFieldsOk bytes version (u8 b 6) (u8 b 7) then no stOutOfRange s
  else if version < s.upd.floor then no stSecurityVersion s
  else if s.upd.stage = 0 then yes (le32 0) (beginDownload c bytes version hash s)
  else if same then
    if updElsewhere s c.credential then (s, .busy (updHolderBytes s))
    else yes (le32 (resumeOffset s)) (takeSession c s)
  else if u8 b 6 = 1 ∧ c.role = 3 then
    if s.upd.version < version then yes (le32 0) (beginDownload c bytes version hash s) else no stSecurityVersion s
  else if updElsewhere s c.credential then (s, .busy (updHolderBytes s))
  else no stStaged s

/-- The durable offset when so many bytes are held (R404). -/
def durableAt (bytes held : Nat) : Nat := if held = bytes then bytes else held / 65536 * 65536

/-- A chunk programmed from the bytes held on; the image that stood in the slot is gone with the first byte (R404). -/
def programChunk (off : Nat) (data : Bytes) (s : State) : State :=
  let upto := off + data.length
  if upto ≤ s.upd.held then s
  else
    let t := setImage (inactiveSlot s) { fitted := true } s
    { t with upd := { t.upd with
      image := memStore t.upd.image t.upd.held (data.drop (t.upd.held - off)), held := upto
      durable := durableAt t.upd.bytes upto } }

/-- UPD_DATA (R404). -/
def updDataBody (c : Call) (s : State) : State × Reply :=
  let off := u32 c.payload 0
  let data := c.payload.drop 4
  if c.payload.length < 4 ∨ data.length = 0 ∨ 4194304 < data.length ∨ data.length % 64 ≠ 0 then no stLength s
  else if c.cap < 4 then no stRspSpace s
  else if s.upd.lock then no stOwnerLock s
  else if updElsewhere s c.credential then (s, .busy (updHolderBytes s))
  else if s.upd.stage ≠ 1 then no stNotFound s
  else if s.upd.held < off ∨ s.upd.bytes < off + data.length then no stOutOfRange s
  else
    let t := programChunk off data s
    updYes c (le32 t.upd.held) t

/-! ### Verification (R405) -/

/-- A verification that fails (R405). -/
def verifyFailed (st : Half) (s : State) : State :=
  { s with upd := { s.upd with stage := 1, held := 0, durable := 0, outcome := 3, outcomeStatus := st, image := [] } }

/-- A verification that passes. -/
def verifyPassed (s : State) : State :=
  updFlag 0 (setImage (inactiveSlot s) (imageOf s.upd.image) { s with upd := { s.upd with stage := 3 } })

/-- UPD_VERIFY (R405). -/
def updVerifyBody (c : Call) (s : State) : State × Reply :=
  if c.payload.length ≠ 0 then no stLength s
  else if s.upd.lock then no stOwnerLock s
  else if updElsewhere s c.credential then (s, .busy (updHolderBytes s))
  else if s.upd.stage = 3 ∨ s.upd.stage = 4 then updYes c [] s
  else if s.upd.stage ≠ 1 ∨ s.upd.held ≠ s.upd.bytes then no stIncomplete s
  else if verifyStatus s = stOk then updYes c [] (verifyPassed s)
  else (keepHolder c (verifyFailed (verifyStatus s) s), .fail (verifyStatus s))

/-! ### Arming (R406) -/

/-- T lies 60 s to 2,678,400 s after the LEGAL time of execution (R406). -/
def armRange (s : State) (t : Ts) : Bool :=
  s.tim.legal.valid && decide (t.view = 0 ∧ t.ns ≤ 999999999)
    && decide (legalNs s + 60000000000 ≤ tsNs t ∧ tsNs t ≤ legalNs s + 2678400000000000)

/-- T falls in a transient-hold interval of the ledger in force (R273, R406). -/
def armInHold (s : State) (t : Ts) : Bool := match s.pln.ledger with
  | none => false
  | some l => (holdEnd (recBeforeS s.pln.effectP) (recAfterS s.pln.effectP) t.s
      ((transientSteps l).map (fun k => l.t0 + k * l.stepS))).isSome

/-- UPD_ARM (R406). -/
def updArmBody (c : Call) (s : State) : State × Reply :=
  let t := tsField c.payload 0
  if c.payload.length ≠ 16 then no stLength s
  else if s.upd.stage = 0 ∨ s.upd.stage = 6 then no stNotFound s
  else if s.upd.stage ≠ 3 ∧ s.upd.stage ≠ 4 then no stIncomplete s
  else if s.upd.lock then no stOwnerLock s
  else if vbatLow s then no stVbatLow s
  else if s.sys.mode = .manual then no stMode s
  else if u8 c.payload 15 = 0 then updYes c [] { s with upd := { s.upd with stage := 3, arm := none, waiting := none } }
  else if u8 c.payload 15 ≠ 1 ∨ armRange s t = false then no stOutOfRange s
  else if armInHold s t then no stTransientHold s
  else updYes c [] { s with upd := { s.upd with stage := 4, arm := some t, waiting := none } }

/-! ### Confirmation and rollback (R411 to R414) -/

/-- The floor is a thermometer code and is never lowered (R413). -/
def fuseFloor (n : Nat) (s : State) : State := { s with upd := { s.upd with floor := max s.upd.floor (min n 128) } }

/-- A pending floor is fused and the selector says so. -/
def fusePending (s : State) : State :=
  let x := selector s
  if x.floorPending = 0 then s else writeSelector { x with floorPending := 0 } (fuseFloor x.floorPending s)

/-- The selector that UPD_CONFIRM writes, its FLOOR_PENDING the manifest's FLOOR when that exceeds the floor (R413). -/
def confirmSelector (s : State) : State :=
  let x := selector s
  let f := (slotImage s x.slotB).floor
  writeSelector { slotB := x.slotB, floorPending := if s.upd.floor < f then f else 0, firmware := 0 } s

/-- UPD_CONFIRM's effect in TRIAL (R413). -/
def confirmTrial (s : State) : State :=
  let u := toIdle (fusePending (confirmSelector s))
  updFlag 3 { u with upd := { u.upd with outcome := 4, outcomeStatus := stOk } }

/-- UPD_CONFIRM (R413). -/
def updConfirmBody (c : Call) (s : State) : State × Reply :=
  if c.payload.length ≠ 0 then no stLength s
  else if s.upd.stage = 6 then yes [] (confirmTrial s)
  else updYes c [] s

/-- UPD_CONFIRM cut off by a power failure, before or after its first selector is written (R413). -/
def cutConfirm (written : Bool) (c : Call) (s : State) : State × Reply :=
  if c.payload.length ≠ 0 then no stLength s
  else (if written = true ∧ s.upd.stage = 6 then confirmSelector s else s, .later)

/-- A rollback: the selector names the old slot again (R412). -/
def rollback (s : State) : State :=
  let x := selector s
  let t := toIdle (writeSelector { slotB := !x.slotB } s)
  updFlag 4 { t with upd := { t.upd with outcome := 5, outcomeStatus := stOk } }

/-- UPD_ABORT (R414): in TRIAL it rolls back at once, with a device reset of cause 0x08 after its response. -/
def updAbortBody (c : Call) (s : State) : State × Reply :=
  if c.payload.length ≠ 0 then no stLength s
  else if s.upd.stage = 0 then yes [] s
  else if ¬(s.upd.holder = some c.credential ∨ c.role = 3) then (s, .busy (updHolderBytes s))
  else if s.upd.stage = 6 then
    let t := rollback s
    yes [] { t with sys := { t.sys with resetWanted := some 0x08 } }
  else yes [] (toIdle s)

/-- UPD_STATUS (R401). -/
def updStatusBody (c : Call) (s : State) : State × Reply :=
  if c.payload.length ≠ 0 then no stLength s
  else if c.cap < 20 then no stRspSpace s
  else updYes c (le 1 s.upd.stage ++ le 1 (selector s).trials ++ le16 0 ++ le32 s.upd.durable ++ updHolderBytes s)
    (tickFree s 1)

/-- UPD_LOCK (R415). -/
def updLockBody (c : Call) (s : State) : State × Reply :=
  if c.payload.length ≠ 4 then no stLength s
  else if 1 < u8 c.payload 0 ∨ allZero (slice c.payload 1 3) = false then no stOutOfRange s
  else updYes c [] { s with upd := { s.upd with lock := decide (u8 c.payload 0 = 1) } }

end Sys2Proof.Machine
end

