-- ==== Sys2Proof/Machine/Registers.lean ====
section
/-! DEFINITION. What a read of BAR0 returns (R3, R6, R9, R14, R15, R447 to R456): one function per register window. -/

namespace Sys2Proof.Machine

/-- A value placed at a bit of a register. -/
def atBit (k v : Nat) : Nat := v * 2 ^ k

/-- Low and high halves of a 64-bit value. -/
def lo32 (v : Nat) : Nat := v % 2 ^ 32
def hi32 (v : Nat) : Nat := v / 2 ^ 32 % 2 ^ 32

/-- The bits set by a predicate on 0 to n - 1. -/
def bitsOf (n : Nat) (p : Nat → Bool) : Nat := (List.range n).foldl (fun m k => if p k then m + 2 ^ k else m) 0

/-- Total DDR5 found, in GiB, saturating (R447). -/
def ddr5Total (s : State) : Nat := min 255 (s.mem.ch0 + s.mem.ch1)

/-- SYS_ (R3, R60, R447). -/
def sysReg (s : State) (o : Nat) : Nat := match o with
  | 0x00 => 0x7E207700
  | 0x04 => 0x00000010
  | 0x08 => s.sys.firmware.toNat
  | 0x0C => if 3 ≤ s.sys.bootStep then lifecycle s else 0
  | 0x10 => 0x10400400
  | 0x14 => 0x00004419
  | 0x18 => atBit 8 (ddr5Total s) + 0x10
  | 0x1C => 0x20C840C0
  | 0x20 => atBit 16 s.sys.cause.toNat + atBit 8 (modeCode s.sys.prev) + atBit 4 (bit s.sys.token) + modeCode s.sys.mode
  | 0x24 => atBit 24 s.sys.bootFail.toNat + atBit 8 (bit s.sys.bootSlot) + s.sys.bootStep
  | _ => 0

/-- PMU_ (R98). -/
def pmuReg (s : State) (o : Nat) : Nat := match o with
  | 0x00 => s.pmu.powered.toNat / 2 * 2 + bit (pd s 0)
  | 0x04 => s.pmu.lock.toNat
  | 0x08 => s.pmu.flags.toNat
  | 0x0C => s.pmu.resetCause.toNat
  | 0x10 => s.pmu.temp.toNat
  | 0x14 => s.pmu.vbatMv.toNat
  | 0x18 => lo32 (s.pmu.fabATicks / tickMs)
  | 0x1C => lo32 (s.pmu.fabBTicks / tickMs)
  | _ => 0

/-- EVT_ (R456). -/
def evtReg (s : State) (o : Nat) : Nat :=
  let e := s.evt
  if o = 0 then atBit 8 (bit ((List.range 192).any (signalling e))) + ballsAsserted e
  else if 0x10 ≤ o ∧ o < 0x28 then (e.pend.toNat / 2 ^ (8 * (o - 0x10))) % 2 ^ 32
  else if 0x30 ≤ o ∧ o < 0x48 then (e.mask.toNat / 2 ^ (8 * (o - 0x30))) % 2 ^ 32
  else if 0x58 ≤ o ∧ o < 0x60 then (e.armed.toNat / 2 ^ (8 * (o - 0x58))) % 2 ^ 32
  else if 0x80 ≤ o ∧ o < 0xA0 then (e.balls.toNat / 2 ^ ((o - 0x80) / 2)) % 4
  else if 0x100 ≤ o ∧ o < 0x400 then
    let r := tget e.routes ((o - 0x100) / 4) {}
    atBit 16 r.count.toNat + atBit 8 r.balls.toNat + atBit 7 (bit r.ven) + r.vector.toNat
  else if 0x400 ≤ o ∧ o < 0x500 then
    let v := tget e.vecs ((o - 0x400) / 4) {}
    atBit 16 v.msgs.toNat + v.holdoff.toNat
  else 0

/-- CMD_ (R48). -/
def cmdReg (s : State) (o : Nat) : Nat :=
  if o = 0 then bit s.vcp.enable
  else if o = 4 then atBit 8 (bit s.vcp.ready) + bitsOf 8 (fun n => (tget s.vcp.rings n {}).en)
  else if o = 8 then s.vcp.err.toNat
  else if 0x100 ≤ o ∧ o < 0x300 then
    let r := tget s.vcp.rings ((o - 0x100) / 0x40) {}
    match (o - 0x100) % 0x40 with
    | 0x00 => lo32 r.sqb.toNat
    | 0x04 => hi32 r.sqb.toNat
    | 0x08 => r.sqt
    | 0x0C => r.sqh
    | 0x10 => lo32 r.cqb.toNat
    | 0x14 => hi32 r.cqb.toNat
    | 0x18 => r.cqh
    | 0x1C => r.cqt
    | 0x20 => atBit 31 (bit r.en) + atBit 8 r.vector + atBit 4 r.cqLog + r.sqLog
    | _ => 0
  else 0

/-- OVR of the newest sample of a front-end channel. -/
def newestOvr (s : State) (n : Nat) : Bool := match tfind s.adc.samples n with
  | some x => x.flags.getLsbD 0
  | none => false

/-- ADC_SEQk (R125). -/
def seqReg (r : Sar) : Nat := atBit 8 r.entries.length + r.entry

/-- A converter converts: the entries of its sequence, or an urgent injection (R111, R112). -/
def sarRuns (s : State) (r : Sar) : Bool := s.adc.running && (!r.entries.isEmpty || !r.urgent.isEmpty)

/-- ADC_ (R125). -/
def adcReg (s : State) (o : Nat) : Nat :=
  if 0x100 ≤ o ∧ o < 0x200 then
    let c := tget s.adc.counts ((o - 0x100) / 8) {}
    if o % 8 = 0 then c.fwd.toNat else c.rev.toNat
  else match o with
    | 0x00 => atBit 8 (bit s.adc.rate16) + atBit 6 s.adc.refP + atBit 5 s.adc.refM + atBit 4 (bit s.adc.readyP)
        + atBit 3 (bit s.adc.readyM) + atBit 2 (bit (sarRuns s s.adc.sar1))
        + atBit 1 (bit (sarRuns s s.adc.sar0)) + bit s.adc.running
    | 0x04 => s.adc.flags.toNat
    | 0x10 => atBit 16 (bitsOf 12 (fun n => newestOvr s (16 + n))) + bitsOf 12 (newestOvr s)
    | 0x14 => bitsOf 32 (fun k => newestOvr s (32 + k))
    | 0x18 => bitsOf 16 (fun k => newestOvr s (64 + k))
    | 0x20 => seqReg s.adc.sar0
    | 0x24 => seqReg s.adc.sar1
    | 0x28 => s.adc.sar0.aborts.toNat
    | 0x2C => s.adc.sar1.aborts.toNat
    | 0x30 => s.adc.refin.toNat
    | 0x34 => s.adc.avdd.toNat
    | _ => 0

/-- The accumulator and half that an offset of 0x1000 to 0x12FF in MTR_ names: channel, accumulator (R166). -/
def accAt (o : Nat) : Nat × Nat := ((o - 0x1000) / 0x40, (o - 0x1000) % 0x40 / 8)

/-- MTR_ (R145, R166). -/
def mtrReg (s : State) (o : Nat) : Nat :=
  if 0x100 ≤ o ∧ o < 0x140 then
    let p := tget s.mtr.pulses ((o - 0x100) / 4) {}
    atBit 16 p.source + atBit 8 (bit (decide (255 ≤ p.pending))) + p.pending
  else if 0x1000 ≤ o ∧ o < 0x1300 then
    let m := mtrChan s (accAt o).1
    if o % 8 = 0 then lo32 (m.accs.counts.getD (accAt o).2 0).toNat
    else hi32 (m.latch.getD (accAt o).2 0).toNat
  else match o with
    | 0x00 => atBit 13 (bit (meterKey s).isSome) + atBit 12 (bit (meteringRuns s))
        + bitsOf 12 (fun n => billsUncertified (mtrChan s n))
    | 0x04 => s.mtr.flags.toNat
    | 0x08 => lo32 (s.mtr.snapNext - 1)
    | 0x0C => ((s.mtr.ring.head?).map (·.number)).getD 0
    | 0x10 => s.mtr.periods.toNat
    | _ => 0

/-- PTS_ (R194). -/
def ptsReg (s : State) (o : Nat) : Nat := match o with
  | 0x00 => atBit 3 (bit s.tim.servo.valid) + atBit 2 (bit s.pts.paused) + atBit 1 (bit s.pts.spillActive)
      + bit (collectorRuns s)
  | 0x04 => s.pts.flags.toNat
  | 0x08 => resident s
  | 0x0C => bytesIn s.pts.ingress
  | 0x10 => bytesIn s.pts.spill
  | 0x14 => s.pts.spillPeak
  | 0x18 => s.pts.applied.toNat
  | 0x1C => lo32 s.pts.rateLast
  | 0x20 => s.pts.dgrams.toNat
  | 0x24 => s.pts.dropFull.toNat
  | 0x28 => s.pts.refused.toNat
  | 0x2C => s.pts.authFail.toNat
  | 0x30 => (s.pts.units.filter (fun e => e.2.throttled.isSome)).length
  | 0x34 => (s.pts.units.filter (fun e => e.2.silent)).length
  | _ => 0

/-- NET_ (R449). -/
def netReg (s : State) (o : Nat) : Nat :=
  if o < 0x200 then
    let p := netPort s (o / 0x40)
    match o % 0x40 with
    | 0x00 => atBit 3 (bit p.sgmii) + atBit 1 p.speed + bit p.up
    | 0x04 => p.rxDrop.toNat
    | 0x08 => p.pause.toNat
    | 0x0C => p.unbound.toNat
    | _ => 0
  else if o = 0x400 then (tget s.net.prp 0 {}).overflow.toNat
  else if o = 0x410 then (tget s.net.prp 1 {}).overflow.toNat
  else 0

/-- A rate in ns per s as a register of 10^-12 (R351; log entry 7). -/
def rateReg (r : Rat) : Nat := twos 32 (roundNear (r * 1000))

/-- |LEGAL - SERVO| is above 1 ms (R351). -/
def legalSlew (s : State) : Bool := decide ((1000000 : Rat) < absR (legalLessServo s))

/-- The SLAVE port's number, 0 without one. -/
def slavePort (s : State) : Nat := ((List.range 8).find? (fun p => decide ((ptpPort s p).state = portSlave))).getD 0

/-- TIM_STAT.STATE (R351). -/
def servoCode : ServoState → Nat
  | .free => 0
  | .acquiring => 1
  | .locked => 2
  | .holdover => 3

/-- TIM_ (R334, R351). -/
def timReg (s : State) (o : Nat) : Nat :=
  let t := s.tim
  if 0x100 ≤ o ∧ o < 0x180 then
    let p := ptpPort s ((o - 0x100) / 0x10)
    match o % 0x10 with
    | 0x00 => atBit 4 p.record.profile + p.state
    | 0x04 => (pathDelay p.delay).toNat
    | 0x08 => p.sync.toNat
    | _ => 0
  else match o with
    | 0x00 => atBit 11 (bit (slaveOn t)) + atBit 8 (slavePort s) + atBit 7 (bit t.rtcInvalid) + atBit 6 (bit t.degraded)
        + atBit 5 (bit (legalSlew s)) + atBit 4 (bit t.holdExpired) + atBit 2 (servoCode t.state)
        + atBit 1 (bit t.legal.valid) + bit t.servo.valid
    | 0x04 => t.flags.toNat
    | 0x08 => lo32 t.counter
    | 0x0C => hi32 t.latchCount
    | 0x10 => lo32 t.latchServo.s
    | 0x14 => hi32 t.latchServo.s
    | 0x18 => t.latchServo.ns
    | 0x1C => t.latchServo.frac
    | 0x20 => lo32 t.latchLegal.s
    | 0x24 => hi32 t.latchLegal.s
    | 0x28 => t.latchLegal.ns
    | 0x2C => t.latchLegal.frac
    | 0x30 => rateReg t.rServo
    | 0x34 => rateReg t.rLegal
    | 0x38 => twos 32 (clampI (-2147483648) 2147483647 (truncR t.offset))
    | 0x3C => t.steps.toNat
    | 0x40 => lo32 t.holdS
    | 0x44 => atBit 18 (bit t.li59) + atBit 17 (bit t.li61) + atBit 16 (bit t.utcValid) + t.utcOffset.toNat
    | _ => 0

/-- A wide ESTIMATE holds the reaches (R224). -/
def wideHolds (s : State) : Bool := match runningOf s 0 with
  | some r => r.wide && decide (r.phase ≠ 10) && r.ended.isNone
  | none => false

/-- A partition's job waits for the work area, or runs. -/
def jobWaits (s : State) (p : Nat) : Bool := ((runningOf s p).map (fun r => decide (r.phase = 10))).getD false

/-- SLV_PROGp.PHASE of a stage (R249): the reductions belong to the phase whose values they join. -/
def stagePhase : Stage → Nat
  | .reduce .opening | .assemble => 3
  | .factor => 4
  | .up .refine | .down .refine | .reduce .residual | .reduce .refined => 6
  | .up _ | .down _ | .reduce .affine | .reduce .centring => 5
  | .reduce .step | .update | .reduce .closing | .done => 7

/-- SLV_PROGp.PHASE (R249): between its creation and its start a job wakes or copies, which of the two is a free
value. -/
def phaseShown (s : State) (p : Nat) : Nat := match runningOf s p with
  | none => 0
  | some r => match r.phase with
    | 1 => 1 + (Config.freeWord s.free).toNat % 2
    | 3 => stagePhase r.fab.stage
    | k => k

/-- Microseconds since step 1 of R225, saturating (R249). -/
def elapsedUs (s : State) (p : Nat) : Nat := match runningOf s p with
  | some r => min ((now s - r.since) / tickUs) (2 ^ 32 - 1)
  | none => (tget s.slv.shown p {}).elapsed

/-- The registers of a partition (R249); of a job that has not shown itself since PD6 was powered, their reset
values. -/
def partReg (s : State) (p o : Nat) : Nat :=
  let x := tget s.slv.shown p {}
  let r := runningOf s p
  let d := match r with
    | some q => q.d.getD (2 ^ 64 - 1)
    | none => if x.any then x.d.getD (2 ^ 64 - 1) else 0
  match o with
  | 0x00 => lo32 ((r.map (·.job.number)).getD x.number)
  | 0x04 => atBit 16 (phaseShown s p) + min ((r.map (·.iterations)).getD x.iterations) 65535
  | 0x08 => lo32 d
  | 0x0C => hi32 d
  | 0x10 => lo32 ((r.map (fun q => q.replaced + q.fab.replaced.length)).getD x.replaced)
  | 0x14 => lo32 x.wrongSigns
  | 0x18 => x.steps % 8
  | 0x1C => lo32 x.ratio.toNat
  | 0x20 => hi32 x.ratio.toNat
  | 0x24 => (r.map (·.mib)).getD 0
  | 0x28 => elapsedUs s p
  | _ => 0

/-- The partition of a reach under R223, and SLV_RCHr.STATE. -/
def reachPart (s : State) (r : Nat) : Nat := if r < s.slv.reaches then 0 else 1
def reachState (s : State) (r : Nat) : Nat :=
  let by_ := if wideHolds s then 0 else reachPart s r
  let busy := match runningOf s by_ with
    | some q => decide (q.phase = 3) && q.ended.isNone
    | none => false
  if !pd s (if r < 32 then 6 else 7) then 0
  else if !busy then 1
  else if s.pmu.lock.getLsbD 0 then 2
  else 3

/-- SLV_ (R249). -/
def slvReg (s : State) (o : Nat) : Nat :=
  if 0x100 ≤ o ∧ o < 0x180 then partReg s ((o - 0x100) / 0x40) ((o - 0x100) % 0x40)
  else if 0x1000 ≤ o ∧ o < 0x1400 then
    let r := (o - 0x1000) / 0x10
    let x := tget s.slv.reach r {}
    match o % 0x10 with
    | 0x00 => atBit 16 x.ecc1 + atBit 3 (bit (wideHolds s)) + atBit 2 (reachPart s r) + reachState s r
    | 0x04 => x.records.toNat
    | 0x08 => x.busy.toNat
    | _ => 0
  else match o with
    | 0x00 => atBit 14 (bit s.pmu.fabHalf) + atBit 13 (bit (jobWaits s 1)) + atBit 12 (bit (jobWaits s 0))
        + atBit 11 (bit (decide (((runningOf s 1).map (·.phase)) = some 9))) + atBit 10 (bit (wideHolds s))
        + atBit 9 (bit (runningOf s 1).isSome) + atBit 8 (bit (runningOf s 0).isSome) + s.slv.reaches
    | 0x04 => s.slv.flags.toNat
    | 0x08 => workFree s
    | 0x0C => s.slv.reductions.toNat
    | _ => 0

/-- The ledger replay of the forecast ring runs (R275, R277). -/
def replayRuns (s : State) : Bool := decide (s.sys.mode = .island) && s.pln.frozen && !s.pln.ring.isEmpty

/-- PLN_ (R277). -/
def plnReg (s : State) (o : Nat) : Nat := match o with
  | 0x00 => atBit 8 (bit (replayRuns s)) + atBit 7 (bit s.pln.hold.isSome) + atBit 6 (bit s.pln.fallback)
      + atBit 5 (bit s.pln.ledger.isSome) + atBit 4 (bit (fitNow s)) + atBit 3 (bit (tfind s.pln.waiting 1).isSome)
      + atBit 2 (bit (tfind s.pln.waiting 0).isSome) + atBit 1 (bit (runningOf s 1).isSome)
      + bit (runningOf s 0).isSome
  | 0x04 => s.pln.flags.toNat
  | 0x08 => lo32 s.pln.next
  | 0x0C => ((s.pln.estimate).map (·.job.toNat)).getD 0
  | 0x10 => (ledgerInForce s).toNat
  | 0x14 => ((s.pln.ledger).map (·.job.toNat)).getD 0
  | 0x18 => lo32 (((s.pln.ledger).map ledgerEnd).getD 0)
  | 0x1C => lo32 (s.pln.hold.getD 0)
  | 0x20 => s.pln.skipE.toNat
  | 0x24 => s.pln.skipP.toNat
  | 0x28 => lo32 (((s.pln.estimate).map (·.mUsed)).getD 0)
  | 0x2C => (((s.pln.estimate).map (fun e => narrow e.resid)).getD 0).toNat
  | 0x30 => lo32 (ringUsed s.pln.ring)
  | _ => 0

/-- LPE_ (R310, R311). -/
def lpeReg (s : State) (o : Nat) : Nat :=
  if 0x100 ≤ o ∧ o < 0x180 then
    let t := tget s.lpe.traces ((o - 0x100) / 0x10) {}
    match o % 0x10 with
    | 0x00 => atBit 26 t.state + atBit 16 t.slot
    | 0x04 => t.samples.length
    | 0x08 => lo32 t.counter
    | 0x0C => hi32 t.counter
    | _ => 0
  else if 0x1000 ≤ o ∧ o < 0x2000 then (slotWord (slotState s ((o - 0x1000) / 4))).toNat
  else match o with
    | 0x00 => atBit 12 (bit s.lpe.alive) + atBit 11 (bit (loopsRun s))
        + (s.lpe.slots.filter (fun e => e.2.enabled)).length
    | 0x04 => s.lpe.flags.toNat
    | 0x08 => s.lpe.evals.toNat
    | 0x0C => lo32 s.lpe.rateLast
    | 0x10 => s.lpe.latMax
    | _ => 0

/-- OUT_ (R311). -/
def outReg (s : State) (o : Nat) : Nat :=
  if 0x1000 ≤ o ∧ o < 0x1200 then
    let k := (o - 0x1000) / 4
    atBit 16 (tget s.out.binding k 0xFFFF) + rowOf s k
  else match o with
    | 0x00 => atBit 3 (bit (decide (s.sys.mode = .manual))) + atBit 2 (bit (globalForce s))
        + atBit 1 (bit s.out.hold.isSome) + bit (driving s)
    | 0x04 => s.out.flags.toNat
    | 0x08 => lo32 (holdMs s)
    | _ => 0

/-- SLC_ (R311). -/
def slcReg (s : State) (o : Nat) : Nat :=
  if 0x100 ≤ o ∧ o < 0x200 then
    let t := tget s.slc.times ((o - 0x100) / 8) 0
    if o % 8 = 0 then lo32 t else hi32 t
  else match o with
    | 0x00 => atBit 8 (latchedCount s) + summaryByte s
    | 0x04 => s.slc.flags.toNat
    | 0x08 => bitsOf 32 (tripLevelActive s)
    | 0x0C => s.slc.latch.toNat
    | 0x10 => atBit 31 (bit s.slc.firstValid) + s.slc.first
    | 0x14 => s.slc.enable.toNat
    | 0x18 => s.slc.locals.toNat
    | 0x1C => s.slc.trips.toNat
    | _ => 0

/-- CAN_ of one channel (R331). -/
def canReg (s : State) (c o : Nat) : Nat :=
  let x := canOf s c
  if 0x400 ≤ o ∧ o < 0xC00 then
    let k := (o - 0x400) / 0x10
    match o % 0x10 with
    | 0x00 => objectStatus s c k
    | 0x04 => lo32 (objOf s c k).stamp
    | 0x08 => hi32 (objOf s c k).stamp
    | 0x0C => (objOf s c k).count.toNat
    | _ => 0
  else match o with
    | 0x00 => atBit 4 (bit (ctFd x.record)) + atBit 3 (bit x.busOff) + canState s c
    | 0x04 => x.flags.toNat
    | 0x08 => atBit 24 x.lec + atBit 16 (min x.recount 255) + min x.tecount 511
    | 0x0C => x.delay.toNat
    | 0x10 => x.txOk.toNat
    | 0x14 => x.rxOk.toNat
    | 0x18 => x.errors.toNat
    | 0x1C => x.busOffs.toNat
    | 0x20 => x.unmatched.toNat
    | 0x24 => x.skipped.toNat
    | _ => 0

/-- The half in SHADOW reports health bits 0 (R371). -/
def pairHealthy (s : State) : Bool :=
  if s.sys.mode = .shadow then decide (s.brd.health = 0) else partnerHealthy s

/-- BRD_ (R371). -/
def brdReg (s : State) (o : Nat) : Nat := match o with
  | 0x00 => atBit 12 (s.brd.pmode.getD 15) + atBit 8 (min s.brd.missed 15) + atBit 6 (tokenCode s) + atBit 4 s.brd.link
      + atBit 3 (bit (leaseValid s)) + atBit 2 (bit (pairHealthy s)) + atBit 1 (bit s.brd.record.side)
      + bit s.brd.record.paired
  | 0x04 => s.brd.flags.toNat
  | 0x08 => s.brd.health.toNat
  | 0x0C => s.brd.tx.toNat
  | 0x10 => s.brd.rx.toNat
  | 0x14 => s.brd.resent.toNat
  | 0x18 => s.brd.bad.toNat
  | 0x1C => s.brd.hbMiss.toNat
  | 0x20 => (bulkBytes s).toNat
  | _ => 0

/-- The selected public key (R384, R395). -/
def pubShown (s : State) : Bytes := slotPublic s s.key.pubSlot s.key.pubForm

/-- KEY_ (R395). -/
def keyReg (s : State) (o : Nat) : Nat :=
  if 0x100 ≤ o ∧ o < 0x500 then
    let x := keySlot s ((o - 0x100) / 4)
    atBit 24 x.parent + atBit 16 x.state + x.policy
  else if 0x1000 ≤ o ∧ o < 0x2000 then u32 (pubShown s) (o - 0x1000)
  else match o with
    | 0x00 => atBit 10 ((s.key.slots.filter (fun e => decide (8 ≤ e.1 ∧ e.2.state = 1))).length % 256)
        + atBit 9 (bit s.key.previous.isSome) + atBit 8 (bit s.key.journal.isSome) + atBit 7 (bit (rootSecret s).isSome)
    | 0x04 => s.key.flags.toNat
    | 0x08 => atBit 8 s.key.fuses + atBit 4 (reships s) + lifecycle s
    | 0x0C => s.key.tamper.toNat
    | 0x10 => lo32 s.key.tamperAt
    | 0x14 => s.key.tampEn
    | 0x18 => lo32 s.key.rootGen
    | 0x1C => atBit 8 s.key.pubForm + s.key.pubSlot
    | 0x20 => (pubShown s).length
    | _ => 0

/-- The firmware version in a slot; 0 when it is not valid (R424). -/
def slotVersion (i : SlotImage) : Nat := if i.fitted && i.signed && i.coreOk && i.partsOk then i.firmware.toNat else 0

/-- The sequence of a configuration copy; 0 when it is not valid (R424). -/
def copySequence (s : State) (m : Memory) : Nat := if copyValid s m then img32 m 8 else 0

/-- The selector copy in force is the second one. -/
def selectorCopy (s : State) : Bool := ((loadedSelector s).map (·.1)).getD false

/-- UPD_ (R424). -/
def updReg (s : State) (o : Nat) : Nat := match o with
  | 0x00 => atBit 14 (bit (commissioned s)) + atBit 12 s.cfg.inForce + atBit 11 (bit (liveHolder s).isSome)
      + atBit 10 (bit s.upd.lock) + atBit 9 (bit (selectorCopy s)) + atBit 8 (bit (selector s).slotB)
      + atBit 4 ((selector s).trials % 4) + s.upd.stage
  | 0x04 => s.upd.flags.toNat
  | 0x08 => lo32 s.upd.durable
  | 0x0C => lo32 s.upd.bytes
  | 0x10 => atBit 16 s.upd.floor + s.upd.version % 65536
  | 0x14 => lo32 ((s.upd.arm.map (·.s)).getD 0)
  | 0x18 => hi32 ((s.upd.arm.map (·.s)).getD 0)
  | 0x1C => atBit 16 s.upd.outcomeStatus.toNat + s.upd.outcome
  | 0x20 => slotVersion s.board.slotA
  | 0x24 => slotVersion s.board.slotB
  | 0x28 => copySequence s s.cfg.copyA
  | 0x2C => copySequence s s.cfg.copyB
  | 0x30 => atBit 16 s.cfg.err.toNat
  | 0x34 => s.cfg.errOff
  | _ => 0

/-- The oldest circulating index (R435). -/
def oldestIndex (l : Log) : Nat := ((l.circulating.head?).map (·.index)).getD l.next

/-- A LOST record is queued. -/
def lostQueued (l : Log) : Bool := l.fifo.any (fun e => decide (e.record.code = codeLost) && !e.partner)

/-- LOG_ (R446). -/
def logReg (s : State) (o : Nat) : Nat := match o with
  | 0x00 => atBit 8 (bit (decide (2048 ≤ s.log.permanent.length))) + atBit 7 (bit (lostQueued s.log)) + s.log.fifo.length
  | 0x04 => bit s.log.flag
  | 0x08 => s.log.newest.getD 0xFFFFFFFF
  | 0x0C => oldestIndex s.log
  | 0x10 => atBit 16 (if 32768 ≤ s.log.circulating.length then 0xFFFF else s.log.circulating.length)
      + s.log.permanent.length % 2048
  | 0x14 => s.log.lost.toNat
  | 0x18 => s.log.partnerDrop.toNat
  | 0x1C => s.log.clears.toNat
  | _ => 0

/-- The flags of R443. -/
def dumpFlags (s : State) : Nat := match s.dmp.summary with
  | none => 0
  | some x => 1 + 2 * bit s.dmp.full.isSome + 4 * bit x.short + 8 * bit x.released + 16 * bit x.second

/-- DMP_ (R446). -/
def dmpReg (s : State) (o : Nat) : Nat := match o with
  | 0x00 => atBit 16 (((s.dmp.summary).map (·.cause.toNat)).getD 0) + atBit 8 (bit s.dmp.capturing.isSome) + dumpFlags s
  | 0x04 => s.dmp.flags.toNat
  | 0x08 => ((s.dmp.full).map (·.bytes)).getD 0
  | _ => 0

/-- MEM_ (R449). -/
def memReg (s : State) (o : Nat) : Nat := match o with
  | 0x00 => atBit 8 (ddr5Total s) + atBit 1 (bit s.mem.ddr5Ok) + bit s.mem.dramOk
  | 0x04 => atBit 8 (min 255 s.mem.ch1) + min 255 s.mem.ch0
  | 0x10 => (tget s.mem.ce 0 0).toNat
  | 0x14 => (tget s.mem.ue 0 0).toNat
  | 0x18 => (tget s.mem.ce 1 0).toNat
  | 0x1C => (tget s.mem.ue 1 0).toNat
  | _ => 0

/-- The power domain of a window (R14). -/
def windowDomain : Nat → Nat
  | 3 => 11
  | 4 => 2
  | 5 => 3
  | 6 => 8
  | 7 => 8
  | 9 => 6
  | 10 => 5
  | 11 => 4
  | 12 => 4
  | 14 => 9
  | 15 => 11
  | 16 => 5
  | 17 => 5
  | 19 => 5
  | 20 => 10
  | _ => 1

/-- A register of a window (R14). -/
def windowReg (s : State) (w o : Nat) : Nat := match w with
  | 0 => sysReg s o
  | 1 => pmuReg s o
  | 2 => evtReg s o
  | 3 => cmdReg s o
  | 4 => adcReg s o
  | 5 => mtrReg s o
  | 6 => ptsReg s o
  | 7 => netReg s o
  | 8 => timReg s o
  | 9 => slvReg s o
  | 10 => plnReg s o
  | 11 => lpeReg s o
  | 12 => outReg s o
  | 13 => slcReg s o
  | 14 => canReg s (o / 0x1000) (o % 0x1000)
  | 15 => brdReg s o
  | 16 => keyReg s o
  | 17 => updReg s o
  | 18 => logReg s o
  | 19 => dmpReg s o
  | 20 => memReg s o
  | _ => 0

/-- The register at a word-aligned offset of BAR0: 0 in a gated window, where none stands, and past the windows (R9,
R15). -/
def readReg (s : State) (offset : Nat) : Word :=
  let w := offset / 0x10000
  if w < 21 && pd s 1 && pd s (windowDomain w) then BitVec.ofNat 32 (windowReg s w (offset % 0x10000)) else 0

/-- The bytes that a read of any size and alignment returns (R6). -/
def readBytes (s : State) (offset n : Nat) : Bytes :=
  (List.range n).map (fun i => BitVec.ofNat 8 ((readReg s ((offset + i) / 4 * 4)).toNat / 2 ^ (8 * ((offset + i) % 4)) % 256))

end Sys2Proof.Machine
end

