-- ==== Sys2Proof/Machine/HostWrites.lean ====
section
/-! DEFINITION. What host software does over PCIe: writes to BAR0 (R6 to R9, R448), to the MSI-X table and to
configuration space (R455, R481), and the event messages that follow (R454). -/

namespace Sys2Proof.Machine

/-- Register space is reachable (R481): the endpoint powered, the link up, enumerated, Memory Space Enable set. -/
def reachable (s : State) : Bool := pd s 11 && s.pcie.linkUp && s.pcie.enumerated && s.pcie.memorySpace

/-! ### CMD_ (R48) -/

/-- A ring, and the rings with one changed. -/
def ringOf (s : State) (n : Nat) : Ring := tget s.vcp.rings n {}
def setRing (n : Nat) (r : Ring) (s : State) : State := { s with vcp := { s.vcp with rings := tset s.vcp.rings n r } }

/-- CMD_SQTn: the doorbell, or TAIL_RANGE. -/
def writeTail (n : Nat) (v : Word) (s : State) : State :=
  let r := ringOf s n
  if v.toNat % 1024 < 2 ^ r.sqLog then setRing n { r with sqt := v.toNat % 1024 } s else cmdErr 2 s

/-- A LOG2 field in range. -/
def logOk (x : Nat) : Bool := decide (4 ≤ x ∧ x ≤ 10)

/-- CMD_RINGn: sizes and vector only while EN reads 0; EN 0 waits for the ring's outstanding commands. While it waits EN
reads 1, and an EN written 1 then is discarded as any write while EN reads 1 is: the ring still closes (DESIGN CHOICE, log
entry 115). -/
def writeRing (n : Nat) (v : Word) (s : State) : State :=
  let r := ringOf s n
  if r.en then
    if v.getLsbD 31 then s
    else setRing n (if r.waiting = 0 then { r with en := false } else { r with closing := true }) s
  else
    let x := { r with vector := v.toNat / 256 % 64, cqLog := v.toNat / 16 % 16, sqLog := v.toNat % 16 }
    if !v.getLsbD 31 then setRing n x s
    else if logOk x.cqLog && logOk x.sqLog then setRing n { x with en := true } s
    else cmdErr 3 (setRing n x s)

/-- CMD_CQHn. -/
def writeCqHead (n : Nat) (v : Word) (s : State) : State := setRing n { ringOf s n with cqh := v.toNat % 1024 } s

/-- A base address register of a ring, while its EN reads 0. -/
def writeBase (n o : Nat) (v : Word) (s : State) : State :=
  let r := ringOf s n
  let low : Dword := (v &&& 0xFFFFFFC0).setWidth 64
  let high : Dword := v.setWidth 64 <<< 32
  if r.en then s
  else setRing n (match o with
    | 0x00 => { r with sqb := (r.sqb &&& 0xFFFFFFFF00000000) ||| low }
    | 0x04 => { r with sqb := (r.sqb &&& 0x00000000FFFFFFFF) ||| high }
    | 0x10 => { r with cqb := (r.cqb &&& 0xFFFFFFFF00000000) ||| low }
    | 0x14 => { r with cqb := (r.cqb &&& 0x00000000FFFFFFFF) ||| high }
    | _ => r) s

/-- The CMD_ window. -/
def writeCmd (o : Nat) (v raised : Word) (s : State) : State :=
  if o = 0 then { s with vcp := { s.vcp with enable := v.getLsbD 0 } }
  else if o = 8 then { s with vcp := { s.vcp with err := rw1c s.vcp.err v raised } }
  else if 0x100 ≤ o ∧ o < 0x300 then
    let n := (o - 0x100) / 0x40
    match (o - 0x100) % 0x40 with
    | 0x08 => writeTail n v s
    | 0x18 => writeCqHead n v s
    | 0x20 => writeRing n v s
    | k => writeBase n k v s
  else s

/-! ### EVT_ (R452 to R456) -/

/-- A 32-bit word of a wider field replaced. -/
def putWord {w : Nat} (x : BitVec w) (k : Nat) (v : Word) : BitVec w :=
  (x &&& ~~~(BitVec.ofNat w (0xFFFFFFFF * 2 ^ (32 * k)))) ||| BitVec.ofNat w (v.toNat * 2 ^ (32 * k))

/-- A 32-bit word of a wider field. -/
def getWord {w : Nat} (x : BitVec w) (k : Nat) : Word := BitVec.ofNat 32 (x.toNat / 2 ^ (32 * k))

/-- EVT_VARMx: vectors armed, and the messages then due (R454). -/
def armVectors (x : Nat) (v : Word) (s : State) : State :=
  sendMessages { s with evt := { s.evt with armed := s.evt.armed ||| BitVec.ofNat 64 (v.toNat * 2 ^ (32 * x)) } }

/-- EVT_MASKw: sources masked or unmasked, and the messages then due (R452). -/
def writeMask (w : Nat) (v : Word) (s : State) : State :=
  sendMessages { s with evt := { s.evt with mask := putWord s.evt.mask w v } }

/-- EVT_PENDw: pending bits cleared, but for sources raised in the same cycle (R450). -/
def clearPending (w : Nat) (v raised : Word) (s : State) : State :=
  { s with evt := { s.evt with pend := putWord s.evt.pend w (rw1c (getWord s.evt.pend w) v raised) } }

/-- EVT_BALLb: POL and EN. -/
def writeBall (b : Nat) (v : Word) (s : State) : State :=
  { s with evt := { s.evt with balls := bput (bput s.evt.balls (2 * b) (v.getLsbD 0)) (2 * b + 1) (v.getLsbD 1) } }

/-- EVT_ROUTEn: balls, VEN and VECTOR. -/
def writeRoute (n : Nat) (v : Word) (s : State) : State :=
  let r := tget s.evt.routes n {}
  let x := { r with balls := BitVec.ofNat 8 (v.toNat / 256), ven := v.getLsbD 7, vector := BitVec.ofNat 6 v.toNat }
  sendMessages { s with evt := { s.evt with routes := tset s.evt.routes n x } }

/-- EVT_VECv: HOLDOFF. -/
def writeVec (n : Nat) (v : Word) (s : State) : State :=
  let x := tget s.evt.vecs n {}
  sendMessages { s with evt := { s.evt with vecs := tset s.evt.vecs n { x with holdoff := BitVec.ofNat 16 v.toNat } } }

/-- The EVT_ window. -/
def writeEvt (o : Nat) (v raised : Word) (s : State) : State :=
  if 0x10 ≤ o ∧ o < 0x28 then clearPending ((o - 0x10) / 4) v raised s
  else if 0x30 ≤ o ∧ o < 0x48 then writeMask ((o - 0x30) / 4) v s
  else if 0x50 ≤ o ∧ o < 0x58 then armVectors ((o - 0x50) / 4) v s
  else if 0x80 ≤ o ∧ o < 0xA0 then writeBall ((o - 0x80) / 4) v s
  else if 0x100 ≤ o ∧ o < 0x400 then writeRoute ((o - 0x100) / 4) v s
  else if 0x400 ≤ o ∧ o < 0x500 then writeVec ((o - 0x400) / 4) v s
  else s

/-! ### Every other host-writable register (R448) -/

/-- SYS_RESET: the key starts a device reset (R60); it is made once the command is done. -/
def writeReset (v : Word) (s : State) : State :=
  if v = 0x5A560021 then { s with sys := { s.sys with resetWanted := some 0x05 } } else s

/-- KEY_PUBSEL (R395). -/
def writePubsel (v : Word) (s : State) : State :=
  { s with key := { s.key with pubSlot := v.toNat % 256, pubForm := v.toNat / 256 % 4 } }

/-- CAN_FLAGSc. -/
def clearCan (c : Nat) (v raised : Word) (s : State) : State :=
  modCan c (fun x => { x with flags := rw1c x.flags v raised }) s

/-- The flags at offset 4, or 8 of PMU_, of each block (R98, R125, R166, R194, R249, R277, R311, R351, R371, R395, R424,
R446). -/
def clearFlags (w : Nat) (v raised : Word) (s : State) : State := match w with
  | 1 => { s with pmu := { s.pmu with flags := rw1c s.pmu.flags v raised } }
  | 4 => { s with adc := { s.adc with flags := rw1c s.adc.flags v raised } }
  | 5 => { s with mtr := { s.mtr with flags := rw1c s.mtr.flags v raised } }
  | 6 => { s with pts := { s.pts with flags := rw1c s.pts.flags v raised } }
  | 8 => { s with tim := { s.tim with flags := rw1c s.tim.flags v raised } }
  | 9 => { s with slv := { s.slv with flags := rw1c s.slv.flags v raised } }
  | 10 => { s with pln := { s.pln with flags := rw1c s.pln.flags v raised } }
  | 11 => { s with lpe := { s.lpe with flags := rw1c s.lpe.flags v raised } }
  | 12 => { s with out := { s.out with flags := rw1c s.out.flags v raised } }
  | 13 => { s with slc := { s.slc with flags := rw1c s.slc.flags v raised } }
  | 15 => { s with brd := { s.brd with flags := rw1c s.brd.flags v raised } }
  | 16 => { s with key := { s.key with flags := rw1c s.key.flags v raised } }
  | 17 => { s with upd := { s.upd with flags := rw1c s.upd.flags v raised } }
  | 18 => { s with log := { s.log with flag := s.log.flag && (!v.getLsbD 0 || raised.getLsbD 0) } }
  | 19 => { s with dmp := { s.dmp with flags := rw1c s.dmp.flags v raised } }
  | _ => s

/-- A write of the register at offset `o` of window `w`; any other register keeps its value (R8). -/
def writeWindow (w o : Nat) (v raised : Word) (s : State) : State := match w with
  | 0 => if o = 0x30 then writeReset v s else s
  | 1 => if o = 8 then clearFlags 1 v raised s else s
  | 2 => writeEvt o v raised s
  | 3 => writeCmd o v raised s
  | 14 => if o % 0x1000 = 4 then clearCan (o / 0x1000) v raised s else s
  | 16 => if o = 0x1C then writePubsel v s else if o = 4 then clearFlags 16 v raised s else s
  | _ => if o = 4 then clearFlags w v raised s else s

/-- A 32-bit write to BAR0 at a word-aligned offset; discarded while the register space is not reachable or the window's
domain is gated (R9, R15, R481). -/
def writeReg (offset : Nat) (v raised : Word) (s : State) : State :=
  let w := offset / 0x10000
  if reachable s && decide (w < 21) && pd s (windowDomain w) then writeWindow w (offset % 0x10000) v raised s else s

/-- A write of bytes at any offset: it takes effect on each register that it writes whole (R6). -/
def writeBytes (offset : Nat) (data : Bytes) (s : State) : State :=
  let first := (offset + 3) / 4 * 4
  applyAll (fun i t => writeReg (first + 4 * i) (w32 data (first - offset + 4 * i)) 0 t)
    (List.range ((offset + data.length - first) / 4)) s

/-! ### Reads (R6, R145, R334, R481) -/

/-- TIM_CNT_L is read: the counter and both views latched from one counter value (R334). -/
def latchCount (s : State) : State :=
  { s with tim := { s.tim with latchCount := now s, latchServo := servo s, latchLegal := legal s } }

/-- What a read of the register at a word-aligned offset latches: TIM_CNT_L and MTR_ACCn_kL, while their domain is
powered. -/
def latchRegister (offset : Nat) (s : State) : State :=
  let w := offset / 0x10000
  let o := offset % 0x10000
  if !pd s 1 || !pd s (windowDomain w) then s
  else if w = 8 ∧ o = 8 then latchCount s
  else if w = 5 ∧ 0x1000 ≤ o ∧ o < 0x1300 ∧ o % 8 = 0 then accLatch ((o - 0x1000) / 0x40) (o % 0x40 / 8) s
  else s

/-- The registers that a read of `n` bytes at an offset touches, lowest first. -/
def touched (offset n : Nat) : List Nat :=
  (List.range ((offset + n + 3) / 4 - offset / 4)).map (fun i => (offset / 4 + i) * 4)

/-- A memory read of `n` bytes of register space: every register it touches is read, and what such a read latches is
latched before its bytes are formed (R6). Before the endpoint is enumerated and its Memory Space Enable set, an
Unsupported Request completion (R481); with the link down, nothing. -/
def busRead (offset n : Nat) (s : State) : State :=
  if !pd s 11 || !s.pcie.linkUp then s
  else if !reachable s then emit .unsupported s
  else
    let t := applyAll latchRegister (touched offset n) s
    emit (.registerRead offset (readBytes t offset n)) t

/-! ### MSI-X and configuration space (R455, R481) -/

/-- The messages held in the Pending Bit Array for vectors no longer masked. -/
def sendHeld (s : State) : State :=
  applyAll (fun v t =>
    if t.pcie.pba.getLsbD v && !t.pcie.vmask.getLsbD v && !t.pcie.functionMask && t.pcie.msix
    then sendMsix v { t with pcie := { t.pcie with pba := bclr t.pcie.pba v } } else t) (List.range 64) s

/-- MSIX_VECTOR_UNMASK: a vector's Mask bit in the BAR2 table, or the Function Mask of configuration space. -/
def unmask (vector : Option Nat) (s : State) : State := match vector with
  | some v => if reachable s && decide (v < 64)
      then sendHeld { s with pcie := { s.pcie with vmask := bclr s.pcie.vmask v } } else s
  | none => if pd s 11 && s.pcie.linkUp then sendHeld { s with pcie := { s.pcie with functionMask := false } } else s

/-- PCIE_CONFIG_WRITE: configuration space while the link is up, and an entry of the BAR2 table. -/
def pcieConfig (w : PcieConfig) (s : State) : State :=
  if !pd s 11 || !s.pcie.linkUp then s
  else match w with
    | .enumerate b0 b2 => { s with pcie := { s.pcie with enumerated := true, bar0 := b0, bar2 := b2 } }
    | .memorySpace on => { s with pcie := { s.pcie with memorySpace := on } }
    | .msix on fm => sendMessages (sendHeld { s with pcie := { s.pcie with msix := on, functionMask := fm } })
    | .vector v address data mask =>
      if reachable s && decide (v < 64) then
        sendHeld { s with pcie := { s.pcie with
          table := tset s.pcie.table v (address, data), vmask := bput s.pcie.vmask v mask } }
      else s

/-- A PCIe function-level reset, and PCIE_PERST_N low: the CMD_ rings are reset, PCIe sessions close, what their
commands would answer is discarded (R40, R46, R462). -/
def resetRings (s : State) : State :=
  let t := closeWhere (fun x => decide (x.transport = .pcie)) s
  { t with vcp := { t.vcp with
    enable := false, err := 0, rings := []
    deferred := t.vcp.deferred.filter (fun d => decide (d.transport ≠ .pcie)) } }

/-- FUNCTION_LEVEL_RESET: as PCIe lays down, configuration space returns to its reset values; EVT_ stays (R455, R456). -/
def functionReset (s : State) : State :=
  if pd s 11 && s.pcie.linkUp && s.pcie.enumerated then
    resetRings { s with pcie := { linkUp := true } }
  else s

/-- PCIE_PERST_N: the link goes down, and trains again when the ball rises (log entry 5). -/
def perst (s : State) : State := if pd s 11 then resetRings { s with pcie := { linkUp := true } } else s

end Sys2Proof.Machine
end

