-- ==== Sys2Proof/Machine/Recorder.lean ====
section
/-! DEFINITION. The recorder's writes and its commands, the fatal sequence and the dump (R425 to R445). -/

namespace Sys2Proof.Machine

/-! ### Records (R425 to R433) -/

/-- A record's 32 bytes (R425). -/
def recordBytes (r : Record) : Bytes :=
  le32 r.index ++ le32 r.opsec ++ le32 r.cycle ++ le16 r.code ++ le16 r.subject ++ le32 r.legalS ++ le32 r.legalNs
    ++ le16 r.repeats ++ le16 r.aux ++ le32 r.data

/-- The circulating index after one (R428). -/
def indexAfter (i : Nat) : Nat := if i = 0xFFFFFFFE then 2048 else i + 1

/-- Circulating records held at most (R428). -/
def circulatingSize : Nat := 32768

/-- A record becomes held in the area that its index names (R428, R429). -/
def holdRecord (r : Record) (l : Log) : Log :=
  if r.index < 2048 then { l with permanent := l.permanent ++ [r], newest := some r.index }
  else
    let all := l.circulating ++ [r]
    { l with circulating := all.drop (all.length - circulatingSize), newest := some r.index, next := indexAfter r.index }

/-- The head of the FIFO has been written: its entry frees (R429). -/
def writeHead (l : Log) : Log := match l.fifo with
  | e :: es => { holdRecord e.record l with fifo := es }
  | [] => l

/-- A LOST record takes a freed entry while reports wait to be counted (R430). -/
def takeLost (s : State) : State :=
  if s.log.pendingLost = 0 then s
  else
    let e : Intake := { record := stamp s codeLost 0 0 s.log.pendingLost, partner := false, begun := false }
    { s with log := { s.log with fifo := s.log.fifo ++ [e], pendingLost := 0 } }

/-- A record as a RECORD frame carries it (R433). -/
def partnerRecord (r : Record) : PartnerRecord :=
  { opsec := BitVec.ofNat 32 r.opsec, cycle := BitVec.ofNat 32 r.cycle, code := BitVec.ofNat 16 r.code
    subject := BitVec.ofNat 16 r.subject, legalS := BitVec.ofNat 32 r.legalS, legalNs := BitVec.ofNat 32 r.legalNs
    repeats := BitVec.ofNat 16 r.repeats, aux := BitVec.ofNat 16 r.aux, data := BitVec.ofNat 32 r.data }

/-- RECORD_WRITE_DONE: the write in progress ends; the freed entry goes to a pending LOST record; the half's own record
goes to its partner; the next write begins (R429 to R431, R433). -/
def recordWriteDone (s : State) : State := match s.log.fifo with
  | e :: _ =>
    if !e.begun || !s.log.running then s
    else
      let t := takeLost { s with log := writeHead s.log }
      let u := { t with log := beginWrite t.log }
      if e.partner || !s.brd.record.paired || !linkUp s then u
      else sendSequenced untagged (.records [partnerRecord e.record]) u
  | [] => s

/-- RECORDER_REPORT: a block reports; no other code is written (R426). -/
def recorderReport (code subject aux : Half) (data : Word) (s : State) : State :=
  if alwaysOn s && decide (code.toNat < 192) then report code.toNat subject.toNat aux.toNat data.toNat s else s

/-- Every held record in index order: permanent, then circulating from the oldest. -/
def heldRecords (l : Log) : List Record := l.permanent ++ l.circulating

/-- The records at and after a first index (R434). -/
def recordsAt (l : Log) (first : Nat) : List Record :=
  if first < l.permanent.length then l.permanent.drop first ++ l.circulating
  else if first < 2048 then []
  else if first = l.next then []
  else match l.circulating.dropWhile (fun r => decide (r.index ≠ first)) with
    | [] => l.circulating
    | rs => rs

/-- REC_READ (R434). -/
def recReadBody (c : Call) (s : State) : State × Reply :=
  let first := u32 c.payload 0
  let n := u16 c.payload 4
  let out := (recordsAt s.log first).take n
  let next := match out.getLast? with
    | some r => if r.index = 2047 then oldestIndex s.log else if r.index < 2048 then r.index + 1 else indexAfter r.index
    | none => first
  let data := le32 (((out.head?).map (·.index)).getD first) ++ le16 out.length ++ [0, 0] ++ le32 next ++ zeros 4
    ++ out.flatMap recordBytes
  if c.payload.length ≠ 8 then no stLength s
  else if n = 0 ∨ 34816 < n ∨ c.limit < 16 + 32 * n then no stReadCount s
  else if c.cap < 16 + 32 * n then no stRspSpace s
  else if u16 c.payload 6 ≠ 0 then no stOutOfRange s
  else yes data s

/-- A CLEARED record goes to the front of the FIFO, behind a write in progress (R436). -/
def putCleared (e : Intake) (l : Log) : Log := match l.fifo with
  | h :: t => if h.begun then { l with fifo := h :: e :: t } else { l with fifo := e :: h :: t }
  | [] => { l with fifo := [e] }

/-- REC_CLEAR (R436). -/
def recClearBody (c : Call) (s : State) : State × Reply :=
  let e : Intake := { record := stamp s codeCleared 0 c.role c.credential.toNat, partner := false, begun := false }
  if c.payload.length ≠ 0 then no stLength s
  else if c.cap < 4 then no stRspSpace s
  else yes (le32 s.log.circulating.length)
    (raise 121 { s with log := beginWrite (putCleared e { s.log with circulating := [], clears := s.log.clears + 1 }) })

/-- REC_INFO (R435). -/
def recInfoBody (c : Call) (s : State) : State × Reply :=
  if c.payload.length ≠ 0 then no stLength s
  else if c.cap < 16 then no stRspSpace s
  else yes (le32 s.log.permanent.length ++ le32 s.log.circulating.length ++ le32 (oldestIndex s.log)
    ++ le32 (s.log.newest.getD 0xFFFFFFFF)) s

/-! ### The fatal sequence (R437 to R442) -/

/-- The first `n` registers of each of the 21 windows (R14, R439, R440). -/
def windowsNow (n : Nat) (s : State) : List (List Word) :=
  (List.range 21).map (fun w => (List.range n).map (fun i => readReg s (0x10000 * w + 4 * i)))

/-- The 512 newest records held, oldest first (R439). -/
def newest512 (l : Log) : List Record := (heldRecords l).drop ((heldRecords l).length - 512)

/-- What a capture begun now will hold; what stands for the cores, the trace and the cause text is open. -/
def summaryNow (cause : Half) (detail : Word) (short : Bool) (s : State) : Summary :=
  { cause := cause, detail := detail, short := short, released := false, second := false, legal := legal s
    counter := now s, opsec := s.log.opsec, cycles := s.log.cycles, firmware := s.sys.firmware, mode := s.sys.mode
    slot := s.sys.bootSlot, index := 0, dumpBytes := 0, dumpHash := zeros 48, windows := windowsNow 64 s
    records := newest512 s.log, free := s.free }

/-- A fatal error (R437, R442): its record and event; in a Live mode other than DUMP, the token released, SAFE entered
with cause 0x0006 and a capture begun; `short` when only a short summary can follow (R441). In BOOT, in DUMP and after a
short summary the record and the event are all (log entry 74). -/
def fatal (cause : Half) (detail : Word) (short : Bool) (s : State) : State :=
  if !alwaysOn s then s
  else
    let t := raise 124 (report 124 0 cause.toNat detail.toNat s)
    match t.dmp.capturing with
    | some x => { t with dmp := { t.dmp with capturing := some { x with second := true } } }
    | none =>
      if !s.sys.mode.live || decide (s.sys.mode = .dump) || s.sys.stopped then t
      else
        let u := { tickFree t 1 with dmp := { t.dmp with
          summary := none, full := none, capturing := some (summaryNow cause detail short s), fatalAt := now s } }
        let v := enterMode .safe 0x0006 (releaseToken { u with sys := { u.sys with fatalSafe := true } })
        { v with sys := { v.sys with fatalSafe := true } }

/-- The index of the newest EV_FATAL record whose write has begun; open while none has. -/
def fatalIndex (s : State) : Nat :=
  let begun := (s.log.fifo.filter (fun e => e.begun && !e.partner)).map (·.record)
  match ((heldRecords s.log ++ begun).filter (fun r => decide (r.code = 124 ∧ r.cycle / 2 ^ 25 % 2 = 0))).getLast? with
  | some r => r.index
  | none => (Config.freeWord s.free).toNat

/-- `n` bytes of a section, the rest of which is open. -/
def openTail (k n : Nat) (b : Bytes) : Bytes := (b ++ Config.freeBytes k n).take n

/-- The bytes of register windows, each at a stride. -/
def windowBytes (stride : Nat) (ws : List (List Word)) : Bytes :=
  ws.flatMap (fun w => (w.flatMap (fun x => le32 x.toNat) ++ zeros stride).take stride)

/-- The summary's 65,536 bytes (R439); a short one has zeros for the cores and the trace (R441). -/
def summaryBytes (flags : Nat) (x : Summary) : Bytes :=
  let header := le32 0x534D5A56 ++ le16 1 ++ le16 x.cause.toNat ++ le32 flags ++ le32 x.detail.toNat ++ tsBytes x.legal
    ++ le64 x.counter ++ le32 x.opsec ++ le32 x.cycles ++ le32 x.firmware.toNat ++ le 1 (modeCode x.mode)
    ++ le 1 (bit x.slot) ++ zeros 2 ++ le32 x.index ++ le32 x.dumpBytes ++ x.dumpHash
  let text := Config.freeBytes x.free 3840
  let cores := if x.short then zeros 8192 else Config.freeBytes x.free 8192
  let trace := if x.short then zeros 28672 else Config.freeBytes x.free 28672
  (header ++ zeros 256).take 256 ++ text ++ cores ++ (windowBytes 256 x.windows ++ zeros 8192).take 8192
    ++ openTail x.free 16384 (x.records.flatMap recordBytes) ++ trace

/-- A section rounded up to 4,096 bytes. -/
def padded (b : Bytes) : Bytes := b ++ zeros ((4096 - b.length % 4096) % 4096)

/-- The sections of the full dump in TYPE order; those whose contents the rules do not give are open (R440). -/
def dumpParts (f : FullDump) : List Bytes :=
  [Config.freeBytes f.free 8388608, windowBytes 65536 f.windows, Config.freeBytes f.free f.heap,
   Config.freeBytes f.free f.planner, Config.freeBytes f.free f.collector, Config.freeBytes f.free 8388608,
   openTail f.free 1114112 (f.records.flatMap recordBytes)]

/-- Bytes 4,096 to DUMP_BYTES - 1. -/
def dumpRest (f : FullDump) : Bytes := (dumpParts f).flatMap padded

/-- Where a section starts, and DUMP_BYTES. -/
def partOffset (f : FullDump) (i : Nat) : Nat := 4096 + (((dumpParts f).take i).flatMap padded).length

/-- The full dump (R440). -/
def dumpBytes (f : FullDump) : Bytes :=
  let head := le32 0x444D5A56 ++ le16 1 ++ le16 7 ++ le32 f.bytes ++ zeros 4 ++ f.hash
  let table := (numbered (dumpParts f)).flatMap (fun e =>
    le16 (e.1 + 1) ++ zeros 2 ++ le32 (partOffset f e.1) ++ le32 e.2.length ++ zeros 4)
  (((head ++ zeros 128).take 128 ++ table) ++ zeros 4096).take 4096 ++ dumpRest f

/-- The full dump taken now, its variable sections of the sizes given, within their limits. -/
def dumpNow (heap planner collector : Nat) (s : State) : FullDump :=
  let f : FullDump :=
    { bytes := 0, heap := min heap 33554432, planner := min planner 4194304, collector := min collector 4194304
      windows := windowsNow 16384 s, records := heldRecords s.log, hash := [], free := s.free }
  { f with bytes := 4096 + (dumpRest f).length, hash := sha384 (dumpRest f) }

/-- DUMP_CAPTURED: the full dump is written, DUMP entered, READY set (R437); a short summary has none (R441). -/
def dumpCaptured (heap planner collector : Nat) (s : State) : State := match s.dmp.capturing with
  | none => s
  | some x =>
    if x.short || !s.sys.mode.live then s
    else
      let f := dumpNow heap planner collector s
      let y := { x with index := fatalIndex s, dumpBytes := f.bytes, dumpHash := f.hash }
      let t := { tickFree s 1 with dmp := { s.dmp with summary := some y, full := some f, capturing := none } }
      dmpFlag 0 (enterMode .dump 0x0006 t)

/-- SHORT_SUMMARY: 5 s after the fatal instant, or at once when the cause leaves no other (R441). -/
def shortSummary (s : State) : State := match s.dmp.capturing with
  | none => s
  | some x =>
    if !x.short && !passed s s.dmp.fatalAt (5 * tickS) then s
    else
      let y := { x with short := true, index := fatalIndex s }
      let t := { tickFree s 1 with
        dmp := { s.dmp with summary := some y, capturing := none }, sys := { s.sys with stopped := true } }
      dmpFlag 1 t

/-- PWRFAIL stops a capture: a summary whose header was written stands; whether it was is open (R442). -/
def cutCapture (s : State) : State := match s.dmp.capturing with
  | none => s
  | some x => { tickFree s 1 with dmp := { s.dmp with
      capturing := none
      summary := if (Config.freeByte s.free 0).getLsbD 0 then some { x with index := fatalIndex s } else none } }

/-! ### Commands (R443, R444) -/

/-- DMP_INFO. -/
def dmpInfoBody (c : Call) (s : State) : State × Reply :=
  if c.payload.length ≠ 0 then no stLength s
  else if c.cap < 16 then no stRspSpace s
  else yes (le32 (dumpFlags s) ++ le32 (if s.dmp.summary.isSome then 65536 else 0)
    ++ le32 (((s.dmp.full).map (·.bytes)).getD 0) ++ le16 (((s.dmp.summary).map (·.cause.toNat)).getD 0) ++ zeros 2) s

/-- An area's bytes; none when it is not valid (R443). -/
def dumpArea (area : Nat) (s : State) : Option Bytes :=
  if area = 0 then (s.dmp.summary).map (summaryBytes (dumpFlags s))
  else if s.sys.mode = .dump then (s.dmp.full).map dumpBytes
  else none

/-- Its size, without forming its bytes. -/
def areaSize (area : Nat) (s : State) : Option Nat :=
  if area = 0 then (s.dmp.summary).map (fun _ => 65536)
  else if s.sys.mode = .dump then (s.dmp.full).map (·.bytes)
  else none

/-- DMP_READ (R443). -/
def dmpReadBody (c : Call) (s : State) : State × Reply :=
  let area := u8 c.payload 0
  let off := u32 c.payload 4
  let n := u32 c.payload 8
  if c.payload.length ≠ 12 then no stLength s
  else if 1 < area ∨ allZero (slice c.payload 1 3) = false then no stOutOfRange s
  else if n = 0 ∨ c.limit < n then no stReadCount s
  else if c.cap < n then no stRspSpace s
  else match areaSize area s with
    | none => no stNotFound s
    | some size =>
      if size < off + n then no stOutOfRange s
      else yes (slice ((dumpArea area s).getD []) off n) s

/-- DMP_RELEASE (R444): the response, then a device reset with cause 0x09; the summary stays, RELEASED. -/
def dmpReleaseBody (c : Call) (s : State) : State × Reply :=
  if c.payload.length ≠ 0 then no stLength s
  else yes [] { s with
    dmp := { s.dmp with summary := s.dmp.summary.map (fun x => { x with released := true }) }
    sys := { s.sys with resetWanted := some 0x09 } }

end Sys2Proof.Machine
end

