-- ==== Sys2Proof/Machine/Boot.lean ====
section
/-! DEFINITION. What each rung of the recovery ladder clears (R78, R97), and the start-up timeline (R73 to R77). -/

namespace Sys2Proof.Machine

/-! ### What a reset clears (R78) -/

/-- What the metering block keeps in ferroelectric memory: the banks, accepted serials, identity states (R147, R151,
R154); and that the next snapshot carries GAP (R158). -/
def keptMtr (m : Mtr) : Mtr :=
  { banks := m.banks, gap := m.gap
    channels := m.channels.map (fun e => (e.1, {
      serial := e.2.serial, identity := e.2.identity, expired := decide (e.2.identity = 4) })) }

/-- What the planner keeps in ferroelectric memory: the fallback schedule (R272), whose ledger number counts on
(R269). -/
def keptPln (s : State) : Pln :=
  { banks := s.pln.banks, ledgerNumber := ((fallbackKept s).map (·.ledger)).getD 0 }

/-- The update journal, the selector, the lock and the floor (R401); the download goes on from the durable offset
(R404). -/
def keptUpd (u : Upd) : Upd := { u with flags := 0, held := u.durable, waiting := none }

/-- The configuration copies. -/
def keptCfg (c : Cfg) : Cfg := { copyA := c.copyA, copyB := c.copyB }

/-- The vault and the role table; the KEY_ window restarts (R395). -/
def keptKey (k : Key) : Key := { k with flags := 0, pubSlot := 0, pubForm := 0 }

/-- The fatal summary; the full dump is lost with DRAM (R78, R444). -/
def keptDmp (d : Dmp) : Dmp := { summary := d.summary }

/-- The time block through a device reset: the ports go down with PD8 (R342, R351), their records are configuration. -/
def keptTim (s : State) : Tim :=
  (slaveLeft { s with tim := { s.tim with record := {}, ports := ptpFactory, parent := none } }).tim

/-- PMU_ through a device reset: PD1 alone is powered. -/
def keptPmu (code : Byte) (p : Pmu) : Pmu :=
  { powered := 0x002, lock := p.lock &&& 0x10, flags := p.flags, resetCause := code, temp := p.temp
    vbatMv := p.vbatMv, markerBegun := p.markerBegun, markerDone := p.markerDone, warmed := p.warmed
    fabBarred := p.fabBarred, fabHalf := p.fabHalf, hot := p.hot }

/-- Rung 3: every domain except PD0 and PD1 is cleared, and so is the EVT_ window; BOOT with cause 0x0002 (R61, R78,
R456). -/
def rungThree (code : Byte) (s : State) : State :=
  let d : State := {}
  let out : Out :=
    { hold := s.out.hold, holdDir := s.out.holdDir, holdPwm := s.out.holdPwm, holdAt := s.out.holdAt
      holdMs := s.out.holdMs, undriven := s.out.undriven }
  let sys : Sys :=
    { mode := .boot, prev := s.sys.mode, cause := 0x0002, since := now s, entry := servo s, token := s.sys.token }
  { d with
    pending := s.pending, sent := s.sent, free := s.free, board := s.board, policy := s.policy
    sys := sys, pmu := keptPmu code s.pmu, tim := keptTim s, rtc := s.rtc, log := { s.log with running := false }
    dmp := keptDmp s.dmp, mtr := keptMtr s.mtr, pln := keptPln s, brd := { d.brd with lease := s.brd.lease }
    out := out, slc := { s.slc with leftBoot := false }, key := keptKey s.key, upd := keptUpd s.upd
    cfg := keptCfg s.cfg }

/-- Without VBAT nothing holds vault SRAM once main power is off (R16, R82). -/
def vaultKept (s : State) : State := if s.board.vbat then s else zeroise s

/-- Rung 4: main power is off. PD0 keeps the vault and the real-time counter; ferroelectric memory, OTP and xSPI keep
what they hold; the mode is VAULT. -/
def rungFour (s0 : State) : State :=
  let s := vaultKept s0
  let d : State := {}
  let log : Log :=
    { permanent := s.log.permanent, circulating := s.log.circulating, next := s.log.next, newest := s.log.newest
      opTicks := s.log.opTicks, opsec := s.log.opsec, cycles := s.log.cycles }
  { d with
    pending := s.pending, sent := s.sent, free := s.free, board := s.board, policy := s.policy
    sys := { d.sys with mode := .vault, prev := s.sys.mode, started := true }
    pmu := { d.pmu with powered := 0, resetCause := s.pmu.resetCause, pwrfail := s.pmu.pwrfail
                        markerBegun := s.pmu.markerBegun, markerDone := s.pmu.markerDone, clockLost := s.pmu.clockLost }
    rtc := { s.rtc with last := 0 }, log := log, dmp := keptDmp s.dmp, mtr := keptMtr s.mtr, pln := keptPln s
    key := { keptKey s.key with switchAt := none }, upd := { keptUpd s.upd with last := 0 }, cfg := keptCfg s.cfg }

/-! ### Step 1 -/

/-- Both views start from the real-time counter, with nominal rates and valid bits 0 (R336). -/
def viewsFromRtc (s : State) : Tim :=
  let holds := s.board.vbat && s.rtc.aligned
  let base : Int := if holds then (s.rtc.ticks : Int) * 4 * nsUnit else 0
  let v : View := { base := base, cbase := 0 }
  let d : Tim := {}
  { d with servo := v, legal := v, rtcInvalid := !holds }

/-- Step 1 of R73 after a power-on: PD1 powered, PD1's registers at reset, a new scramble key, one more power cycle
(R336, R379, R427). -/
def powerOn (cause : Byte) (s : State) : State :=
  let off := rungFour s
  let d : Sys := {}
  let t := { off with
    sys := d
    pmu := { off.pmu with powered := 0x002, resetCause := cause, pwrfail := false, clockLost := false }
    tim := viewsFromRtc s
    log := { off.log with cycles := min (s.log.cycles + 1) (2 ^ 24 - 1) } }
  rescramble t

/-! ### Steps 2 to 8 -/

/-- A step of the timeline: nothing once start-up has failed (R74), nor from the step on at which power fails (R93). -/
def bootStep (cut n : Nat) (f : State → State) (s : State) : State :=
  if s.sys.bootFail = 0 ∧ n < cut then f { s with sys := { s.sys with bootStep := n } } else s

/-- Start-up fails: the device stays in BOOT (R74). -/
def failBoot (code : Byte) (step : Nat) (s : State) : State :=
  { s with sys := { s.sys with bootFail := code, bootStep := step } }

/-- Domains of a list powered (R82). -/
def powerUp (ds : List Nat) (s : State) : State :=
  { s with pmu := { s.pmu with powered := ds.foldl bset s.pmu.powered } }

/-- PLLs of a list locked (R86, R98). -/
def lockPlls (ps : List Nat) (s : State) : State :=
  { s with pmu := { s.pmu with lock := ps.foldl bset s.pmu.lock } }

/-- Step 2: PD5, PD9, PD10, PD11, the SYS and APP PLLs, the PCIe link. The TIME PLL, which runs with PD1, has locked by
then after a power-on; one that has lost lock stays so through a device reset (R86, R88). -/
def stepTwo (s : State) : State :=
  let t := lockPlls (if s.tim.degraded then [1, 2] else [1, 2, 4]) (powerUp [5, 9, 10, 11] s)
  { t with pcie := { t.pcie with linkUp := true } }

/-- Step 3: a pending floor is fused, a trial boot is counted or the device rolls back (R411, R413), entry 62 is
written in FACTORY and RETURNED (R391). -/
def stepThree (s : State) : State :=
  let t := serviceEntry (fusePending s)
  let x := selector t
  if !x.trial then t
  else if x.trials < 3 then
    let u := writeSelector { x with trials := x.trials + 1 } t
    { u with upd := { u.upd with stage := 6 } }
  else rollback t

/-- What steps 4 to 7 make of a slot. -/
inductive BootTry where
  | ok
  /-- the slot fails at step 4, 5 or 7 (R74) -/
  | slot (code : Byte) (step : Nat)
  /-- step 6 fails (R17) -/
  | stop (code : Byte)
deriving DecidableEq, Repr

/-- External DDR5 as R17 requires it: trained, equal channels, at least 8 GiB in all. -/
def ddr5Fits (b : Board) : Bool := match b.ddr5 with
  | (some x, some y) => decide (x = y ∧ 8 ≤ x + y) && b.ddr5Same
  | _ => false

/-- Steps 4 to 7 with one slot. -/
def tryBoot (s : State) (b : Bool) : BootTry :=
  let x := slotImage s b
  if !x.fitted then .slot 0x06 4
  else if !x.signed || decide (x.securityVersion < s.upd.floor) then .slot 0x01 4
  else if !x.coreOk then .slot 0x04 5
  else if !s.board.dramTrains then .stop 0x02
  else if !ddr5Fits s.board then .stop 0x03
  else if !x.partsOk then .slot 0x04 7
  else .ok

/-- FAIL when both slots fail: the cause they share; with one device missing the other's; otherwise open between 0x01
and 0x04 (R74). -/
def bothFail (s : State) (a b : Byte) : Byte :=
  if a = b then a
  else if a = 0x06 then b
  else if b = 0x06 then a
  else if (Config.freeByte s.free 0).getLsbD 0 then 0x01 else 0x04

/-- MEM_ after step 6 (R449). -/
def memoryFound (s : State) : State :=
  { s with mem := { s.mem with
    dramOk := s.board.dramTrains, ddr5Ok := s.board.dramTrains && ddr5Fits s.board
    ch0 := if s.board.dramTrains then s.board.ddr5.1.getD 0 else 0
    ch1 := if s.board.dramTrains then s.board.ddr5.2.getD 0 else 0 } }

/-- The slot that boots. -/
def bootSlot (b : Bool) (s : State) : State :=
  memoryFound { s with sys := { s.sys with bootSlot := b, firmware := (slotImage s b).firmware, bootStep := 7 } }

/-- BOOT_FALLBACK: a trial boot rolls back; a NORMAL selector comes to name the slot that booted (R74, R398, R411). -/
def fallBack (s : State) : State :=
  if (selector s).trial then rollback s else writeSelector { slotB := !(selector s).slotB } s

/-- Steps 4 to 7: the active slot, and the other when step 4, 5 or 7 fails and the other's security version is not below
the floor (R74). -/
def loadFirmware (s : State) : State :=
  let a := (selector s).slotB
  match tryBoot s a with
  | .ok => bootSlot a s
  | .stop c => failBoot c 6 (memoryFound { s with sys := { s.sys with bootSlot := a } })
  | .slot c n =>
    if (slotImage s (!a)).fitted ∧ (slotImage s (!a)).securityVersion < s.upd.floor then
      failBoot (bothFail s c 0x01) n (tickFree { s with sys := { s.sys with bootSlot := a } } 1)
    else
      let t := { s with sys := { s.sys with bootSlot := !a } }
      match tryBoot s (!a) with
      | .ok => bootSlot (!a) (fallBack t)
      | .stop c2 => failBoot c2 6 (memoryFound t)
      | .slot c2 n2 => failBoot (bothFail s c c2) n2 (tickFree t 1)

/-- Step 8: PD3, PD4, PD8, the LOOP PLL, the supervisor and the loop engine. -/
def stepEight (s : State) : State :=
  let t := lockPlls [3] (powerUp [3, 4, 8] s)
  { t with log := beginWrite { t.log with running := true }, lpe := { t.lpe with running := true } }

/-! ### Steps 9 to 11 -/

/-- PMU_FLAGS bits 0 to 2 from the hold-up marker and the clock monitor's record (R92, R98). -/
def markerFlags (s : State) : State :=
  let t := if s.pmu.markerBegun && s.pmu.markerDone then pmuSet 0 s else s
  let u := if s.pmu.markerBegun && !s.pmu.markerDone then
      pmuFlag 1 9 { t with mtr := { t.mtr with gap := true } }
    else t
  let v := if s.pmu.resetCause = 0x03 ∧ s.pmu.markerBegun = true then pmuFlag 2 11 u else u
  { v with pmu := { v.pmu with markerBegun := false, markerDone := false } }

/-- The job records that the configuration brings are in effect from the start: no job has run (R254; log entry 134). -/
def recordsInForce (s : State) : State :=
  { s with pln := { s.pln with effectE := s.pln.recordE, effectP := s.pln.recordP } }

/-- REFIN and AVDD as the start-up has measured them: open (R114). -/
def measuredStart (s : State) : State :=
  let a := (Config.freeWord s.free).toNat
  let refin := if s.adc.refM = 1 ∨ s.adc.refP = 1 then 20000 + a % 10001 else a % 65536
  tickFree { s with adc := { s.adc with
    running := true, readyM := true, readyP := true, refin := BitVec.ofNat 16 refin
    avdd := BitVec.ofNat 16 (Config.freeWord (s.free + 1)).toNat } } 2

/-- Step 10: PD2, the references and converters; metering goes on from the ferroelectric copy, and the sensor identities
are read (R147, R155, R161). -/
def stepTen (s : State) : State :=
  let t := startRecords (measuredStart (powerUp [2] s))
  let t1 := match newerBank t.mtr.banks with
    | some b => loadBank b t
    | none => t
  readChips (noteSched (now t1) { t1 with mtr := { t1.mtr with
    running := true, startedAt := now t1, due := bset t1.mtr.due 2 } })

/-- Step 11: the Ethernet ports take their configured forms (R20), the PTP ports start, the Braid lane trains, the vault
is made ready, the collector runs. -/
def stepEleven (s : State) : State :=
  let t := applyAll restartPort (List.range 8) (applyAll reinitNet (List.range 8) s)
  let u := if t.brd.record.paired then { t with brd := { t.brd with link := 1 } } else t
  vaultBoot { u with pts := { u.pts with running := true, startedAt := now u } }

/-! ### Step 12: the end-of-BOOT decision (R75) -/

/-- The life-cycle states that lead to PROVISION. -/
def provisions (life : Nat) : Bool := decide (life ≠ 3 ∧ life ≠ 5)

/-- The mode that BOOT is left for, rows 2 to 6 of R75. -/
def endMode (s : State) : Mode :=
  if provisions (lifecycle s) then .provision
  else if !commissioned s then .commission
  else if s.brd.record.paired && !s.sys.token && s.board.ownIn then .shadow
  else if plantLatched s then .safe
  else .hold

/-- Which half takes the token at step 12: a device alone always; of a pair one whose partner does not hold, on its way
to a mode that may hold it (R59, R75, R355). -/
def tokenAtEnd (s : State) : State :=
  if !s.brd.record.paired then takeToken s
  else match endMode s with
    | .hold | .safe => takeToken s
    | _ => s

/-- LEGAL time has passed T (R401); the view is judged as it stands (log entry 82). -/
def armPassed (s : State) : Bool := match s.upd.arm with
  | some t => decide (tsNs t ≤ legalNs s)
  | none => false

/-- ARMED with T passed at the end of BOOT: VERIFIED with outcome MISSED (R401, R423). -/
def missedArm (s : State) : State :=
  if s.upd.stage = 4 ∧ armPassed s = true then
    updFlag 2 { s with upd := { s.upd with stage := 3, arm := none, outcome := 2, outcomeStatus := stOk } }
  else s

/-- A half that enters SHADOW asks for the bulk transfers (R363). -/
def rebuildShadow (s : State) : State :=
  if s.sys.mode = .shadow then askNext { s with brd := { s.brd with rebuild := [0, 1, 2, 3, 4, 5] } } else s

/-- What starts once BOOT has ended: transports, the contact timer, the PERIOD instants, the staging area, the trial's
flag, the start HOLD (R48, R66, R76, R254, R421, R423). -/
def afterBoot (fell : Bool) (s : State) : State :=
  let t := { s with
    vcp := { s.vcp with ready := true }
    sys := { s.sys with contact := some (now s)
                        startMove := decide (s.sys.mode = .hold) && s.sys.startSteer }
    pln := { s.pln with bootEnd := now s }
    out := { s.out with undriven := false }
    slc := { s.slc with leftBoot := true } }
  let u := restage (primePeriod true (primePeriod false t))
  let v := missedArm (if u.upd.stage = 6 then updFlag 1 u else u)
  let w := if fell then raise 2 v else v
  applyCanRows (rebuildShadow w)

/-- Step 12: the START record, and the decision; SCRAPPED stays in BOOT (R75, R426). -/
def endOfBoot (fell : Bool) (s : State) : State :=
  let t := report codeStart 0 s.pmu.resetCause.toNat s.sys.firmware.toNat s
  if lifecycle t = 5 then failBoot 0x05 12 t
  else
    let u := tokenAtEnd t
    afterBoot fell (enterMode (endMode u) 0x0003 u)

/-- Steps 2 to 12, as far as the step before `cut`. -/
def timelineTo (cut : Nat) (s : State) : State :=
  let s3 := bootStep cut 3 stepThree (bootStep cut 2 stepTwo s)
  let s7 := bootStep cut 4 loadFirmware s3
  let fell := decide (s7.sys.bootFail = 0) && decide (s7.sys.bootSlot ≠ (selector s3).slotB)
  let s8 := bootStep cut 8 stepEight s7
  let s9 := bootStep cut 9 (fun t => markerFlags (recordsInForce (loadConfig t))) s8
  let t := bootStep cut 12 (endOfBoot fell) (bootStep cut 11 stepEleven (bootStep cut 10 stepTen s9))
  { t with sys := { t.sys with started := true } }

/-- Steps 2 to 12. -/
def timeline (s : State) : State := timelineTo 13 s

/-- The transition to BOOT is complete (R62), and step 1 latches the trip inputs found asserted (R73). -/
def stepOneOfBoot (s : State) : State := latchActive (raise 1 s)

/-- The start-up timeline (R73). -/
def startUp (s : State) : State := timeline (stepOneOfBoot s)

/-! ### Device resets (R78, R80) -/

/-- A reset is announced: SYS_DEVICE_RESET, image activation, rollback (R80). -/
def isAnnounced (code : Byte) : Bool := decide (code = 0x06 ∨ code = 0x07 ∨ code = 0x08)

/-- An announced reset: the fallback write in progress ends first, the partner is told, a holder's lease lasts 30 s
(R80, R272, R359). -/
def announce (s : State) : State :=
  let t := if s.pln.writing.isSome then fallbackDone (fallbackDone s) else s
  if !t.brd.record.paired then t
  else
    let u := sendControl (.notice .announcedReset) t
    if u.sys.token then { u with brd := { u.brd with lease := some (now u + 30 * tickS) } } else u

/-- While an unannounced reset of a holder lasts, its partner in SHADOW misses MISS heartbeats, finds the lease lapsed
and takes the token (R80, R364; log entry 75). -/
def partnerTakes (s : State) : State :=
  if s.brd.record.paired && s.sys.token && linkUp s && decide (s.brd.pmode = some (modeCode .shadow)) then
    let t := yieldToken s
    { t with board := { t.board with ownIn := true } }
  else s

/-- The outputs of a holder freeze (R80, R300). -/
def freeze (s : State) : State := if s.sys.token then engageHold s else s

/-- DEVICE_RESET: rung 3 and the start-up timeline (R78). -/
def deviceReset (code : Byte) (s : State) : State :=
  if !alwaysOn s then s
  else
    let t := freeze (abandonCals (cutCapture s))
    let u := if isAnnounced code then announce t else partnerTakes (cutFallback t)
    startUp (rungThree code u)

/-- A reset that a command has asked for follows its response (R80, R408, R411, R414, R444). -/
def finishReset (s : State) : State := match s.sys.resetWanted with
  | some code => deviceReset code { s with sys := { s.sys with resetWanted := none } }
  | none => s

end Sys2Proof.Machine
end

