-- ==== Sys2Proof/Machine/Power.lean ====
section
/-! DEFINITION. Supplies, hold-up, clocks, heat, VBAT, reset balls, trip inputs, the output-hold timeout and activation
(R80 to R97, R162, R301, R405 to R412). -/

namespace Sys2Proof.Machine

/-! ### Hold-up (R90 to R93) -/

/-- A record written at hold-up step 4 carries HOLDUP and the next index of its area; a partner record is discarded
while the permanent area is not full (R425, R432, R433). -/
def holdupWrite (e : Intake) (l : Log) : Log :=
  if e.partner && decide (l.permanent.length < 2048) then { l with partnerDrop := l.partnerDrop + 1 }
  else holdRecord { e.record with index := takesIndex l e, cycle := e.record.cycle + 2 ^ 26 } l

/-- HOLDUP_RECORDER_WRITE: the write in progress ends as it was, then EV_PWRFAIL and every queued record (R432). -/
def holdupRecords (s : State) : State :=
  let done := match s.log.fifo with
    | e :: _ => if e.begun then writeHead s.log else s.log
    | [] => s.log
  let first : Intake := { record := stamp s 8 0 0 done.pendingLost, partner := false, begun := false }
  { s with log := { (first :: done.fifo).foldl (fun l e => holdupWrite e l) done with fifo := [], pendingLost := 0 } }

/-- Hold-up step 1: the marker, the latch, the event, NOTICE, the lease; a capture stops (R91, R300, R359, R364, R442);
a fallback write in progress is cut off (R272). The sequence that a clock loss runs is the same one: it too raises event 8
and sends the PWRFAIL notice (DESIGN CHOICE, log entry 123). -/
def holdupBegin (s : State) : State :=
  let t := engageHold (abandonCals (cutFallback (cutCapture s)))
  let u := if t.brd.record.paired then sendControl (.notice .pwrfail) t else t
  raise 8 { u with pmu := { u.pmu with markerBegun := true, markerDone := false }, brd := { u.brd with lease := none } }

/-- The partner in SHADOW takes the token while hold-up runs (R355, R364). -/
def holdupTaken (s : State) : State :=
  if s.brd.record.paired && s.sys.token && linkUp s && decide (s.brd.pmode = some (modeCode .shadow)) then
    { s with board := { s.board with ownIn := true } }
  else s

/-- A PLL's bit of PMU_PLL_STAT, and the domain it runs for. -/
def pllBit : Pll → Nat
  | .fab => 0
  | .app => 1
  | .sys => 2
  | .loop => 3
  | .time => 4

/-- What falls during hold-up before step 4 is recorded: a trip latches as at any time, a fatal error and what is one
leave their record and no dump, another PLL loss its own (R93; log entry 124). -/
def holdupEvent (e : HoldupEvent) (s : State) : State := match e with
  | .trip n => if n < 32 then latchTrip n s else s
  | .fatal cause detail => raise 124 (report 124 0 cause.toNat detail.toNat s)
  | .thermal => raise 124 (raise 13 (report 124 0 3 (Config.freeWord s.free).toNat (tickFree s 1)))
  | .pll p =>
    if p = .fab ∨ p = .time then raise 10 (report 10 (pllBit p) 0 0 s)
    else raise 124 (report 124 0 1 (Config.freeWord s.free).toNat (tickFree s 1))

/-- PWRFAIL and CLOCK_LOSS: the hold-up sequence to VAULT. One that the supply does not carry to its end writes nothing
after step 1 and leaves the marker without its completion (R91, R92, R93). -/
def holdup (short clock : Bool) (during : List HoldupEvent) (s : State) : State :=
  if !alwaysOn s then s
  else
    let t := applyAll holdupEvent during (holdupTaken (holdupBegin s))
    let u := if clock then report 11 0 0 0 t else t
    let v := if short then u else
      let w := holdupRecords (holdupMetering u)
      { w with pmu := { w.pmu with markerDone := true } }
    rungFour { v with pmu := { v.pmu with clockLost := clock, pwrfail := !clock } }

/-- The nominal voltage of a main rail in mV, and its tolerance in parts of a thousand (R463). -/
def nominal : Rail → Nat × Nat
  | .vddFab | .vddCore => (750, 30)
  | .vddAon => (800, 30)
  | .vddSrd => (850, 30)
  | .vddhSrd => (1200, 30)
  | .vddqD5 => (1100, 30)
  | .vdram1 => (1800, 30)
  | .vdram2 => (1050, 30)
  | .vdramq => (500, 30)
  | .vioAon | .vioFld | .avdd => (3300, 50)
  | .vio18 => (1800, 50)

/-- A rail below its tolerance (R465). -/
def railLow (r : Rail) (uv : Nat) : Bool := decide (uv < (nominal r).1 * (1000 - (nominal r).2))

/-- PWRFAIL is asserted: VMON below 1.000 V, or a rail below its tolerance, for 2 us (R90, R465). -/
def asserts : SupplyMonitor → Bool
  | .vmon mv ns => decide (mv < 1000 ∧ 2000 ≤ ns)
  | .rail r uv ns => railLow r uv && decide (2000 ≤ ns)

/-- PWRFAIL clears: VMON above 1.030 V (R90). -/
def clears : SupplyMonitor → Bool
  | .vmon mv _ => decide (1030 < mv)
  | .rail _ _ _ => false

/-- PWRFAIL: what the monitors see of the supply. -/
def supplySeen (m : SupplyMonitor) (short : Bool) (during : List (HoldupEvent × Bool)) (s : State) : State :=
  if asserts m then holdup short false ((during.filter (fun e => !e.2)).map (·.1)) s
  else if clears m then { s with pmu := { s.pmu with pwrfail := false } }
  else s

/-! ### Start (R73, R89, R92) -/

/-- The start-up timeline; when power fails at one of its steps, hold-up from there (R93). -/
def startUntil (failsAt : Option Nat) (s : State) : State := match failsAt with
  | none => startUp s
  | some n => holdup false false [] (timelineTo n (stepOneOfBoot s))

/-- MAIN_SUPPLIES_VALID: start-up from VAULT, or from the first power-on, with reset cause 0x01. -/
def mainSupplies (failsAt : Option Nat) (s : State) : State :=
  if s.sys.mode = .vault ∨ (s.sys.mode = .boot ∧ s.sys.started = false) then startUntil failsAt (powerOn 0x01 s) else s

/-- HOLDUP_RESTART: supplies valid at the end of a completed hold-up; reset cause 0x02 (R92). -/
def holdupRestart (failsAt : Option Nat) (s : State) : State :=
  if s.sys.mode = .vault ∧ s.pmu.markerDone = true ∧ s.pmu.clockLost = false then startUntil failsAt (powerOn 0x02 s)
  else s

/-- CLOCK_RETURN: reset cause 0x03 (R89). -/
def clockReturn (failsAt : Option Nat) (s : State) : State :=
  if s.sys.mode = .vault ∧ s.pmu.clockLost = true then startUntil failsAt (powerOn 0x03 s) else s

/-! ### Clocks (R88) -/

/-- The domain while which is powered the PLL runs (R86). -/
def pllDomain : Pll → Nat
  | .fab => 6
  | .app | .sys => 5
  | .loop => 4
  | .time => 1

/-- A PLL runs and is locked, or runs and has lost lock. -/
def pllLocked (s : State) (p : Pll) : Bool := alwaysOn s && pd s (pllDomain p) && s.pmu.lock.getLsbD (pllBit p)
def pllLost (s : State) (p : Pll) : Bool :=
  alwaysOn s && s.sys.started && pd s (pllDomain p) && !s.pmu.lock.getLsbD (pllBit p)

/-- A fatal error whose detail the rules leave open. -/
def fatalOpen (cause : Half) (short : Bool) (s : State) : State :=
  fatal cause (Config.freeWord s.free) short (tickFree s 1)

/-- A second FAB PLL loss within 1 s. -/
def fabAgain (s : State) : Bool := match s.pmu.fabLoss with
  | some c => decide (now s < c + tickS)
  | none => false

/-- PLL_UNLOCK: each loss sets the flag and raises event 10; then by PLL (R88). -/
def pllUnlock (p : Pll) (s : State) : State :=
  if !pllLocked s p then s
  else
    let t := raise 10 (pmuSet 3 { s with pmu := { s.pmu with lock := bclr s.pmu.lock (pllBit p) } })
    match p with
    | .fab =>
      let u := applyAll (fun p => modRunning p (fun r => if r.phase = 3 then stopPoint r else r)) [0, 1]
        { t with pmu := { t.pmu with fabLoss := some (now t) } }
      if fabAgain s then fatalOpen 0x0002 false u else u
    | .time => timFlag 5 { t with tim := { t.tim with degraded := true, phase := 0 } }
    | .loop => fatalOpen 0x0001 false t
    | _ => fatalOpen 0x0001 true t

/-- PLL_RELOCK: the PLL locks again; stopped jobs go on, the counter has its 4 ns resolution back (R88). -/
def pllRelock (p : Pll) (s : State) : State :=
  if !pllLost s p then s
  else
    let t := { s with pmu := { s.pmu with lock := bset s.pmu.lock (pllBit p) } }
    if p = .time then { t with tim := { t.tim with degraded := false, phase := 0 } } else t

/-! ### Heat and VBAT (R95, R96) -/

/-- The fabric domains gated, their pools lost (R16, R83). -/
def gateFabric (a b : Bool) (s : State) : State :=
  let p := if a then bclr s.pmu.powered 6 else s.pmu.powered
  let gone := fun (q : Nat) => if q < 32 then a else b
  { s with
    pmu := { s.pmu with
      powered := if b then bclr p 7 else p, lock := if a then bclr s.pmu.lock 0 else s.pmu.lock }
    slv := { s.slv with
      pools := s.slv.pools.filter (fun e => !gone e.1)
      reach := s.slv.reach.map (fun e => if gone e.1 then (e.1, { e.2 with microcode := false }) else e) } }

/-- A job has been on the fabric: past its start, not waiting for its work area. -/
def onFabric (r : Running) : Bool := decide (r.phase ≠ 1 ∧ r.phase ≠ 10)

/-- THERMAL_TRIP: PD6 and PD7 gated until below 100 degrees, the jobs on them at an end (log entry 77), a fatal error
(R95). -/
def thermalTrip (s : State) : State :=
  let t := applyAll (fun p u => match runningOf u p with
    | some r => if onFabric r then abortRunning p u else u
    | none => u) [0, 1] s
  let u := gateFabric true true { t with pmu := { t.pmu with fabBarred := true } }
  fatalOpen 0x0003 false (raise 13 (pmuSet 5 u))

/-- The hottest of the sensors, in 1/16 degree (R98). -/
def hottest : List Half → Int
  | [] => -32768
  | x :: xs => max (signed 16 x.toNat) (hottest xs)

/-- 100 degrees and above: the warning once per crossing; below, the fabric runs as before. -/
def warmth (t : Int) (s : State) : State :=
  if 1600 ≤ t then
    let u := { s with pmu := { s.pmu with warmed := true, fabHalf := s.pmu.fabHalf || decide (1680 ≤ t) } }
    if s.pmu.warmed then u else raise 12 (pmuSet 4 u)
  else { s with pmu := { s.pmu with warmed := false, fabHalf := false, fabBarred := false } }

/-- TEMPERATURE_SAMPLE: the sensors are read each 1 ms; two readings in a row at 110 degrees or above are the trip
(R95). -/
def temperature (sensors : List Half) (s : State) : State :=
  if !alwaysOn s || sensors.isEmpty || !everyDue s s.pmu.tempAt tickMs then s
  else
    let t := hottest sensors
    let u := warmth t { s with pmu := { s.pmu with
      temp := BitVec.ofInt 16 t, hot := decide (1760 ≤ t), tempAt := some (now s) } }
    if s.pmu.hot && decide (1760 ≤ t) && !s.pmu.fabBarred then thermalTrip u else u

/-- VBAT_MEASURE (R96). A reading above 4,095 mV shows as 4,095 in the 12 bits of PMU_VBAT (DESIGN CHOICE, log entry
125). -/
def vbatMeasure (mv : Nat) (s : State) : State :=
  if !alwaysOn s || !everyDue s s.pmu.vbatAt tickS then s
  else
    let t := { s with pmu := { s.pmu with vbatMv := BitVec.ofNat 12 (min mv 4095), vbatAt := some (now s) } }
    if mv < 2700 then pmuFlag 6 14 t else t

/-- VBAT_APPLIED: PD0 powers up with nothing in it; its counter starts from 0, not aligned (R336, R380). -/
def vbatApplied (s : State) : State :=
  let t := zeroise { s with key := { s.key with
    tamper := 0, tamperAt := 0, wiped := false, tampEn := 15, refreshed := 0 } }
  pairKeyChange (pairSecret s) { t with board := { t.board with vbat := true }, rtc := {} }

/-- A job holds a fabric domain: PD6 for every job, PD7 for one that needs it (R82). -/
def fabricBusy (b : Bool) (s : State) : Bool :=
  s.slv.running.any (fun e => onFabric e.2 && (!b || needsB s e.1 e.2.wide))

/-- FAB_LINGER_EXPIRY: FAB_LINGER after its last job a fabric domain is gated (R83). -/
def fabLingerExpiry (b : Bool) (s : State) : State :=
  let idle := if b then s.pmu.fabBIdle else s.pmu.fabAIdle
  if pd s (if b then 7 else 6) && !fabricBusy b s && passed s idle (s.pmu.fabLinger * tickMs) then gateFabric (!b) b s
  else s

/-! ### Failures -/

/-- FATAL_ERROR: an assertion, a watchdog, an uncorrectable error (R437). -/
def fatalError (cause : Half) (detail : Word) (s : State) : State := fatal cause detail false s

/-- The accumulators stand at their last one-second write (R162). -/
def lastWrite (s : State) : State := match newerBank s.mtr.banks with
  | some b => loadBank b s
  | none => applyAll (fun n t => modMtr n (fun m => { m with accs := {} }) t) (s.mtr.channels.map (·.1)) s

/-- METERING_DSP_FAILURE: re-initialised; a second failure within 60 s stops metering and is fatal (R162). -/
def dspFailure (s : State) : State :=
  if !meteringOn s then s
  else
    let t := dspFault s
    if dspFailsAgain s then
      let u := lastWrite t
      fatalOpen 0x0004 false { u with mtr := { u.mtr with stopped := true } }
    else t

/-! ### Trip inputs (R301 to R303) -/

/-- The level of a trip input changes while PD1 does not watch it. -/
def tripLevelOnly (n : Nat) (active : Bool) (s : State) : State :=
  let high := if s.slc.polarity.getLsbD n then active else !active
  { s with board := { s.board with tripLevel := bput s.board.tripLevel n high } }

/-- What a pulse leaves of the level: shorter than 3 ns it has gone, and the input has not been active since now
(R301, R303). -/
def pulseLevel (n ns : Nat) (s : State) : State :=
  if 3 ≤ ns then setTripLevel n true s
  else if s.slc.enable.getLsbD n then { s with slc := { s.slc with inactive := tset s.slc.inactive n (now s) } }
  else s

/-- TRIP_ACTIVE_EDGE: the trip latches, its outputs go safe, the field buses follow, a PLANT latch takes a holder to
SAFE (R301, R302, R328). -/
def tripEdge (n ns : Nat) (s : State) : State :=
  if 32 ≤ n then s
  else if !alwaysOn s then (if 3 ≤ ns then tripLevelOnly n true s else s)
  else
    let t := pulseLevel n ns s
    if pulseLatches s ns then tripToSafe (applyCanRows (latchTrip n (tickFree t 1))) else tickFree t 1

/-- TRIP_INPUT_INACTIVE (R303). -/
def tripInactive (n : Nat) (s : State) : State :=
  if 32 ≤ n then s else if alwaysOn s then setTripLevel n false s else tripLevelOnly n false s

/-- OUTPUT_HOLD_TIMEOUT: 30 s after a device reset engaged it the latch is released (R80, R300). -/
def outputHoldTimeout (s : State) : State :=
  if s.out.hold.isSome && s.sys.token && passed s s.out.holdAt (30 * tickS) && !reinitRuns s 2 0
  then outFlag 1 (releaseHold s) else s

/-! ### Reset balls (R97) -/

/-- RST_N_LOW: a pulse of at least 1 us resets, one under 100 ns does not, between them either is open. -/
def rstLow (ns : Nat) (s : State) : State :=
  if ns < 100 then s
  else if 1000 ≤ ns then deviceReset 0x04 s
  else if (Config.freeByte s.free 0).getLsbD 0 then deviceReset 0x04 (tickFree s 1)
  else tickFree s 1

/-! ### Activation (R405 to R412) -/

/-- Conditions 1 to 4 of R407: the status that refuses. -/
def activationStatus (s : State) : Half :=
  if s.upd.lock then stOwnerLock
  else if vbatLow s then stVbatLow
  else if !decide (s.sys.mode = .steer ∨ s.sys.mode = .hold ∨ s.sys.mode = .island ∨ s.sys.mode = .shadow
      ∨ s.sys.mode = .service) then stMode
  else if s.pln.hold.isSome then stTransientHold
  else stOk

/-- A refusal returns the stage to VERIFIED (R407). -/
def activationRefused (st : Half) (s : State) : State :=
  updFlag 2 { s with upd := { s.upd with stage := 3, arm := none, waiting := none, outcome := 1, outcomeStatus := st } }

/-- Steps 1 to 3 of R408: the selector written, and an announced reset. -/
def activate (s : State) : State :=
  let b := inactiveSlot s
  let t := writeSelector { slotB := b, trial := true, firmware := (slotImage s b).firmware } { s with upd := {
    s.upd with stage := 5, arm := none, waiting := none } }
  deviceReset 0x07 t

/-- The partner counts as ready: health 0 but for COMPARE, and the armed bundle's firmware (R409). -/
def partnerIsReady (s : State) : Bool :=
  decide (s.brd.partnerHealth &&& ~~~(0x80 : Word) = 0) && decide (s.brd.partnerFirmware = (slotImage s (inactiveSlot s)).firmware)
    && linkUp s

/-- ACTIVATION_TIME: LEGAL time has reached T (R344, R407). The holder of a pair then waits for its partner. -/
def activationTime (s : State) : State :=
  if ¬(s.upd.stage = 4) ∨ armPassed s = false ∨ s.tim.legal.valid = false ∨ s.upd.waiting.isSome = true
      ∨ s.sys.mode.live = false then s
  else if activationStatus s ≠ stOk then activationRefused (activationStatus s) s
  else if s.brd.record.paired && s.sys.token then { s with upd := { s.upd with waiting := some (now s) } }
  else activate s

/-- PARTNER_READY: the conditions are judged again, and the holder hands over (R366, R409); it activates once it is in
SHADOW. -/
def partnerReady (s : State) : State :=
  if s.upd.stage ≠ 4 ∨ s.upd.waiting.isNone = true then s
  else if !s.sys.token || !partnerIsReady s then s
  else if activationStatus s ≠ stOk then activationRefused (activationStatus s) s
  else if loopsDrive s.sys.mode then startHandover s
  else activate s

/-- A holder that waited has handed over and is in SHADOW: it activates (R369, R409). -/
def activateHandedOver (s : State) : State :=
  if s.upd.stage = 4 ∧ s.upd.waiting.isSome = true ∧ s.sys.token = false ∧ s.sys.mode = .shadow
      ∧ partnerIsReady s = true then activate s else s

/-- ACT_WAIT_EXPIRY (R407). -/
def actWaitExpiry (s : State) : State := match s.upd.waiting with
  | some c => if s.upd.stage = 4 ∧ passed s c (s.brd.record.actWaitS * tickS) = true then activationRefused stPartner s else s
  | none => s

/-- CONFIRM_WINDOW_EXPIRY: another trial, or a rollback at the third (R411). -/
def confirmWindow (s : State) : State :=
  if ¬(s.upd.stage = 6) ∨ passed s s.pln.bootEnd (s.cfg.confirmS * tickS) = false ∨ s.sys.mode.live = false then s
  else if (selector s).trials < 3 then deviceReset 0x07 s
  else deviceReset 0x08 (rollback s)

end Sys2Proof.Machine
end

