-- ==== Sys2Proof/Machine/System.lean ====
section
/-! DEFINITION. The System block's commands: SYS_INFO, SYS_STATUS, FUNC_REINIT, SYS_DEVICE_RESET, and the restart of the
loop engine (R54, R55, R79, R300). -/

namespace Sys2Proof.Machine

/-- SYS_INFO (R54): SYS_IDENT, SYS_STEP, SYS_CAP0 and SYS_CAP1, firmware version, active slot, life-cycle state. -/
def sysInfoBody (c : Call) (s : State) : State × Reply :=
  if c.payload.length ≠ 0 then no stLength s
  else if c.cap < 24 then no stRspSpace s
  else yes (le32 (sysReg s 0x00) ++ le32 (sysReg s 0x04) ++ le32 (sysReg s 0x10) ++ le32 (sysReg s 0x14)
    ++ le32 s.sys.firmware.toNat ++ le 1 (bit s.sys.bootSlot) ++ le 1 (lifecycle s) ++ le16 0) s

/-- SYS_STATUS (R54); the rules do not say which flags the word of fault flags holds, so it is open (log entry 83). -/
def sysStatusBody (c : Call) (s : State) : State × Reply :=
  if c.payload.length ≠ 0 then no stLength s
  else if c.cap < 24 then no stRspSpace s
  else yes (le 1 (modeCode s.sys.mode) ++ le 1 (bit s.sys.token) ++ le16 (pmuReg s 0x00)
    ++ le32 (Config.freeWord s.free).toNat ++ tsBytes (servo s)) (tickFree s 1)

/-- SYS_DEVICE_RESET: its response, then an announced device reset (R54, R80). -/
def sysDeviceResetBody (c : Call) (s : State) : State × Reply :=
  if c.payload.length ≠ 4 then no stLength s
  else if u32 c.payload 0 ≠ 0x5A560021 then no stOutOfRange s
  else yes [] { s with sys := { s.sys with resetWanted := some 0x06 } }

/-! ### FUNC_REINIT (R55, R79) -/

/-- A function and instance of R55. -/
def functionOk (f i : Nat) : Bool := match f with
  | 1 => decide (i ≤ 1 ∨ i = 0xFFFF)
  | 2 | 3 | 6 | 7 => decide (i = 0)
  | 4 => decide (i ≤ 15)
  | 5 | 8 => decide (i ≤ 7)
  | _ => false

/-- Ticks after which a function other than the loop engine is whole again: its bound (R79; log entry 84). -/
def reinitTicks : Nat → Nat
  | 1 | 6 => 200 * tickMs
  | 4 => 10 * tickMs
  | 5 => 500 * tickMs
  | _ => 100 * tickMs

/-- Reach microcode: the partition's jobs end with ST_ABORTED. -/
def reinitReach (i : Nat) (s : State) : State :=
  applyAll (fun p t => if i = p ∨ i = 0xFFFF then abortWaiting p (abortRunning p t) else t) [0, 1] s

/-- A period closes with the signing slot of R129, expiry judged before (R131, R153): the signature of a snapshot is one
operation of the slot, in flight until KEY_OPERATION_DONE (R388, log entry 87). -/
def closePeriod (at' : Nat) (endServo endLegal : Ts) (s : State) : State :=
  let t := periodClose (meterKey s).isSome (snapshotSignature s) at' endServo endLegal (judgeExpiry s)
  if decide (t.mtr.snapNext ≠ s.mtr.snapNext) && (meterKey s).isSome then
    tickFree { t with key := { t.key with inFlight := t.key.inFlight ++ [s.mtr.signSlot] } } 2
  else t

/-- METERING_PERIOD_CLOSE: at each period boundary once (R131). -/
def meteringPeriodClose (s : State) : State :=
  let t := boundary s
  if t ≤ max s.mtr.closedAt s.mtr.startedAt then s
  else
    let a := servoAt (asOf t s) t
    let b := legalAt s t
    feedMetering (.close t a b) (closePeriod t a b) { s with mtr := { s.mtr with closedAt := t } }

/-- The metering DSP is whole: what has waited is integrated (R79). -/
def integrateHeld (s : State) : State := if meteringOn s then integrateWith closePeriod s else s

/-- Metering DSP: its converters sample on, and what they bring waits until it is whole (R79; `feedMetering`). -/
def reinitMetering (s : State) : State := { s with mtr := { s.mtr with held := [] } }

/-- The loop engine stops: the latch engages, traces are lost (R79, R300); it is whole again at LOOP_ENGINE_RESTART. -/
def stopEngine (s : State) : State :=
  let t := engageHold s
  { t with lpe := { t.lpe with running := false, traces := [] } }

/-- What a re-initialisation does as it begins (R79). -/
def reinitOne (f i : Nat) (s : State) : State := match f with
  | 1 => reinitReach i s
  | 2 => stopEngine s
  | 3 => reinitMetering s
  | 4 => reinitCan i s
  | 5 => portDown i s
  | 6 => reinitCollector s
  | 7 => reinitBraid s
  | _ => reinitPtp i s

/-- What it leaves as it ends (R79); the loop engine has an ending of its own. -/
def reinitWhole (f i : Nat) (s : State) : State := match f with
  | 3 => integrateHeld s
  | 4 => canRejoin i s
  | 5 => reinitNet i s
  | 6 => collectorWhole s
  | 7 => if s.brd.record.paired then retrain s else s
  | 8 => restartPort i s
  | _ => s

/-- FUNC_REINIT (R55, R79): what it addresses is not ready from now on; its response posts as that is whole. -/
def funcReinitBody (c : Call) (s : State) : State × Reply :=
  let f := u16 c.payload 0
  let i := u16 c.payload 2
  if c.payload.length ≠ 4 then no stLength s
  else if !functionOk f i then no stOutOfRange s
  else
    let t := reinitOne f i s
    let e : Reinit := { func := f, unit := i, ends := if f = 2 then none else some (now s + reinitTicks f) }
    (defer c 0x0020 f i { t with sys := { t.sys with reinit := t.sys.reinit ++ [e] } }, .later)

/-- Every enabled slot is evaluated once in tracking; an express slot, which has no injection, tracks by its value in
force. -/
def trackOnce (s : State) : State :=
  applyAll (fun k t =>
    let x := slotState t k
    if !x.enabled || !hasRecord x then t
    else
      let u := takeRecord k t
      let r := (slotState u k).record
      if lrFbSrc r = 2 then modSlot k (fun y => { y with
        evaluated := true, resume := outputInForce u k, u := (outputInForce u k).getD y.u }) u
      else
        let f := formSetpoint k (servoNs u) u
        evaluateWith k (now u) (readSource f.1 r (lrFbSrc r) (lrFbRef r) (now u)) f.2.1 f.2.2.1 f.2.2.2 false f.1)
    (s.lpe.slots.map (·.1)) s

/-- The FUNC_REINIT that waits for a function's instance is answered, and event 5 raised (R55). -/
def reinitDone (f i : Nat) (s : State) : State :=
  let mine := fun (d : Deferred) => decide (d.opcode = 0x0020 ∧ d.channel = f ∧ d.object = i)
  raise 5 (applyAll (fun d t => answer d stOk [] t) (s.vcp.deferred.filter mine)
    { s with vcp := { s.vcp with deferred := s.vcp.deferred.filter (fun d => !mine d) } })

/-- A re-initialisation is over. -/
def endReinit (x : Reinit) (s : State) : State :=
  { s with sys := { s.sys with reinit := s.sys.reinit.filter (fun y => decide (y ≠ x)) } }

/-- LOOP_ENGINE_RESTART: the integrators come back from the last snapshot, each slot is evaluated once in tracking, the
latch is released, the response posts and event 5 is raised (R55, R79, R300). -/
def engineRestart (s : State) : State := match s.sys.reinit.find? (fun x => decide (x.func = 2)) with
  | none => s
  | some x =>
    let u := endReinit x s
    let t := restoreSnapshot s.lpe.snapshot { u with lpe := { u.lpe with running := true } }
    reinitDone x.func x.unit (releaseHold (if loopsRun t then trackOnce t else t))

/-- The re-initialisations whose bound has passed end: each function is whole, its response posts, event 5 is raised. -/
def finishReinits (s : State) : State :=
  applyAll (fun (x : Reinit) t => reinitDone x.func x.unit (reinitWhole x.func x.unit (endReinit x t)))
    (s.sys.reinit.filter (fun x => match x.ends with
      | some c => decide (c ≤ now s)
      | none => false)) s

end Sys2Proof.Machine
end

