-- ==== Sys2Proof/Machine/Opcodes.lean ====
section
/-! DEFINITION. The opcode table of R54: role, modes and request fields of every opcode, and its body. -/

namespace Sys2Proof.Machine

/-- Request bytes of variable length before the descriptor that ends a DMA_OUT payload (R36): the first length at which a
descriptor with its own count fills the rest. -/
def beforeDescriptor (b : Bytes) : Nat :=
  ((List.range b.length).find? (fun n => decide (n + 8 + 16 * u16 b n = b.length))).getD b.length

/-! Bodies of opcodes that meet something outside the command, where the packet brings no word of it. -/

/-- MTR_CHAN_SET judges the signing slot by the vault (R128, R157). -/
def mtrChanSetNow : Body := fun c s => mtrChanSetBody (meterSlotOk s) c s

/-- ADC_SYSCAL's averages are what the converters see: open (log entry 85). -/
def adcSyscalOpen : Body := fun c s =>
  let m : SyscalMean :=
    { samples := (Config.freeWord s.free).toNat, mean := signed 32 (Config.freeWord (s.free + 1)).toNat
      flagged := (Config.freeByte (s.free + 2) 0).getLsbD 0 }
  adcSyscalBody m c (tickFree s 3)

/-- MTR_SENSOR_ACCEPT reads the chip that the board carries (R154). -/
def mtrSensorAcceptBoard : Body := fun c s => mtrSensorAcceptBody (boardTry s (u8 c.payload 0)) c s

/-- KEY_DESTROY's read-back finds what the slot's cells hold: open (R390, log entry 85). -/
def keyDestroyOpen : Body := fun c s => keyDestroyBody ((Config.freeByte s.free 0).getLsbD 0) c (tickFree s 1)

/-- CFG_COMMIT's read-back: open (R421, log entry 85). -/
def cfgCommitOpen : Body := fun c s => cfgCommitBody ((Config.freeByte s.free 0).getLsbD 0) c (tickFree s 1)

/-- A VCP command as its row brings it: acceptance, body, response, and the reset it may have asked for. -/
def runOp (o : OpRow) (body : Body) (c : Cmd) (s : State) : State := finishReset (runCommand o body c s)

/-! ### The rows -/

def rowSesChallenge : OpRow := ⟨0x0001, none, mAny, fixed 0⟩
def rowSesOpen : OpRow := ⟨0x0002, none, mAny, fun b => 44 + u16 b 40⟩
def rowSesClose : OpRow := ⟨0x0003, some 0, mAny, fixed 0⟩
def rowSysNop : OpRow := ⟨0x0004, some 0, mAny, beforeDescriptor⟩
def rowSysInfo : OpRow := ⟨0x0010, some 0, mAny, fixed 0⟩
def rowSysStatus : OpRow := ⟨0x0011, some 0, mAny, fixed 0⟩
def rowFuncReinit : OpRow := ⟨0x0020, some 2, mLive, fixed 4⟩
def rowSysDeviceReset : OpRow := ⟨0x0021, some 3, mLive, fixed 4⟩
def rowModeGet : OpRow := ⟨0x0101, some 0, mAny, fixed 0⟩
def rowModeRequest : OpRow := ⟨0x0102, some 1, mLive, fixed 4⟩
def rowIslandPolicySet : OpRow := ⟨0x0103, some 3, mCfgOps, fixed 52⟩
def rowIslandPolicyGet : OpRow := ⟨0x0104, some 0, mLive, fixed 0⟩
def rowAdcChanSet : OpRow := ⟨0x0201, some 2, mCfg, fun b => 4 + u16 b 2⟩
def rowAdcSeqSet : OpRow := ⟨0x0202, some 2, mCfg, fun b => 4 + 4 * u8 b 1⟩
def rowAdcSampleRead : OpRow := ⟨0x0203, some 0, mRun, fixed 2⟩
def rowAdcCalSet : OpRow := ⟨0x0204, some 2, mCfg, fixed 12⟩
def rowAdcSyscal : OpRow := ⟨0x0205, some 2, mCfg, fixed 4⟩
def rowMtrRead : OpRow := ⟨0x0301, some 0, mRun, fixed 1⟩
def rowMtrSnapRead : OpRow := ⟨0x0302, some 0, mRun, fixed 8⟩
def rowMtrChanSet : OpRow := ⟨0x0303, some 2, mCfg, fun b => if u8 b 0 = 255 then 20 else 36⟩
def rowMtrTcompSet : OpRow := ⟨0x0304, some 2, mCfg, fixed 260⟩
def rowMtrSensorAccept : OpRow := ⟨0x0305, some 3, mRun, fixed 20⟩
def rowMtrPulseSet : OpRow := ⟨0x0306, some 2, mCfg, fixed 12⟩
def rowPtsDeclare : OpRow := ⟨0x0401, some 2, mCfgOps, fun b => 4 + 16 * u32 b 0⟩
def rowPtsRead : OpRow := ⟨0x0402, some 0, mRun, fun b => 4 + 4 * u32 b 0⟩
def rowPtsWrite : OpRow := ⟨0x0403, some 1, mOps, fun b => 4 + 16 * u32 b 0⟩
def rowPtsSnapshot : OpRow := ⟨0x0404, some 0, mRun, fixed 8⟩
def rowPtsUnitSet : OpRow := ⟨0x0405, some 2, mCfgOps, fixed 8⟩
def rowPtsUnitStatus : OpRow := ⟨0x0406, some 0, mRun, fixed 4⟩
def rowCrsBegin : OpRow := ⟨0x0501, some 2, mCfgOps, fixed 24⟩
def rowCrsData : OpRow := ⟨0x0502, some 2, mCfgOps, beforeDescriptor⟩
def rowCrsCommit : OpRow := ⟨0x0503, some 2, mCfgOps, fixed 4⟩
def rowCrsDelta : OpRow := ⟨0x0504, some 1, mOps, fun b => 24 + 16 * u32 b 20⟩
def rowCrsInfo : OpRow := ⟨0x0505, some 0, mRun, fixed 4⟩
def rowCrsDrop : OpRow := ⟨0x0506, some 2, mCfg, fixed 4⟩
def rowJobSet : OpRow := ⟨0x0601, some 2, mCfgOps, fixed 156⟩
def rowJobRun : OpRow := ⟨0x0602, some 1, mOps, fixed 20⟩
def rowJobAbort : OpRow := ⟨0x0603, some 1, mOps, fixed 4⟩
def rowJobResult : OpRow := ⟨0x0604, some 0, mRun, fixed 4⟩
def rowLedgerRead : OpRow := ⟨0x0605, some 0, mRun, fixed 8⟩
def rowPartSet : OpRow := ⟨0x0606, some 2, mCfg, fixed 4⟩
def rowLoopSet : OpRow := ⟨0x0701, some 2, mCfg, fixed 100⟩
def rowLoopGainSet : OpRow := ⟨0x0702, some 2, mCfgOps, fixed 516⟩
def rowLoopRead : OpRow := ⟨0x0703, some 0, mRun, fixed 4⟩
def rowLoopEnable : OpRow := ⟨0x0704, some 1, mOps, fixed 4⟩
def rowTraceArm : OpRow := ⟨0x0705, some 2, mRun, fixed 20⟩
def rowTraceRead : OpRow := ⟨0x0706, some 0, mRun, fixed 8⟩
def rowOutSet : OpRow := ⟨0x0801, some 1, fun m => decide (m = .manual), fixed 8⟩
def rowOutBind : OpRow := ⟨0x0802, some 2, mCfg, fixed 4⟩
def rowSlcSafeSet : OpRow := ⟨0x0803, some 2, mCfg, fixed 8⟩
def rowSlcStatus : OpRow := ⟨0x0804, some 0, mAny, fixed 0⟩
def rowSlcRelease : OpRow := ⟨0x0805, some 2, mLive, fixed 4⟩
def rowOutRead : OpRow := ⟨0x0806, some 0, mRun, fixed 4⟩
def rowCanChanSet : OpRow := ⟨0x0901, some 2, mCfg, fixed 20⟩
def rowCanObjSet : OpRow := ⟨0x0902, some 2, mCfg, fixed 116⟩
def rowCanSend : OpRow := ⟨0x0903, some 1, mOps, fun b => 4 + u8 b 3⟩
def rowCanCancel : OpRow := ⟨0x0904, some 1, mOps, fixed 4⟩
def rowCanStatus : OpRow := ⟨0x0905, some 0, mRun, fixed 4⟩
def rowTimRead : OpRow := ⟨0x0A01, some 0, mAny, fixed 0⟩
def rowTimLegalSet : OpRow := ⟨0x0A02, some 3, mCfg, fixed 16⟩
def rowTimPtpSet : OpRow := ⟨0x0A03, some 2, mCfg, fixed 36⟩
def rowTimServoSet : OpRow := ⟨0x0A04, some 2, mCfg, fixed 40⟩
def rowPairStatus : OpRow := ⟨0x0B01, some 0, mAny, fixed 0⟩
def rowPairSet : OpRow := ⟨0x0B02, some 2, mCfg, fixed 16⟩
def rowPairHandover : OpRow := ⟨0x0B03, some 2, fun m => decide (m = .steer ∨ m = .hold ∨ m = .island ∨ m = .shadow), fixed 4⟩
def rowPairCompare : OpRow := ⟨0x0B04, some 0, mRun, fixed 4⟩
def rowKeyStatus : OpRow := ⟨0x0C01, some 0, mLive, fixed 4⟩
def rowKeyDerive : OpRow := ⟨0x0C02, some 3, mCfgOps, fun b => 8 + u8 b 4⟩
def rowKeyUpdate : OpRow := ⟨0x0C03, some 3, mCfgOps, fixed 188⟩
def rowKeyDestroy : OpRow := ⟨0x0C04, some 3, mLive, fixed 4⟩
def rowKeyRoleSet : OpRow := ⟨0x0C05, some 3, mCfg, fun b => 8 + u16 b 4⟩
def rowLcAdvance : OpRow := ⟨0x0C06, some 3, fun m => decide (m = .provision ∨ m = .service), fun b => 12 + u16 b 10 + u16 b 6⟩
def rowUpdBegin : OpRow := ⟨0x0D01, some 2, mUpdate, fixed 56⟩
def rowUpdData : OpRow := ⟨0x0D02, some 2, mUpdate, beforeDescriptor⟩
def rowUpdVerify : OpRow := ⟨0x0D03, some 2, mUpdate, fixed 0⟩
def rowUpdArm : OpRow := ⟨0x0D04, some 3, mUpdate, fixed 16⟩
def rowUpdConfirm : OpRow := ⟨0x0D05, some 2, mLive, fixed 0⟩
def rowUpdAbort : OpRow := ⟨0x0D06, some 2, mLive, fixed 0⟩
def rowUpdStatus : OpRow := ⟨0x0D07, some 0, mAny, fixed 0⟩
def rowUpdLock : OpRow := ⟨0x0D08, some 3, mLive, fixed 4⟩
def rowCfgRead : OpRow := ⟨0x0D10, some 0, mLive, fixed 8⟩
def rowCfgStage : OpRow := ⟨0x0D11, some 2, mCfg, beforeDescriptor⟩
def rowCfgCommit : OpRow := ⟨0x0D12, some 2, mCfg, fixed 0⟩
def rowRecRead : OpRow := ⟨0x0E01, some 0, mLive, fixed 8⟩
def rowRecClear : OpRow := ⟨0x0E02, some 3, mLive, fixed 0⟩
def rowRecInfo : OpRow := ⟨0x0E03, some 0, mLive, fixed 0⟩
def rowDmpInfo : OpRow := ⟨0x0E04, some 0, mAny, fixed 0⟩
def rowDmpRead : OpRow := ⟨0x0E05, some 2, fun m => decide (m = .dump ∨ m = .service), fixed 12⟩
def rowDmpRelease : OpRow := ⟨0x0E06, some 2, fun m => decide (m = .dump), fixed 0⟩

/-- The row and the body of an opcode; none for an unassigned one (R54). -/
def opOf (code : Nat) : Option (OpRow × Body) := match code with
  | 0x0001 => some (rowSesChallenge, sesChallengeBody)
  | 0x0002 => some (rowSesOpen, sesOpenBody)
  | 0x0003 => some (rowSesClose, sesCloseBody)
  | 0x0004 => some (rowSysNop, sysNopBody)
  | 0x0010 => some (rowSysInfo, sysInfoBody)
  | 0x0011 => some (rowSysStatus, sysStatusBody)
  | 0x0020 => some (rowFuncReinit, funcReinitBody)
  | 0x0021 => some (rowSysDeviceReset, sysDeviceResetBody)
  | 0x0101 => some (rowModeGet, modeGetBody)
  | 0x0102 => some (rowModeRequest, modeRequestBody)
  | 0x0103 => some (rowIslandPolicySet, islandPolicySetBody)
  | 0x0104 => some (rowIslandPolicyGet, islandPolicyGetBody)
  | 0x0201 => some (rowAdcChanSet, adcChanSetBody)
  | 0x0202 => some (rowAdcSeqSet, adcSeqSetBody)
  | 0x0203 => some (rowAdcSampleRead, adcSampleReadBody)
  | 0x0204 => some (rowAdcCalSet, adcCalSetBody)
  | 0x0205 => some (rowAdcSyscal, adcSyscalOpen)
  | 0x0301 => some (rowMtrRead, mtrReadBody)
  | 0x0302 => some (rowMtrSnapRead, mtrSnapReadBody)
  | 0x0303 => some (rowMtrChanSet, mtrChanSetNow)
  | 0x0304 => some (rowMtrTcompSet, mtrTcompSetBody)
  | 0x0305 => some (rowMtrSensorAccept, mtrSensorAcceptBoard)
  | 0x0306 => some (rowMtrPulseSet, mtrPulseSetBody)
  | 0x0401 => some (rowPtsDeclare, ptsDeclareMirror)
  | 0x0402 => some (rowPtsRead, ptsReadBody)
  | 0x0403 => some (rowPtsWrite, ptsWriteMirror)
  | 0x0404 => some (rowPtsSnapshot, ptsSnapshotBody)
  | 0x0405 => some (rowPtsUnitSet, ptsUnitSetBody)
  | 0x0406 => some (rowPtsUnitStatus, ptsUnitStatusBody)
  | 0x0501 => some (rowCrsBegin, crsBeginBody)
  | 0x0502 => some (rowCrsData, crsDataBody)
  | 0x0503 => some (rowCrsCommit, crsCommitBody)
  | 0x0504 => some (rowCrsDelta, crsDeltaBody)
  | 0x0505 => some (rowCrsInfo, crsInfoBody)
  | 0x0506 => some (rowCrsDrop, crsDropBody)
  | 0x0601 => some (rowJobSet, jobSetBody policyStale)
  | 0x0602 => some (rowJobRun, jobRunBody)
  | 0x0603 => some (rowJobAbort, jobAbortBody)
  | 0x0604 => some (rowJobResult, jobResultBody)
  | 0x0605 => some (rowLedgerRead, ledgerReadBody)
  | 0x0606 => some (rowPartSet, partSetBody)
  | 0x0701 => some (rowLoopSet, loopSetBody)
  | 0x0702 => some (rowLoopGainSet, loopGainSetBody)
  | 0x0703 => some (rowLoopRead, loopReadBody)
  | 0x0704 => some (rowLoopEnable, loopEnableBody)
  | 0x0705 => some (rowTraceArm, traceArmBody)
  | 0x0706 => some (rowTraceRead, traceReadBody)
  | 0x0801 => some (rowOutSet, outSetBody)
  | 0x0802 => some (rowOutBind, outBindBody)
  | 0x0803 => some (rowSlcSafeSet, slcSafeSetBody)
  | 0x0804 => some (rowSlcStatus, slcStatusBody)
  | 0x0805 => some (rowSlcRelease, slcReleaseBody)
  | 0x0806 => some (rowOutRead, outReadBody)
  | 0x0901 => some (rowCanChanSet, canChanSetBody)
  | 0x0902 => some (rowCanObjSet, canObjSetBody)
  | 0x0903 => some (rowCanSend, canSendBody)
  | 0x0904 => some (rowCanCancel, canCancelBody)
  | 0x0905 => some (rowCanStatus, canStatusBody)
  | 0x0A01 => some (rowTimRead, timReadBody)
  | 0x0A02 => some (rowTimLegalSet, timLegalSetBody)
  | 0x0A03 => some (rowTimPtpSet, timPtpSetBody)
  | 0x0A04 => some (rowTimServoSet, timServoSetBody)
  | 0x0B01 => some (rowPairStatus, pairStatusBody)
  | 0x0B02 => some (rowPairSet, pairSetBody)
  | 0x0B03 => some (rowPairHandover, pairHandoverBody)
  | 0x0B04 => some (rowPairCompare, pairCompareBody)
  | 0x0C01 => some (rowKeyStatus, keyStatusBody)
  | 0x0C02 => some (rowKeyDerive, keyDeriveBody)
  | 0x0C03 => some (rowKeyUpdate, keyUpdateBody)
  | 0x0C04 => some (rowKeyDestroy, keyDestroyOpen)
  | 0x0C05 => some (rowKeyRoleSet, keyRoleSetBody)
  | 0x0C06 => some (rowLcAdvance, lcAdvanceBody)
  | 0x0D01 => some (rowUpdBegin, updBeginBody)
  | 0x0D02 => some (rowUpdData, updDataBody)
  | 0x0D03 => some (rowUpdVerify, updVerifyBody)
  | 0x0D04 => some (rowUpdArm, updArmBody)
  | 0x0D05 => some (rowUpdConfirm, updConfirmBody)
  | 0x0D06 => some (rowUpdAbort, updAbortBody)
  | 0x0D07 => some (rowUpdStatus, updStatusBody)
  | 0x0D08 => some (rowUpdLock, updLockBody)
  | 0x0D10 => some (rowCfgRead, cfgReadBody)
  | 0x0D11 => some (rowCfgStage, cfgStageBody)
  | 0x0D12 => some (rowCfgCommit, cfgCommitOpen)
  | 0x0E01 => some (rowRecRead, recReadBody)
  | 0x0E02 => some (rowRecClear, recClearBody)
  | 0x0E03 => some (rowRecInfo, recInfoBody)
  | 0x0E04 => some (rowDmpInfo, dmpInfoBody)
  | 0x0E05 => some (rowDmpRead, dmpReadBody)
  | 0x0E06 => some (rowDmpRelease, dmpReleaseBody)
  | _ => none

/-- The commands whose change a power failure can leave half made, by opcode, cut off as far on as they had come. -/
def cutOp (opcode reached : Nat) : Option (OpRow × Body) :=
  let committed := decide (reached ≠ 0)
  match opcode with
  | 0x0C02 => some (rowKeyDerive, keyDeriveWith (cutKey committed))
  | 0x0C03 => some (rowKeyUpdate, keyUpdateWith (cutKey committed))
  | 0x0C06 => some (rowLcAdvance, lcAdvanceWith (cutMove committed))
  | 0x0D05 => some (rowUpdConfirm, cutConfirm committed)
  | 0x0D12 => some (rowCfgCommit, cfgCommitWith (fun _ => cutCommit reached))
  | _ => none

/-- A command under way as power fails (R377, R387, R413, R421). -/
def cutCommand (c : Option CutCommand) (s : State) : State :=
  match c.bind (fun x => (cutOp x.opcode.toNat x.reached).map (fun o => (o, x.cmd))) with
  | some (o, cmd) => runCommand o.1 o.2 cmd s
  | none => s

/-- The next command that waits behind another of its block and no longer has to (R44). -/
def nextHeld (s : State) : Option Held :=
  s.vcp.held.find? (fun h => !mustWait h.code h.cmd.payload
    { s with vcp := { s.vcp with held := s.vcp.held.takeWhile (fun x => decide (x ≠ h)) } })

/-- Commands that waited run, in the order they passed step 10 (R44). -/
def releaseHeld : Nat → State → State
  | 0, s => s
  | fuel + 1, s => match nextHeld s with
    | none => s
    | some h =>
      let t := { s with vcp := { s.vcp with held := s.vcp.held.erase h } }
      releaseHeld fuel (match opOf h.code with
        | some (o, body) => finishReset (runHeld o body h.cmd t)
        | none => t)

/-- What follows of itself between two commands: what waited for the one before runs, `dt` ticks of 4 ns pass,
re-initialisations whose bound they reach end, and the fabric works on the jobs that it runs (log entries 2, 84 and
132). -/
def State.elapse (s : State) (dt : Nat) : State :=
  applyAll (fun p t => fabricRun p (now s) t) [0, 1] (finishReinits ((releaseHeld s.vcp.held.length s).advance dt))

end Sys2Proof.Machine
end

