-- ==== Sys2Proof/Machine/Transport.lean ====
section
/-! DEFINITION. The transports: framing (steps 1 to 4 of R33), submission queues (R47, R48), the SPI port (R51), VCP over
DTLS (R49). -/

namespace Sys2Proof.Machine

/-! ### A packet (R29 to R33) -/

/-- A packet's command, as its header reads; the trailer takes the last `trailer` bytes. -/
def packetCmd (w : Return) (rspBuf : Nat) (host : Option Bytes) (trailer : Nat) (b : Bytes) : Cmd :=
  { transport := w.transport, assoc := w.assoc, tag := w.tag, rspBuf := rspBuf, rspAddr := w.address, sqHead := w.head
    flags := BitVec.ofNat 8 (u8 b 3), seq := w32 b 4, sid := w32 b 12
    payload := slice b 16 (b.length - 16 - trailer), host := host }

/-- The bytes of the trailer that the packet carries itself (R32). -/
def trailerBytes (t : Transport) : Nat := match t with
  | .udp => 0
  | _ => 4

/-- The status that steps 1 to 4 of R33 refuse a packet with, in their order; ST_OK when they pass. -/
def framingStatus (limit : Nat) (t : Transport) (b : Bytes) : Half :=
  let n := trailerBytes t
  if n ≠ 0 ∧ u32 b (b.length - 4) ≠ (crc32c (b.take (b.length - 4))).toNat then stBadCrc
  else if u16 b 0 ≠ 0x5A56 then stBadMagic
  else if u8 b 2 ≠ 1 then stBadVersion
  else if !flagsOk t (BitVec.ofNat 8 (u8 b 3)) then stBadHeader
  else if limit < u16 b 10 then stTooLong
  else if u16 b 10 ≠ b.length - 16 - n then stLength
  else stOk

/-- An opcode that R54 does not list: steps 3 to 7, then ST_BAD_OPCODE (R33). -/
def runUnassigned (code : Nat) (c : Cmd) (s : State) : State :=
  let o : OpRow := { code := code, role := some 0, modes := mAny, fields := fixed 0 }
  match earlyChecks false c s with
  | .done (.refuse st) => respond o c false st [] (touch c s)
  | .done (.again r) => respondAgain c r (touch c s)
  | .done _ => s
  | .go _ => respond o c false stBadOpcode [] (touch c s)

/-- A command of a packet runs by its opcode. -/
def runCode (code : Nat) (c : Cmd) (s : State) : State := match opOf code with
  | some (o, body) => runCommand o body c s
  | none => runUnassigned code c s

/-- A packet that a transport brings. One too short for its header and trailer has no sequence to answer under and is
discarded (log entry 86). -/
def runPacket (w : Return) (rspBuf : Nat) (host : Option Bytes) (b : Bytes) (s : State) : State :=
  let c := packetCmd w rspBuf host (trailerBytes w.transport) b
  let st := framingStatus (transportLimit w.transport (sessionOf s w.transport w.assoc c.sid)) w.transport b
  if !served w.transport s || decide (b.length < 16 + trailerBytes w.transport) then s
  else if st ≠ stOk then post w c.seq c.sid (u16 b 8) (rspFlags c.flags false) st [] s
  else runCode (u16 b 8) c s

/-! ### Submission queues (R47, R48) -/

/-- A completion queue is full: one more entry would meet the head (R47). -/
def cqFull (r : Ring) : Bool := decide ((r.cqt + 1) % 2 ^ r.cqLog = r.cqh % 2 ^ r.cqLog)

/-- The device fetches from a ring: enabled with EN and ENABLE, served, its queue not empty, its completions not full. -/
def mayFetch (s : State) (n : Nat) : Bool :=
  let r := ringOf s n
  decide (n < 8) && s.vcp.enable && r.en && !r.closing && served .pcie s && decide (r.sqh ≠ r.sqt) && !cqFull r

/-- The head of the submission queue moves past the entry fetched. -/
def passEntry (n : Nat) (s : State) : State :=
  let r := ringOf s n
  setRing n { r with sqh := (r.sqh + 1) % 2 ^ r.sqLog } s

/-- Responses and completions of a ring that were lost on their way to host memory: what this command emitted is not
written, and the completion queue stays as it was (R48). The MSI-X message of the completion still goes (DESIGN CHOICE,
log entry 116). -/
def loseResponse (n : Nat) (was : Ring) (before : Nat) (s : State) : State :=
  let kept := (s.sent.drop before).filter (fun e => match e with
    | .response _ _ _ _ _ _ _ _ _ _ => false
    | .hostWrite _ _ => false
    | .completion _ _ _ _ _ _ => false
    | _ => true)
  cmdErr 1 (setRing n { ringOf s n with cqt := was.cqt, phase := was.phase }
    { s with sent := s.sent.take before ++ kept })

/-- The command that an entry names: not fetched when its size is out of range; a packet whose fetch fails has no response
(log entry 86). -/
def runEntry (n : Nat) (e : Bytes) (f : SqFetch) (s : State) : State :=
  let size := u32 e 16
  let w : Return :=
    { transport := .pcie, assoc := n, tag := w32 e 24, address := w64 e 8, head := (ringOf s n).sqh }
  if size < 20 ∨ 16404 < size then complete n w.tag stLength 0 w.head s
  else match f.packet with
    | none => cmdErr 0 s
    | some p => runPacket w (u32 e 20) f.host ((p ++ zeros size).take size) s

/-- SQ_ENTRY_FETCH: the device fetches the entry at the head, and its packet (R47). -/
def sqFetch (n : Nat) (f : SqFetch) (s : State) : State :=
  if !mayFetch s n then s
  else
    let t := passEntry n s
    match f.entry with
    | none => cmdErr 0 t
    | some e =>
      let u := runEntry n e f t
      if f.rspFault then loseResponse n (ringOf t n) t.sent.length u else u

/-! ### The SPI port (R51) -/

/-- The port answers: PD5 powered, the boot ROM or firmware running. -/
def spiOn (s : State) : Bool := served .spi s

/-- SPI instruction 0x01. -/
def spiQueue (b : Bytes) (s : State) : State :=
  if !spiOn s then s
  else if s.vcp.spiBusy || s.vcp.spiRsp.isSome then { s with vcp := { s.vcp with spiFrameErr := true } }
  else
    let t := runPacket { transport := .spi } 0 none b { s with vcp := { s.vcp with spiBusy := true } }
    { t with vcp := { t.vcp with spiBusy := t.vcp.deferred.any (fun d => decide (d.transport = .spi))
                        || t.vcp.held.any (fun h => decide (h.cmd.transport = .spi)) } }

/-- SPI instruction 0x02. -/
def spiStatus (s : State) : State :=
  if !spiOn s then s
  else
    let b := bit s.vcp.spiBusy + 2 * bit s.vcp.spiRsp.isSome + 4 * bit s.vcp.spiFrameErr
    emit (.spi (le 1 b)) { s with vcp := { s.vcp with spiFrameErr := false } }

/-- SPI instruction 0x03, for `n` bytes; bytes past the end read 0. -/
def spiResponse (n : Nat) (s : State) : State :=
  if !spiOn s then s
  else emit (.spi ((s.vcp.spiRsp.getD [] ++ zeros n).take n)) { s with vcp := { s.vcp with spiRsp := none } }

/-! ### VCP over DTLS (R49) -/

/-- The role-table entry of a client key: ECDSA P-384. -/
def clientEntry (s : State) (key : Bytes) : Option Nat :=
  (s.key.roles.find? (fun e => decide (e.2.alg = 1 ∧ e.2.key = key))).map (·.1)

/-- The device can authenticate itself: slot 1 usable, a certificate chain in force (R392). -/
def serverReady (s : State) : Bool := decide ((keySlot s 1).state = 1) && !s.cfg.chain.isEmpty

/-- VCP_DTLS_HANDSHAKE: accepted when the client offers what is supported and its key is in the role table (R24, R49). -/
def dtlsHandshake (h : Handshake) (s : State) : State :=
  if !served .udp s then s
  else if !s.net.bindVcp.testBit h.port then unbound h.port s
  else match clientEntry s h.key with
    | some n =>
      if h.profile && h.certOk && serverReady s then
        let t := closeAssociation h.assoc s
        sendFrame h.port <| emit (.handshake h.assoc true)
          { t with vcp := { t.vcp with assocs := tset t.vcp.assocs h.assoc { port := h.port, credential := n } } }
      else sendFrame h.port (emit (.handshake h.assoc false) s)
    | none => sendFrame h.port (emit (.handshake h.assoc false) s)

/-- A KeyUpdate of the client is accepted: its records come under its next key (R49). -/
def keyUpdated (assoc : Nat) (s : State) : State :=
  { s with vcp := { s.vcp with assocs := (s.vcp.assocs.map (fun e => if e.1 = assoc
      then (e.1, { e.2 with keyIn := e.2.keyIn + 1 }) else e)) } }

/-- VCP_DTLS_RECORD: an authentic record's packet goes to acceptance; another is dropped and counted (R33, R49). -/
def dtlsRecord (r : DtlsRecord) (s : State) : State :=
  if !served .udp s then s
  else if !s.net.bindVcp.testBit r.port then unbound r.port s
  else if !r.authentic || (tfind s.vcp.assocs r.assoc).isNone then
    { s with vcp := { s.vcp with dropped := s.vcp.dropped + 1 } }
  else if r.keyUpdate then keyUpdated r.assoc s
  else runPacket { transport := .udp, assoc := r.assoc } 0 none r.packet s

end Sys2Proof.Machine
end

