-- ==== Sys2Proof/Machine/ExecDrive.lean ====
section
/-! DEFINITION. The meaning of each command of loops, outputs, the sluice and the field buses (R278 to R331): the time that has passed, then the command. -/

namespace Sys2Proof.Machine

/-- STATUS_PORT_READ: the byte at an address on the status port (R305); PD1 drives it. -/
def readStatusPort (address : Nat) (s : State) : State :=
  if alwaysOn s then emit (.statusPort (address % 8) (portByte s address)) s else s

/-- LOOP_EVALUATION (R285). -/
def execLoopEvaluation (dt : Nat) (slot : Nat) (s : State) : Host.Outcome State Fault Refusal :=
  .next (loopEvaluate slot (s.elapse dt))

/-- INTEGRATOR_SNAPSHOT (R286). -/
def execIntegratorSnapshot (dt : Nat) (s : State) : Host.Outcome State Fault Refusal :=
  .next (integratorSnapshot (s.elapse dt))

/-- LOOP_ALIVE_TOGGLE (R305). -/
def execLoopAliveToggle (dt : Nat) (s : State) : Host.Outcome State Fault Refusal :=
  .next (aliveToggle (s.elapse dt))

/-- LOOP_SET (R280). -/
def execLoopSet (dt : Nat) (c : Cmd) (s : State) : Host.Outcome State Fault Refusal :=
  .next (runOp rowLoopSet loopSetBody c (s.elapse dt))

/-- LOOP_GAIN_SET (R284). -/
def execLoopGainSet (dt : Nat) (c : Cmd) (s : State) : Host.Outcome State Fault Refusal :=
  .next (runOp rowLoopGainSet loopGainSetBody c (s.elapse dt))

/-- LOOP_READ (R310). -/
def execLoopRead (dt : Nat) (c : Cmd) (s : State) : Host.Outcome State Fault Refusal :=
  .next (runOp rowLoopRead loopReadBody c (s.elapse dt))

/-- LOOP_ENABLE (R282). -/
def execLoopEnable (dt : Nat) (c : Cmd) (s : State) : Host.Outcome State Fault Refusal :=
  .next (runOp rowLoopEnable loopEnableBody c (s.elapse dt))

/-- TRACE_ARM (R307). -/
def execTraceArm (dt : Nat) (c : Cmd) (s : State) : Host.Outcome State Fault Refusal :=
  .next (runOp rowTraceArm traceArmBody c (s.elapse dt))

/-- TRACE_READ (R308). -/
def execTraceRead (dt : Nat) (c : Cmd) (s : State) : Host.Outcome State Fault Refusal :=
  .next (runOp rowTraceRead traceReadBody c (s.elapse dt))

/-- OUT_SET (R298). -/
def execOutSet (dt : Nat) (c : Cmd) (s : State) : Host.Outcome State Fault Refusal :=
  .next (runOp rowOutSet outSetBody c (s.elapse dt))

/-- OUT_BIND (R296). -/
def execOutBind (dt : Nat) (c : Cmd) (s : State) : Host.Outcome State Fault Refusal :=
  .next (runOp rowOutBind outBindBody c (s.elapse dt))

/-- SLC_SAFE_SET (R297). -/
def execSlcSafeSet (dt : Nat) (c : Cmd) (s : State) : Host.Outcome State Fault Refusal :=
  .next (runOp rowSlcSafeSet slcSafeSetBody c (s.elapse dt))

/-- SLC_STATUS (R305). -/
def execSlcStatus (dt : Nat) (c : Cmd) (s : State) : Host.Outcome State Fault Refusal :=
  .next (runOp rowSlcStatus slcStatusBody c (s.elapse dt))

/-- SLC_RELEASE (R303). -/
def execSlcRelease (dt : Nat) (c : Cmd) (s : State) : Host.Outcome State Fault Refusal :=
  .next (runOp rowSlcRelease slcReleaseBody c (s.elapse dt))

/-- OUT_READ (R298). -/
def execOutRead (dt : Nat) (c : Cmd) (s : State) : Host.Outcome State Fault Refusal :=
  .next (runOp rowOutRead outReadBody c (s.elapse dt))

/-- STATUS_PORT_READ (R305). -/
def execStatusPortRead (dt : Nat) (address : Nat) (s : State) : Host.Outcome State Fault Refusal :=
  .next (readStatusPort address (s.elapse dt))

/-- CAN_CHAN_SET (R313). -/
def execCanChanSet (dt : Nat) (c : Cmd) (s : State) : Host.Outcome State Fault Refusal :=
  .next (runOp rowCanChanSet canChanSetBody c (s.elapse dt))

/-- CAN_OBJ_SET (R316). -/
def execCanObjSet (dt : Nat) (c : Cmd) (s : State) : Host.Outcome State Fault Refusal :=
  .next (runOp rowCanObjSet canObjSetBody c (s.elapse dt))

/-- CAN_SEND (R320). -/
def execCanSend (dt : Nat) (c : Cmd) (s : State) : Host.Outcome State Fault Refusal :=
  .next (runOp rowCanSend canSendBody c (s.elapse dt))

/-- CAN_CANCEL (R325). -/
def execCanCancel (dt : Nat) (c : Cmd) (s : State) : Host.Outcome State Fault Refusal :=
  .next (runOp rowCanCancel canCancelBody c (s.elapse dt))

/-- CAN_STATUS (R331). -/
def execCanStatus (dt : Nat) (c : Cmd) (s : State) : Host.Outcome State Fault Refusal :=
  .next (runOp rowCanStatus canStatusBody c (s.elapse dt))

/-- CAN_DUE_INSTANT (R318). -/
def execCanDueInstant (dt : Nat) (channel : Nat) (object : Nat) (s : State) : Host.Outcome State Fault Refusal :=
  .next (canDue channel object (s.elapse dt))

/-- CAN_ARBITRATION_END (R325). -/
def execCanArbitrationEnd (dt : Nat) (channel : Nat) (won : Bool) (s : State) : Host.Outcome State Fault Refusal :=
  .next (arbitrationEnd channel won (s.elapse dt))

/-- CAN_FRAME_END (R321). -/
def execCanFrameEnd (dt : Nat) (channel : Nat) (error : Option CanError)
    (s : State) : Host.Outcome State Fault Refusal :=
  .next (frameEnd channel error (s.elapse dt))

/-- CAN_FRAME_RECEIVED (R326). -/
def execCanFrameReceived (dt : Nat) (channel : Nat) (age : Nat) (f : CanFrame)
    (s : State) : Host.Outcome State Fault Refusal :=
  .next (frameReceived channel age f (s.elapse dt))

/-- CAN_RECEIVE_ERROR (R323). -/
def execCanReceiveError (dt : Nat) (channel : Nat) (error : CanError) (amount : Nat)
    (s : State) : Host.Outcome State Fault Refusal :=
  .next (receiveError channel error amount (s.elapse dt))

/-- CAN_BUS_OFF (R324). -/
def execCanBusOff (dt : Nat) (channel : Nat) (s : State) : Host.Outcome State Fault Refusal :=
  .next (busOffEntry channel (s.elapse dt))

/-- CAN_BUS_OFF_RECOVERY (R324). -/
def execCanBusOffRecovery (dt : Nat) (channel : Nat) (s : State) : Host.Outcome State Fault Refusal :=
  .next (busOffRecovery channel (s.elapse dt))

/-- CAN_BUS_INTEGRATION (R314). -/
def execCanBusIntegration (dt : Nat) (channel : Nat) (s : State) : Host.Outcome State Fault Refusal :=
  .next (busIntegration channel (s.elapse dt))

end Sys2Proof.Machine
end

