-- ==== Sys2Proof/Machine/ExecHost.lean ====
section
/-! DEFINITION. The meaning of each command of register space, the transports, sessions (R6 to R51, R448 to R456): the time that has passed, then the command. -/

namespace Sys2Proof.Machine

/-- A register of ring `n`'s block in the CMD_ window (R48); there are eight rings. -/
def writeRingReg (n o : Nat) (v : Word) (s : State) : State :=
  if n < 8 then writeReg (0x30100 + 0x40 * n + o) v 0 s else s

/-- A register of flags: those of the blocks, EVT_PEND and CMD_ERR (R8, R448). -/
def isFlagRegister (offset : Nat) : Bool :=
  let w := offset / 0x10000
  let o := offset % 0x10000
  match w with
  | 0 | 7 | 20 => false
  | 1 | 3 => decide (o = 8)
  | 2 => decide (0x10 ≤ o ∧ o < 0x28)
  | 14 => decide (o % 0x1000 = 4)
  | _ => decide (o = 4)

/-- SYS_RESET_WRITE (R60). -/
def execSysResetWrite (dt : Nat) (v : Word) (s : State) : Host.Outcome State Fault Refusal :=
  .next (finishReset (writeReg 0x30 v 0 (s.elapse dt)))

/-- PCIE_PERST_N (R462). -/
def execPciePerstN (dt : Nat) (s : State) : Host.Outcome State Fault Refusal :=
  .next (perst (s.elapse dt))

/-- FUNCTION_LEVEL_RESET (R46). -/
def execFunctionLevelReset (dt : Nat) (s : State) : Host.Outcome State Fault Refusal :=
  .next (functionReset (s.elapse dt))

/-- TIM_CNT_L_READ: a read of any size and alignment (R6, R334). -/
def execTimCntLRead (dt : Nat) (offset : Nat) (size : Nat) (s : State) : Host.Outcome State Fault Refusal :=
  .next (busRead offset size (s.elapse dt))

/-- MTR_ACC_L_READ: a read of any size and alignment (R6, R145). -/
def execMtrAccLRead (dt : Nat) (offset : Nat) (size : Nat) (s : State) : Host.Outcome State Fault Refusal :=
  .next (busRead offset size (s.elapse dt))

/-- CMD_SQ_DOORBELL (R48). -/
def execCmdSqDoorbell (dt : Nat) (ring : Nat) (v : Word) (s : State) : Host.Outcome State Fault Refusal :=
  .next (writeRingReg ring 0x08 v (s.elapse dt))

/-- CMD_RING_WRITE (R48). -/
def execCmdRingWrite (dt : Nat) (ring : Nat) (v : Word) (s : State) : Host.Outcome State Fault Refusal :=
  .next (writeRingReg ring 0x20 v (s.elapse dt))

/-- CMD_CTRL_WRITE (R48). -/
def execCmdCtrlWrite (dt : Nat) (v : Word) (s : State) : Host.Outcome State Fault Refusal :=
  .next (writeReg 0x30000 v 0 (s.elapse dt))

/-- CMD_CQ_HEAD_WRITE (R47). -/
def execCmdCqHeadWrite (dt : Nat) (ring : Nat) (v : Word) (s : State) : Host.Outcome State Fault Refusal :=
  .next (writeRingReg ring 0x18 v (s.elapse dt))

/-- SQ_ENTRY_FETCH (R47). -/
def execSqEntryFetch (dt : Nat) (ring : Nat) (f : SqFetch) (s : State) : Host.Outcome State Fault Refusal :=
  .next (finishReset (sqFetch ring f (s.elapse dt)))

/-- EVT_VARM_WRITE (R454). -/
def execEvtVarmWrite (dt : Nat) (x : Nat) (v : Word) (s : State) : Host.Outcome State Fault Refusal :=
  .next (if x < 2 then writeReg (0x20050 + 4 * x) v 0 (s.elapse dt) else (s.elapse dt))

/-- EVT_MASK_WRITE (R452). -/
def execEvtMaskWrite (dt : Nat) (w : Nat) (v : Word) (s : State) : Host.Outcome State Fault Refusal :=
  .next (if w < 6 then writeReg (0x20030 + 4 * w) v 0 (s.elapse dt) else (s.elapse dt))

/-- FLAG_CLEAR_WRITE (R450). -/
def execFlagClearWrite (dt : Nat) (offset : Nat) (v : Word) (raised : Word)
    (s : State) : Host.Outcome State Fault Refusal :=
  .next (if isFlagRegister offset then writeReg offset v raised (s.elapse dt) else (s.elapse dt))

/-- KEY_PUBSEL_WRITE (R395). -/
def execKeyPubselWrite (dt : Nat) (v : Word) (s : State) : Host.Outcome State Fault Refusal :=
  .next (writeReg 0x10001C v 0 (s.elapse dt))

/-- REGISTER_WRITE (R8). -/
def execRegisterWrite (dt : Nat) (offset : Nat) (data : Bytes) (s : State) : Host.Outcome State Fault Refusal :=
  .next (finishReset (writeBytes offset data (s.elapse dt)))

/-- MSIX_VECTOR_UNMASK (R455). -/
def execMsixVectorUnmask (dt : Nat) (vector : Option Nat) (s : State) : Host.Outcome State Fault Refusal :=
  .next (unmask vector (s.elapse dt))

/-- EVT_HOLDOFF_EXPIRY (R454). -/
def execEvtHoldoffExpiry (dt : Nat) (v : Nat) (s : State) : Host.Outcome State Fault Refusal :=
  .next (sendMessage v (s.elapse dt))

/-- PCIE_CONFIG_WRITE (R481). -/
def execPcieConfigWrite (dt : Nat) (w : PcieConfig) (s : State) : Host.Outcome State Fault Refusal :=
  .next (pcieConfig w (s.elapse dt))

/-- SPI_QUEUE_COMMAND (R51). -/
def execSpiQueueCommand (dt : Nat) (packet : Bytes) (s : State) : Host.Outcome State Fault Refusal :=
  .next (finishReset (spiQueue packet (s.elapse dt)))

/-- SPI_READ_STATUS (R51). -/
def execSpiReadStatus (dt : Nat) (s : State) : Host.Outcome State Fault Refusal :=
  .next (spiStatus (s.elapse dt))

/-- SPI_READ_RESPONSE (R51). -/
def execSpiReadResponse (dt : Nat) (n : Nat) (s : State) : Host.Outcome State Fault Refusal :=
  .next (spiResponse n (s.elapse dt))

/-- VCP_DTLS_HANDSHAKE (R49). -/
def execVcpDtlsHandshake (dt : Nat) (h : Handshake) (s : State) : Host.Outcome State Fault Refusal :=
  .next (dtlsHandshake h (s.elapse dt))

/-- VCP_DTLS_RECORD (R49). -/
def execVcpDtlsRecord (dt : Nat) (r : DtlsRecord) (s : State) : Host.Outcome State Fault Refusal :=
  .next (finishReset (dtlsRecord r (s.elapse dt)))

/-- SESSION_IDLE_TIMEOUT (R40). -/
def execSessionIdleTimeout (dt : Nat) (sid : Word) (s : State) : Host.Outcome State Fault Refusal :=
  .next (idleTimeout sid (s.elapse dt))

/-- DTLS_ASSOCIATION_CLOSE (R40). -/
def execDtlsAssociationClose (dt : Nat) (assoc : Nat) (s : State) : Host.Outcome State Fault Refusal :=
  .next (closeAssociation assoc (s.elapse dt))

/-- SES_CHALLENGE (R39). -/
def execSesChallenge (dt : Nat) (c : Cmd) (s : State) : Host.Outcome State Fault Refusal :=
  .next (runOp rowSesChallenge sesChallengeBody c (s.elapse dt))

/-- SES_OPEN (R39). -/
def execSesOpen (dt : Nat) (c : Cmd) (s : State) : Host.Outcome State Fault Refusal :=
  .next (runOp rowSesOpen sesOpenBody c (s.elapse dt))

/-- SES_CLOSE (R40). -/
def execSesClose (dt : Nat) (c : Cmd) (s : State) : Host.Outcome State Fault Refusal :=
  .next (runOp rowSesClose sesCloseBody c (s.elapse dt))

/-- SYS_NOP (R54). -/
def execSysNop (dt : Nat) (c : Cmd) (s : State) : Host.Outcome State Fault Refusal :=
  .next (runOp rowSysNop sysNopBody c (s.elapse dt))

end Sys2Proof.Machine
end

