-- ==== Sys2Proof/Machine/ExecPair.lean ====
section
/-! DEFINITION. The meaning of each command of the pair and the Braid lane (R352 to R371): the time that has passed, then the command. -/

namespace Sys2Proof.Machine

/-- INTEGRATORS: the mirrored snapshot is kept and taken (R286, R359). -/
def takeSnapshots (slots : Table SlotSnap) (s : State) : State :=
  restoreSnapshot slots { s with brd := { s.brd with snapshot := slots } }

/-- PAIR_STATUS (R352). -/
def execPairStatus (dt : Nat) (c : Cmd) (s : State) : Host.Outcome State Fault Refusal :=
  .next (runOp rowPairStatus pairStatusBody c (s.elapse dt))

/-- PAIR_SET (R352). -/
def execPairSet (dt : Nat) (c : Cmd) (s : State) : Host.Outcome State Fault Refusal :=
  .next (runOp rowPairSet pairSetBody c (s.elapse dt))

/-- PAIR_HANDOVER (R366). -/
def execPairHandover (dt : Nat) (c : Cmd) (s : State) : Host.Outcome State Fault Refusal :=
  .next (runOp rowPairHandover pairHandoverBody c (s.elapse dt))

/-- PAIR_COMPARE (R368). -/
def execPairCompare (dt : Nat) (c : Cmd) (s : State) : Host.Outcome State Fault Refusal :=
  .next (runOp rowPairCompare pairCompareBody c (s.elapse dt))

/-- BRAID_LINK_TRAIN (R356). -/
def execBraidLinkTrain (dt : Nat) (hello : Option Hello) (s : State) : Host.Outcome State Fault Refusal :=
  .next (linkTrain hello (s.elapse dt))

/-- BRAID_LANE_DOWN (R370). -/
def execBraidLaneDown (dt : Nat) (s : State) : Host.Outcome State Fault Refusal :=
  .next (laneDown (s.elapse dt))

/-- BRAID_RESEND_TIMEOUT (R358). -/
def execBraidResendTimeout (dt : Nat) (s : State) : Host.Outcome State Fault Refusal :=
  .next (resend (s.elapse dt))

/-- BRAID_FRAME_DISCARD (R358). -/
def execBraidFrameDiscard (dt : Nat) (seq : Word) (s : State) : Host.Outcome State Fault Refusal :=
  .next (frameDiscard seq (s.elapse dt))

/-- BRAID_ACK_FRAME (R359). -/
def execBraidAckFrame (dt : Nat) (h : BraidHead) (s : State) : Host.Outcome State Fault Refusal :=
  .next (receive h id (s.elapse dt))

/-- HEARTBEAT_SEND (R359). -/
def execHeartbeatSend (dt : Nat) (s : State) : Host.Outcome State Fault Refusal :=
  .next (heartbeatSend (s.elapse dt))

/-- HEARTBEAT (R360). -/
def execHeartbeat (dt : Nat) (h : BraidHead) (b : Beat) (s : State) : Host.Outcome State Fault Refusal :=
  .next (receive h (heartbeat b) (s.elapse dt))

/-- HEARTBEAT_MISS (R364). -/
def execHeartbeatMiss (dt : Nat) (s : State) : Host.Outcome State Fault Refusal :=
  .next (heartbeatMiss (s.elapse dt))

/-- LEASE_LAPSE (R355). -/
def execLeaseLapse (dt : Nat) (s : State) : Host.Outcome State Fault Refusal :=
  .next (leaseLapse (s.elapse dt))

/-- NOTICE (R364). -/
def execNotice (dt : Nat) (h : BraidHead) (k : NoticeKind) (s : State) : Host.Outcome State Fault Refusal :=
  .next (receive h (notice k) (s.elapse dt))

/-- OWN_IN_REQUEST (R355). -/
def execOwnInRequest (dt : Nat) (s : State) : Host.Outcome State Fault Refusal :=
  .next (activateHandedOver (ownInRequest (s.elapse dt)))

/-- OWN_IN_HOLD (R355). -/
def execOwnInHold (dt : Nat) (s : State) : Host.Outcome State Fault Refusal :=
  .next (ownInHold (s.elapse dt))

/-- OWN_IN_RELEASED (R355). -/
def execOwnInReleased (dt : Nat) (s : State) : Host.Outcome State Fault Refusal :=
  .next (ownInReleased (s.elapse dt))

/-- REQUEST_UNANSWERED (R364). -/
def execRequestUnanswered (dt : Nat) (s : State) : Host.Outcome State Fault Refusal :=
  .next (requestUnanswered (s.elapse dt))

/-- INTEGRATORS (R361). -/
def execIntegrators (dt : Nat) (h : BraidHead) (slots : Table SlotSnap)
    (s : State) : Host.Outcome State Fault Refusal :=
  .next (receive h (asShadow (takeSnapshots slots)) (s.elapse dt))

/-- PAIR_STATUS_FRAME (R361). -/
def execPairStatusFrame (dt : Nat) (h : BraidHead) (u : PairUpdate) (s : State) : Host.Outcome State Fault Refusal :=
  .next (receive h (asShadow (applyUpdate u)) (s.elapse dt))

/-- JOB_START_FRAME (R367). -/
def execJobStartFrame (dt : Nat) (h : BraidHead) (j : JobStartInfo) (s : State) : Host.Outcome State Fault Refusal :=
  .next (receive h (asShadow (partnerStart j)) (s.elapse dt))

/-- GATHER_FRAME (R367). -/
def execGatherFrame (dt : Nat) (h : BraidHead) (values : List (Dword × Nat))
    (s : State) : Host.Outcome State Fault Refusal :=
  .next (receive h (asShadow (partnerGather h.tagged values)) (s.elapse dt))

/-- ITER_DONE (R367). -/
def execIterDone (dt : Nat) (h : BraidHead) (iteration : Nat) (s : State) : Host.Outcome State Fault Refusal :=
  .next (receive h (asShadow (partnerIter h.tagged iteration)) (s.elapse dt))

/-- JOB_END_FRAME (R367). -/
def execJobEndFrame (dt : Nat) (h : BraidHead) (iterations : Nat) (hash : Bytes)
    (s : State) : Host.Outcome State Fault Refusal :=
  .next (receive h (asShadow (partnerEnd h.tagged iterations hash)) (s.elapse dt))

/-- COMPARE (R368). -/
def execCompare (dt : Nat) (h : BraidHead) (job : Word) (hash : Bytes) (outcome : Nat)
    (s : State) : Host.Outcome State Fault Refusal :=
  .next (receive h (compareFrame job.toNat hash outcome) (s.elapse dt))

/-- LEDGER_FRAME (R361). -/
def execLedgerFrame (dt : Nat) (h : BraidHead) (l : LedgerFrame) (s : State) : Host.Outcome State Fault Refusal :=
  .next (receive h (asShadow (applyLedger l)) (s.elapse dt))

/-- DELTA_FRAME (R367). -/
def execDeltaFrame (dt : Nat) (h : BraidHead) (payload : Bytes) (s : State) : Host.Outcome State Fault Refusal :=
  .next (receive h (asShadow (deltaFrame h.tagged payload)) (s.elapse dt))

/-- DECLARE_FRAME (R361). -/
def execDeclareFrame (dt : Nat) (h : BraidHead) (payload : Bytes) (s : State) : Host.Outcome State Fault Refusal :=
  .next (receive h (asShadow (applyDeclare payload)) (s.elapse dt))

/-- POINT_DELTA (R192). -/
def execPointDelta (dt : Nat) (h : BraidHead) (records : List MirrorPoint)
    (s : State) : Host.Outcome State Fault Refusal :=
  .next (receive h (applyPointDelta records) (s.elapse dt))

/-- RECORD_FRAME (R433). -/
def execRecordFrame (dt : Nat) (h : BraidHead) (records : List PartnerRecord)
    (s : State) : Host.Outcome State Fault Refusal :=
  .next (receive h (applyRecords records) (s.elapse dt))

/-- BULK_TRANSFER_DONE (R363). -/
def execBulkTransferDone (dt : Nat) (item : BulkItem) (s : State) : Host.Outcome State Fault Refusal :=
  .next (bulkDone item (s.elapse dt))

end Sys2Proof.Machine
end

