-- ==== Sys2Proof/Machine/ExecPlant.lean ====
section
/-! DEFINITION. The meaning of each command of the analogue front end, metering and the point collector (R99 to R194): the time that has passed, then the command. -/

namespace Sys2Proof.Machine

/-- The handshake's certificates: the device's own usable, the unit's issued under a UPP issuer key (R170, R391,
R392). -/
def uppKnown (s : State) (h : UppHello) : Bool :=
  serverReady s && (match h.issuer with
    | some n => decide ((roleEntry s n).map (·.role) = some 5)
    | none => false)

/-- ADC_CHAN_SET (R100). -/
def execAdcChanSet (dt : Nat) (c : Cmd) (s : State) : Host.Outcome State Fault Refusal :=
  .next (runOp rowAdcChanSet adcChanSetBody c (s.elapse dt))

/-- ADC_SEQ_SET (R110). -/
def execAdcSeqSet (dt : Nat) (c : Cmd) (s : State) : Host.Outcome State Fault Refusal :=
  .next (runOp rowAdcSeqSet adcSeqSetBody c (s.elapse dt))

/-- ADC_SAMPLE_READ (R123). -/
def execAdcSampleRead (dt : Nat) (c : Cmd) (s : State) : Host.Outcome State Fault Refusal :=
  .next (runOp rowAdcSampleRead adcSampleReadBody c (s.elapse dt))

/-- ADC_CAL_SET (R117). -/
def execAdcCalSet (dt : Nat) (c : Cmd) (s : State) : Host.Outcome State Fault Refusal :=
  .next (runOp rowAdcCalSet adcCalSetBody c (s.elapse dt))

/-- ADC_SYSCAL (R118). -/
def execAdcSyscal (dt : Nat) (c : Cmd) (m : SyscalMean) (s : State) : Host.Outcome State Fault Refusal :=
  .next (runOp rowAdcSyscal (adcSyscalBody m) c (s.elapse dt))

/-- CALIBRATION_IDLE_EXPIRY (R119). -/
def execCalibrationIdleExpiry (dt : Nat) (channel : Nat) (s : State) : Host.Outcome State Fault Refusal :=
  .next (calIdle channel (s.elapse dt))

/-- SAR_CONVERSION_DONE (R111). -/
def execSarConversionDone (dt : Nat) (converter : Nat) (code : Nat) (f : Comparators)
    (s : State) : Host.Outcome State Fault Refusal :=
  .next (sarDone converter code f (s.elapse dt))

/-- URGENT_CONVERSION_DONE (R112). -/
def execUrgentConversionDone (dt : Nat) (converter : Nat) (code : Nat) (f : Comparators)
    (s : State) : Host.Outcome State Fault Refusal :=
  .next (urgentDone converter code f (s.elapse dt))

/-- COUNTING_EDGE (R121). -/
def execCountingEdge (dt : Nat) (k : Nat) (rising : Bool) (forward : Bool)
    (s : State) : Host.Outcome State Fault Refusal :=
  .next (countingEdge k rising forward (s.elapse dt))

/-- REFERENCE_MEASURE (R115). -/
def execReferenceMeasure (dt : Nat) (refin : Half) (avdd : Half) (s : State) : Host.Outcome State Fault Refusal :=
  .next (measureRef refin avdd (s.elapse dt))

/-- REFERENCE_READY (R114). -/
def execReferenceReady (dt : Nat) (metering : Bool) (s : State) : Host.Outcome State Fault Refusal :=
  .next (refReady metering (s.elapse dt))

/-- METERING_SAMPLE (R102). -/
def execMeteringSample (dt : Nat) (channel : Nat) (code : Int) (f : Comparators)
    (s : State) : Host.Outcome State Fault Refusal :=
  .next (meteringSample channel code f (s.elapse dt))

/-- METERING_PERIOD_CLOSE (R131). -/
def execMeteringPeriodClose (dt : Nat) (s : State) : Host.Outcome State Fault Refusal :=
  .next (meteringPeriodClose (s.elapse dt))

/-- THERMAL_TICK (R136). -/
def execThermalTick (dt : Nat) (n : Nat) (s : State) : Host.Outcome State Fault Refusal :=
  .next (thermalTickOf n (s.elapse dt))

/-- ACCUMULATOR_SECOND_WRITE (R147). -/
def execAccumulatorSecondWrite (dt : Nat) (s : State) : Host.Outcome State Fault Refusal :=
  .next (secondWrite (s.elapse dt))

/-- METERING_DSP_FAILURE (R162). -/
def execMeteringDspFailure (dt : Nat) (s : State) : Host.Outcome State Fault Refusal :=
  .next (dspFailure (s.elapse dt))

/-- PULSE_EMIT (R149). -/
def execPulseEmit (dt : Nat) (p : Nat) (s : State) : Host.Outcome State Fault Refusal :=
  .next (pulseEmit p (s.elapse dt))

/-- SENSOR_IDENTITY_READ (R152). -/
def execSensorIdentityRead (dt : Nat) (n : Nat) (tries : List I2cTry)
    (s : State) : Host.Outcome State Fault Refusal :=
  .next (identityRead n tries (s.elapse dt))

/-- MTR_READ (R164). -/
def execMtrRead (dt : Nat) (c : Cmd) (s : State) : Host.Outcome State Fault Refusal :=
  .next (runOp rowMtrRead mtrReadBody c (s.elapse dt))

/-- MTR_SNAP_READ (R159). -/
def execMtrSnapRead (dt : Nat) (c : Cmd) (s : State) : Host.Outcome State Fault Refusal :=
  .next (runOp rowMtrSnapRead mtrSnapReadBody c (s.elapse dt))

/-- MTR_CHAN_SET (R128). -/
def execMtrChanSet (dt : Nat) (c : Cmd) (s : State) : Host.Outcome State Fault Refusal :=
  .next (runOp rowMtrChanSet mtrChanSetNow c (s.elapse dt))

/-- MTR_TCOMP_SET (R142). -/
def execMtrTcompSet (dt : Nat) (c : Cmd) (s : State) : Host.Outcome State Fault Refusal :=
  .next (runOp rowMtrTcompSet mtrTcompSetBody c (s.elapse dt))

/-- MTR_SENSOR_ACCEPT (R154). -/
def execMtrSensorAccept (dt : Nat) (c : Cmd) (tries : List I2cTry) (s : State) : Host.Outcome State Fault Refusal :=
  .next (runOp rowMtrSensorAccept (mtrSensorAcceptBody tries) c (s.elapse dt))

/-- MTR_PULSE_SET (R148). -/
def execMtrPulseSet (dt : Nat) (c : Cmd) (s : State) : Host.Outcome State Fault Refusal :=
  .next (runOp rowMtrPulseSet mtrPulseSetBody c (s.elapse dt))

/-- UPP_CLIENT_HELLO (R170). -/
def execUppClientHello (dt : Nat) (h : UppHello) (s : State) : Host.Outcome State Fault Refusal :=
  .next (uppHello (uppKnown (s.elapse dt) h) h (s.elapse dt))

/-- UPP_DATAGRAM (R174). -/
def execUppDatagram (dt : Nat) (r : UppRecord) (s : State) : Host.Outcome State Fault Refusal :=
  .next (uppDatagram r (s.elapse dt))

/-- POINT_ENGINE_APPLY (R183). -/
def execPointEngineApply (dt : Nat) (s : State) : Host.Outcome State Fault Refusal :=
  .next (engineApplyMirror (s.elapse dt))

/-- SLOT_WINDOW_START (R178). -/
def execSlotWindowStart (dt : Nat) (unit : Nat) (s : State) : Host.Outcome State Fault Refusal :=
  .next (slotWindow unit (s.elapse dt))

/-- THROTTLE_EXPIRY (R177). -/
def execThrottleExpiry (dt : Nat) (unit : Nat) (s : State) : Host.Outcome State Fault Refusal :=
  .next (throttleEnd unit (s.elapse dt))

/-- UNIT_SILENT (R188). -/
def execUnitSilent (dt : Nat) (unit : Nat) (s : State) : Host.Outcome State Fault Refusal :=
  .next (unitSilent unit (s.elapse dt))

/-- PTS_DECLARE (R167). -/
def execPtsDeclare (dt : Nat) (c : Cmd) (s : State) : Host.Outcome State Fault Refusal :=
  .next (runOp rowPtsDeclare ptsDeclareMirror c (s.elapse dt))

/-- PTS_READ (R189). -/
def execPtsRead (dt : Nat) (c : Cmd) (s : State) : Host.Outcome State Fault Refusal :=
  .next (runOp rowPtsRead ptsReadBody c (s.elapse dt))

/-- PTS_WRITE (R190). -/
def execPtsWrite (dt : Nat) (c : Cmd) (s : State) : Host.Outcome State Fault Refusal :=
  .next (runOp rowPtsWrite ptsWriteMirror c (s.elapse dt))

/-- PTS_SNAPSHOT (R191). -/
def execPtsSnapshot (dt : Nat) (c : Cmd) (s : State) : Host.Outcome State Fault Refusal :=
  .next (runOp rowPtsSnapshot ptsSnapshotBody c (s.elapse dt))

/-- PTS_UNIT_SET (R188). -/
def execPtsUnitSet (dt : Nat) (c : Cmd) (s : State) : Host.Outcome State Fault Refusal :=
  .next (runOp rowPtsUnitSet ptsUnitSetBody c (s.elapse dt))

/-- PTS_UNIT_STATUS (R188). -/
def execPtsUnitStatus (dt : Nat) (c : Cmd) (s : State) : Host.Outcome State Fault Refusal :=
  .next (runOp rowPtsUnitStatus ptsUnitStatusBody c (s.elapse dt))

end Sys2Proof.Machine
end

