-- ==== Sys2Proof/Machine/ExecPower.lean ====
section
/-! DEFINITION. The meaning of each command of supplies, resets, clocks, heat, failures, modes and the dump (R55 to R97, R437 to R444): the time that has passed, then the command. -/

namespace Sys2Proof.Machine

/-- MAIN_SUPPLIES_VALID (R73). -/
def execMainSuppliesValid (dt : Nat) (failsAt : Option Nat) (s : State) : Host.Outcome State Fault Refusal :=
  .next (mainSupplies failsAt (s.elapse dt))

/-- PWRFAIL (R91): a command under way is cut off, and hold-up runs. -/
def execPwrfail (dt : Nat) (m : SupplyMonitor) (short : Bool) (during : List (HoldupEvent × Bool))
    (cut : Option CutCommand) (s : State) : Host.Outcome State Fault Refusal :=
  let t := s.elapse dt
  .next (supplySeen m short during (if asserts m then cutCommand cut t else t))

/-- HOLDUP_RESTART (R92). -/
def execHoldupRestart (dt : Nat) (failsAt : Option Nat) (s : State) : Host.Outcome State Fault Refusal :=
  .next (holdupRestart failsAt (s.elapse dt))

/-- CLOCK_LOSS (R89). -/
def execClockLoss (dt : Nat) (s : State) : Host.Outcome State Fault Refusal :=
  .next (holdup false true [] (s.elapse dt))

/-- CLOCK_RETURN (R89). -/
def execClockReturn (dt : Nat) (failsAt : Option Nat) (s : State) : Host.Outcome State Fault Refusal :=
  .next (clockReturn failsAt (s.elapse dt))

/-- RST_N_LOW (R97). -/
def execRstNLow (dt : Nat) (ns : Nat) (s : State) : Host.Outcome State Fault Refusal :=
  .next (rstLow ns (s.elapse dt))

/-- PLL_UNLOCK (R88). -/
def execPllUnlock (dt : Nat) (pll : Pll) (s : State) : Host.Outcome State Fault Refusal :=
  .next (pllUnlock pll (s.elapse dt))

/-- PLL_RELOCK (R88). -/
def execPllRelock (dt : Nat) (pll : Pll) (s : State) : Host.Outcome State Fault Refusal :=
  .next (pllRelock pll (s.elapse dt))

/-- TEMPERATURE_SAMPLE (R95). -/
def execTemperatureSample (dt : Nat) (sensors : List Half) (s : State) : Host.Outcome State Fault Refusal :=
  .next (temperature sensors (s.elapse dt))

/-- VBAT_MEASURE (R96). -/
def execVbatMeasure (dt : Nat) (mv : Nat) (s : State) : Host.Outcome State Fault Refusal :=
  .next (vbatMeasure mv (s.elapse dt))

/-- VBAT_APPLIED (R336). -/
def execVbatApplied (dt : Nat) (s : State) : Host.Outcome State Fault Refusal :=
  .next (vbatApplied (s.elapse dt))

/-- FAB_LINGER_EXPIRY (R83). -/
def execFabLingerExpiry (dt : Nat) (fabricB : Bool) (s : State) : Host.Outcome State Fault Refusal :=
  .next (fabLingerExpiry fabricB (s.elapse dt))

/-- FATAL_ERROR (R437). -/
def execFatalError (dt : Nat) (cause : Half) (detail : Word) (s : State) : Host.Outcome State Fault Refusal :=
  .next (fatalError cause detail (s.elapse dt))

/-- DUMP_CAPTURED (R437). -/
def execDumpCaptured (dt : Nat) (heap : Nat) (planner : Nat) (collector : Nat)
    (s : State) : Host.Outcome State Fault Refusal :=
  .next (dumpCaptured heap planner collector (s.elapse dt))

/-- SHORT_SUMMARY (R441). -/
def execShortSummary (dt : Nat) (s : State) : Host.Outcome State Fault Refusal :=
  .next (shortSummary (s.elapse dt))

/-- TRIP_ACTIVE_EDGE (R301). -/
def execTripActiveEdge (dt : Nat) (n : Nat) (ns : Nat) (s : State) : Host.Outcome State Fault Refusal :=
  .next (tripEdge n ns (s.elapse dt))

/-- TRIP_INPUT_INACTIVE (R303). -/
def execTripInputInactive (dt : Nat) (n : Nat) (s : State) : Host.Outcome State Fault Refusal :=
  .next (tripInactive n (s.elapse dt))

/-- TAMPER_DETECT (R380). -/
def execTamperDetect (dt : Nat) (sources : Byte) (s : State) : Host.Outcome State Fault Refusal :=
  .next (tamperDetect sources (s.elapse dt))

/-- VAULT_REFRESH (R379). -/
def execVaultRefresh (dt : Nat) (s : State) : Host.Outcome State Fault Refusal :=
  .next (vaultRefresh (s.elapse dt))

/-- OUTPUT_HOLD_TIMEOUT (R80). -/
def execOutputHoldTimeout (dt : Nat) (s : State) : Host.Outcome State Fault Refusal :=
  .next (outputHoldTimeout (s.elapse dt))

/-- CONTACT_TIMER_EXPIRY (R66). -/
def execContactTimerExpiry (dt : Nat) (s : State) : Host.Outcome State Fault Refusal :=
  .next (contactExpiry (s.elapse dt))

/-- ISLAND_LIMIT_EXPIRY (R72). -/
def execIslandLimitExpiry (dt : Nat) (s : State) : Host.Outcome State Fault Refusal :=
  .next (islandLimit (s.elapse dt))

/-- START_MOVE (R76). -/
def execStartMove (dt : Nat) (s : State) : Host.Outcome State Fault Refusal :=
  .next (startMoveNow (s.elapse dt))

/-- SYS_INFO (R54). -/
def execSysInfo (dt : Nat) (c : Cmd) (s : State) : Host.Outcome State Fault Refusal :=
  .next (runOp rowSysInfo sysInfoBody c (s.elapse dt))

/-- SYS_STATUS (R54). -/
def execSysStatus (dt : Nat) (c : Cmd) (s : State) : Host.Outcome State Fault Refusal :=
  .next (runOp rowSysStatus sysStatusBody c (s.elapse dt))

/-- FUNC_REINIT (R79). -/
def execFuncReinit (dt : Nat) (c : Cmd) (s : State) : Host.Outcome State Fault Refusal :=
  .next (runOp rowFuncReinit funcReinitBody c (s.elapse dt))

/-- SYS_DEVICE_RESET (R80). -/
def execSysDeviceReset (dt : Nat) (c : Cmd) (s : State) : Host.Outcome State Fault Refusal :=
  .next (runOp rowSysDeviceReset sysDeviceResetBody c (s.elapse dt))

/-- MODE_GET (R61). -/
def execModeGet (dt : Nat) (c : Cmd) (s : State) : Host.Outcome State Fault Refusal :=
  .next (runOp rowModeGet modeGetBody c (s.elapse dt))

/-- MODE_REQUEST (R63). -/
def execModeRequest (dt : Nat) (c : Cmd) (s : State) : Host.Outcome State Fault Refusal :=
  .next (runOp rowModeRequest modeRequestBody c (s.elapse dt))

/-- ISLAND_POLICY_SET (R71). -/
def execIslandPolicySet (dt : Nat) (c : Cmd) (s : State) : Host.Outcome State Fault Refusal :=
  .next (runOp rowIslandPolicySet islandPolicySetBody c (s.elapse dt))

/-- ISLAND_POLICY_GET (R70). -/
def execIslandPolicyGet (dt : Nat) (c : Cmd) (s : State) : Host.Outcome State Fault Refusal :=
  .next (runOp rowIslandPolicyGet islandPolicyGetBody c (s.elapse dt))

/-- LOOP_ENGINE_RESTART (R300). -/
def execLoopEngineRestart (dt : Nat) (s : State) : Host.Outcome State Fault Refusal :=
  .next (engineRestart (s.elapse dt))

/-- DMP_INFO (R443). -/
def execDmpInfo (dt : Nat) (c : Cmd) (s : State) : Host.Outcome State Fault Refusal :=
  .next (runOp rowDmpInfo dmpInfoBody c (s.elapse dt))

/-- DMP_READ (R443). -/
def execDmpRead (dt : Nat) (c : Cmd) (s : State) : Host.Outcome State Fault Refusal :=
  .next (runOp rowDmpRead dmpReadBody c (s.elapse dt))

/-- DMP_RELEASE (R444). -/
def execDmpRelease (dt : Nat) (c : Cmd) (s : State) : Host.Outcome State Fault Refusal :=
  .next (runOp rowDmpRelease dmpReleaseBody c (s.elapse dt))

end Sys2Proof.Machine
end

