-- ==== Sys2Proof/Machine/ExecSolve.lean ====
section
/-! DEFINITION. The meaning of each command of courses, jobs and the ledger (R195 to R277): the time that has passed, then the command. -/

namespace Sys2Proof.Machine

/-- CRS_BEGIN (R208). -/
def execCrsBegin (dt : Nat) (c : Cmd) (s : State) : Host.Outcome State Fault Refusal :=
  .next (runOp rowCrsBegin crsBeginBody c (s.elapse dt))

/-- CRS_DATA (R209). -/
def execCrsData (dt : Nat) (c : Cmd) (s : State) : Host.Outcome State Fault Refusal :=
  .next (runOp rowCrsData crsDataBody c (s.elapse dt))

/-- CRS_COMMIT (R210). -/
def execCrsCommit (dt : Nat) (c : Cmd) (s : State) : Host.Outcome State Fault Refusal :=
  .next (runOp rowCrsCommit crsCommitBody c (s.elapse dt))

/-- COURSE_SWAP (R211). -/
def execCourseSwap (dt : Nat) (p : Nat) (s : State) : Host.Outcome State Fault Refusal :=
  .next (flushBoth (courseSwap p (s.elapse dt)))

/-- CRS_DELTA (R215). -/
def execCrsDelta (dt : Nat) (c : Cmd) (s : State) : Host.Outcome State Fault Refusal :=
  .next (runOp rowCrsDelta crsDeltaBody c (s.elapse dt))

/-- CRS_INFO (R213). -/
def execCrsInfo (dt : Nat) (c : Cmd) (s : State) : Host.Outcome State Fault Refusal :=
  .next (runOp rowCrsInfo crsInfoBody c (s.elapse dt))

/-- CRS_DROP (R212). -/
def execCrsDrop (dt : Nat) (c : Cmd) (s : State) : Host.Outcome State Fault Refusal :=
  .next (runOp rowCrsDrop crsDropBody c (s.elapse dt))

/-- JOB_SET (R253). -/
def execJobSet (dt : Nat) (c : Cmd) (s : State) : Host.Outcome State Fault Refusal :=
  .next (runOp rowJobSet (jobSetBody policyStale) c (s.elapse dt))

/-- JOB_RUN (R255). -/
def execJobRun (dt : Nat) (c : Cmd) (s : State) : Host.Outcome State Fault Refusal :=
  .next (runOp rowJobRun jobRunBody c (s.elapse dt))

/-- JOB_ABORT (R256). -/
def execJobAbort (dt : Nat) (c : Cmd) (s : State) : Host.Outcome State Fault Refusal :=
  .next (runOp rowJobAbort jobAbortBody c (s.elapse dt))

/-- JOB_RESULT (R256). -/
def execJobResult (dt : Nat) (c : Cmd) (s : State) : Host.Outcome State Fault Refusal :=
  .next (runOp rowJobResult jobResultBody c (s.elapse dt))

/-- LEDGER_READ (R271). -/
def execLedgerRead (dt : Nat) (c : Cmd) (s : State) : Host.Outcome State Fault Refusal :=
  .next (runOp rowLedgerRead ledgerReadBody c (s.elapse dt))

/-- PART_SET (R223). -/
def execPartSet (dt : Nat) (c : Cmd) (s : State) : Host.Outcome State Fault Refusal :=
  .next (runOp rowPartSet partSetBody c (s.elapse dt))

/-- PERIOD_TRIGGER (R250). -/
def execPeriodTrigger (dt : Nat) (p : Nat) (s : State) : Host.Outcome State Fault Refusal :=
  .next (if p < 2 then periodReached (decide (p = 1)) (s.elapse dt) else (s.elapse dt))

/-- EVENT_TRIGGER (R252). -/
def execEventTrigger (dt : Nat) (bit : Nat) (s : State) : Host.Outcome State Fault Refusal :=
  .next (eventReached bit (s.elapse dt))

/-- JOB_START (R225). -/
def execJobStart (dt : Nat) (p : Nat) (s : State) : Host.Outcome State Fault Refusal :=
  .next (jobStarted p (s.elapse dt))

/-- WORK_AREA_AVAILABLE (R221). -/
def execWorkAreaAvailable (dt : Nat) (p : Nat) (s : State) : Host.Outcome State Fault Refusal :=
  .next (workStarted p (s.elapse dt))

/-- JOB_ITERATION_END (R246). -/
def execJobIterationEnd (dt : Nat) (p : Nat) (f : FabricNotes) (s : State) : Host.Outcome State Fault Refusal :=
  .next (iterationEnd p f (s.elapse dt))

/-- JOB_DEADLINE (R242). -/
def execJobDeadline (dt : Nat) (p : Nat) (s : State) : Host.Outcome State Fault Refusal :=
  .next (jobDeadline p (s.elapse dt))

/-- SCHEDULE_STALL (R230). -/
def execScheduleStall (dt : Nat) (p : Nat) (s : State) : Host.Outcome State Fault Refusal :=
  .next (scheduleStall p (s.elapse dt))

/-- JOB_END (R225). -/
def execJobEnd (dt : Nat) (p : Nat) (s : State) : Host.Outcome State Fault Refusal :=
  .next (jobEnded p (s.elapse dt))

/-- PENDING_JOB_START (R251). -/
def execPendingJobStart (dt : Nat) (p : Nat) (s : State) : Host.Outcome State Fault Refusal :=
  .next (startPending p (s.elapse dt))

/-- FALLBACK_WRITE_DONE (R272). -/
def execFallbackWriteDone (dt : Nat) (s : State) : Host.Outcome State Fault Refusal :=
  .next (fallbackDone (s.elapse dt))

/-- TRANSIENT_HOLD_RAISE (R273). -/
def execTransientHoldRaise (dt : Nat) (s : State) : Host.Outcome State Fault Refusal :=
  .next (judgeHold (s.elapse dt))

/-- TRANSIENT_HOLD_END (R273). -/
def execTransientHoldEnd (dt : Nat) (s : State) : Host.Outcome State Fault Refusal :=
  .next (judgeHold (s.elapse dt))

/-- FORECAST_REPLAY (R275). -/
def execForecastReplay (dt : Nat) (s : State) : Host.Outcome State Fault Refusal :=
  .next (forecastReplay (s.elapse dt))

end Sys2Proof.Machine
end

