-- ==== Sys2Proof/Machine/ExecTime.lean ====
section
/-! DEFINITION. The meaning of each command of district time and the Ethernet ports (R21 to R24, R332 to R351): the time that has passed, then the command. -/

namespace Sys2Proof.Machine

/-- RTC_REALIGN (R336). -/
def execRtcRealign (dt : Nat) (s : State) : Host.Outcome State Fault Refusal :=
  .next (rtcRealign (s.elapse dt))

/-- TIM_READ (R334). -/
def execTimRead (dt : Nat) (c : Cmd) (s : State) : Host.Outcome State Fault Refusal :=
  .next (runOp rowTimRead timReadBody c (s.elapse dt))

/-- TIM_LEGAL_SET (R337). -/
def execTimLegalSet (dt : Nat) (c : Cmd) (s : State) : Host.Outcome State Fault Refusal :=
  .next (runOp rowTimLegalSet timLegalSetBody c (s.elapse dt))

/-- TIM_PTP_SET (R347). -/
def execTimPtpSet (dt : Nat) (c : Cmd) (s : State) : Host.Outcome State Fault Refusal :=
  .next (runOp rowTimPtpSet timPtpSetBody c (s.elapse dt))

/-- TIM_SERVO_SET (R339). -/
def execTimServoSet (dt : Nat) (c : Cmd) (s : State) : Host.Outcome State Fault Refusal :=
  .next (runOp rowTimServoSet timServoSetBody c (s.elapse dt))

/-- PTP_SYNC (R340). -/
def execPtpSync (dt : Nat) (port : Nat) (m : Sync) (s : State) : Host.Outcome State Fault Refusal :=
  .next (ptpSync port m (s.elapse dt))

/-- LEGAL_RATE_SET (R338). -/
def execLegalRateSet (dt : Nat) (s : State) : Host.Outcome State Fault Refusal :=
  .next (legalRateSet (s.elapse dt))

/-- ANNOUNCE_RECEIPT_TIMEOUT (R342). -/
def execAnnounceReceiptTimeout (dt : Nat) (port : Nat) (s : State) : Host.Outcome State Fault Refusal :=
  .next (announceTimeout port (s.elapse dt))

/-- HOLD_S_EXPIRY (R342). -/
def execHoldSExpiry (dt : Nat) (s : State) : Host.Outcome State Fault Refusal :=
  .next (holdExpiry (s.elapse dt))

/-- PTP_ANNOUNCE (R346). -/
def execPtpAnnounce (dt : Nat) (port : Nat) (a : Announce) (s : State) : Host.Outcome State Fault Refusal :=
  .next (ptpAnnounce port a (s.elapse dt))

/-- PTP_MESSAGE_INTERVAL (R345). -/
def execPtpMessageInterval (dt : Nat) (port : Nat) (m : PtpSend) (s : State) : Host.Outcome State Fault Refusal :=
  .next (ptpInterval port m (s.elapse dt))

/-- PTP_DELAY_MESSAGE (R345). -/
def execPtpDelayMessage (dt : Nat) (port : Nat) (m : PtpDelay) (s : State) : Host.Outcome State Fault Refusal :=
  .next (ptpDelay port m (s.elapse dt))

/-- LEAP_APPLY (R346). -/
def execLeapApply (dt : Nat) (s : State) : Host.Outcome State Fault Refusal :=
  .next (leapApply (s.elapse dt))

/-- SGMII_LINK_CHANGE (R347). -/
def execSgmiiLinkChange (dt : Nat) (port : Nat) (up : Bool) (speed : Nat)
    (s : State) : Host.Outcome State Fault Refusal :=
  .next (sgmiiChange port up speed (s.elapse dt))

/-- ETHERNET_LINK_CHANGE (R449). -/
def execEthernetLinkChange (dt : Nat) (port : Nat) (up : Bool) (s : State) : Host.Outcome State Fault Refusal :=
  .next (ethernetChange port up (s.elapse dt))

/-- NET_FRAME_RECEIVED (R21). -/
def execNetFrameReceived (dt : Nat) (f : NetFrame) (s : State) : Host.Outcome State Fault Refusal :=
  .next (netFrame f (s.elapse dt))

/-- PRP_SUPERVISION (R22). -/
def execPrpSupervision (dt : Nat) (pair : Nat) (s : State) : Host.Outcome State Fault Refusal :=
  .next (prpSupervise pair (s.elapse dt))

end Sys2Proof.Machine
end

