-- ==== Sys2Proof/Machine/ExecTrust.lean ====
section
/-! DEFINITION. The meaning of each command of keys, update, configuration and the recorder (R372 to R436): the time that has passed, then the command. -/

namespace Sys2Proof.Machine

/-- KEY_STATUS (R383). -/
def execKeyStatus (dt : Nat) (c : Cmd) (s : State) : Host.Outcome State Fault Refusal :=
  .next (runOp rowKeyStatus keyStatusBody c (s.elapse dt))

/-- KEY_DERIVE (R385). -/
def execKeyDerive (dt : Nat) (c : Cmd) (s : State) : Host.Outcome State Fault Refusal :=
  .next (runOp rowKeyDerive keyDeriveBody c (s.elapse dt))

/-- KEY_UPDATE (R386). -/
def execKeyUpdate (dt : Nat) (c : Cmd) (s : State) : Host.Outcome State Fault Refusal :=
  .next (runOp rowKeyUpdate keyUpdateBody c (s.elapse dt))

/-- KEY_DESTROY (R390). -/
def execKeyDestroy (dt : Nat) (c : Cmd) (stuck : Bool) (s : State) : Host.Outcome State Fault Refusal :=
  .next (runOp rowKeyDestroy (keyDestroyBody stuck) c (s.elapse dt))

/-- KEY_ROLE_SET (R391). -/
def execKeyRoleSet (dt : Nat) (c : Cmd) (s : State) : Host.Outcome State Fault Refusal :=
  .next (runOp rowKeyRoleSet keyRoleSetBody c (s.elapse dt))

/-- LC_ADVANCE (R376). -/
def execLcAdvance (dt : Nat) (c : Cmd) (s : State) : Host.Outcome State Fault Refusal :=
  .next (runOp rowLcAdvance lcAdvanceBody c (s.elapse dt))

/-- KEY_OPERATION_DONE (R389). -/
def execKeyOperationDone (dt : Nat) (slot : Nat) (s : State) : Host.Outcome State Fault Refusal :=
  .next (operationDone slot (s.elapse dt))

/-- PAIR_KEY_SWITCH (R393). -/
def execPairKeySwitch (dt : Nat) (s : State) : Host.Outcome State Fault Refusal :=
  .next (pairKeySwitch (s.elapse dt))

/-- PREVIOUS_PAIR_KEY_EXPIRY (R393). -/
def execPreviousPairKeyExpiry (dt : Nat) (s : State) : Host.Outcome State Fault Refusal :=
  .next (previousExpiry (s.elapse dt))

/-- UPD_BEGIN (R403). -/
def execUpdBegin (dt : Nat) (c : Cmd) (s : State) : Host.Outcome State Fault Refusal :=
  .next (runOp rowUpdBegin updBeginBody c (s.elapse dt))

/-- UPD_DATA (R404). -/
def execUpdData (dt : Nat) (c : Cmd) (s : State) : Host.Outcome State Fault Refusal :=
  .next (runOp rowUpdData updDataBody c (s.elapse dt))

/-- UPD_VERIFY (R405). -/
def execUpdVerify (dt : Nat) (c : Cmd) (s : State) : Host.Outcome State Fault Refusal :=
  .next (runOp rowUpdVerify updVerifyBody c (s.elapse dt))

/-- UPD_ARM (R406). -/
def execUpdArm (dt : Nat) (c : Cmd) (s : State) : Host.Outcome State Fault Refusal :=
  .next (runOp rowUpdArm updArmBody c (s.elapse dt))

/-- UPD_CONFIRM (R413). -/
def execUpdConfirm (dt : Nat) (c : Cmd) (s : State) : Host.Outcome State Fault Refusal :=
  .next (runOp rowUpdConfirm updConfirmBody c (s.elapse dt))

/-- UPD_ABORT (R414). -/
def execUpdAbort (dt : Nat) (c : Cmd) (s : State) : Host.Outcome State Fault Refusal :=
  .next (runOp rowUpdAbort updAbortBody c (s.elapse dt))

/-- UPD_STATUS (R401). -/
def execUpdStatus (dt : Nat) (c : Cmd) (s : State) : Host.Outcome State Fault Refusal :=
  .next (runOp rowUpdStatus updStatusBody c (s.elapse dt))

/-- UPD_LOCK (R415). -/
def execUpdLock (dt : Nat) (c : Cmd) (s : State) : Host.Outcome State Fault Refusal :=
  .next (runOp rowUpdLock updLockBody c (s.elapse dt))

/-- UPDATE_HOLDER_LAPSE (R402). -/
def execUpdateHolderLapse (dt : Nat) (s : State) : Host.Outcome State Fault Refusal :=
  .next (holderLapse (s.elapse dt))

/-- ACTIVATION_TIME (R407). -/
def execActivationTime (dt : Nat) (s : State) : Host.Outcome State Fault Refusal :=
  .next (activationTime (s.elapse dt))

/-- PARTNER_READY (R409). -/
def execPartnerReady (dt : Nat) (s : State) : Host.Outcome State Fault Refusal :=
  .next (partnerReady (s.elapse dt))

/-- ACT_WAIT_EXPIRY (R407). -/
def execActWaitExpiry (dt : Nat) (s : State) : Host.Outcome State Fault Refusal :=
  .next (actWaitExpiry (s.elapse dt))

/-- CONFIRM_WINDOW_EXPIRY (R411). -/
def execConfirmWindowExpiry (dt : Nat) (s : State) : Host.Outcome State Fault Refusal :=
  .next (confirmWindow (s.elapse dt))

/-- CFG_READ (R422). -/
def execCfgRead (dt : Nat) (c : Cmd) (s : State) : Host.Outcome State Fault Refusal :=
  .next (runOp rowCfgRead cfgReadBody c (s.elapse dt))

/-- CFG_STAGE (R421). -/
def execCfgStage (dt : Nat) (c : Cmd) (s : State) : Host.Outcome State Fault Refusal :=
  .next (runOp rowCfgStage cfgStageBody c (s.elapse dt))

/-- CFG_COMMIT (R421). -/
def execCfgCommit (dt : Nat) (c : Cmd) (readBack : Bool) (s : State) : Host.Outcome State Fault Refusal :=
  .next (runOp rowCfgCommit (cfgCommitBody readBack) c (s.elapse dt))

/-- RECORDER_REPORT (R430). -/
def execRecorderReport (dt : Nat) (code : Half) (subject : Half) (aux : Half) (data : Word)
    (s : State) : Host.Outcome State Fault Refusal :=
  .next (recorderReport code subject aux data (s.elapse dt))

/-- RECORD_WRITE_DONE (R429). -/
def execRecordWriteDone (dt : Nat) (s : State) : Host.Outcome State Fault Refusal :=
  .next (recordWriteDone (s.elapse dt))

/-- REC_READ (R434). -/
def execRecRead (dt : Nat) (c : Cmd) (s : State) : Host.Outcome State Fault Refusal :=
  .next (runOp rowRecRead recReadBody c (s.elapse dt))

/-- REC_CLEAR (R436). -/
def execRecClear (dt : Nat) (c : Cmd) (s : State) : Host.Outcome State Fault Refusal :=
  .next (runOp rowRecClear recClearBody c (s.elapse dt))

/-- REC_INFO (R435). -/
def execRecInfo (dt : Nat) (c : Cmd) (s : State) : Host.Outcome State Fault Refusal :=
  .next (runOp rowRecInfo recInfoBody c (s.elapse dt))

end Sys2Proof.Machine
end

