-- ==== Sys2Proof/Machine/Dispatch.lean ====
section
/-! DEFINITION. The meaning of each command: one arm per constructor of Instr. -/

namespace Sys2Proof.Machine

def exec (i : Instr) (s : State) : Host.Outcome State Fault Refusal :=
  match i with
  | .mainSuppliesValid dt failsAt => Sys2Proof.Machine.execMainSuppliesValid dt failsAt s
  | .pwrfail dt m short during cut => Sys2Proof.Machine.execPwrfail dt m short during cut s
  | .holdupRestart dt failsAt => Sys2Proof.Machine.execHoldupRestart dt failsAt s
  | .clockLoss dt => Sys2Proof.Machine.execClockLoss dt s
  | .clockReturn dt failsAt => Sys2Proof.Machine.execClockReturn dt failsAt s
  | .rstNLow dt ns => Sys2Proof.Machine.execRstNLow dt ns s
  | .pciePerstN dt => Sys2Proof.Machine.execPciePerstN dt s
  | .functionLevelReset dt => Sys2Proof.Machine.execFunctionLevelReset dt s
  | .pllUnlock dt pll => Sys2Proof.Machine.execPllUnlock dt pll s
  | .pllRelock dt pll => Sys2Proof.Machine.execPllRelock dt pll s
  | .temperatureSample dt sensors => Sys2Proof.Machine.execTemperatureSample dt sensors s
  | .vbatMeasure dt mv => Sys2Proof.Machine.execVbatMeasure dt mv s
  | .fabLingerExpiry dt fabricB => Sys2Proof.Machine.execFabLingerExpiry dt fabricB s
  | .fatalError dt cause detail => Sys2Proof.Machine.execFatalError dt cause detail s
  | .dumpCaptured dt heap planner collector => Sys2Proof.Machine.execDumpCaptured dt heap planner collector s
  | .shortSummary dt => Sys2Proof.Machine.execShortSummary dt s
  | .meteringDspFailure dt => Sys2Proof.Machine.execMeteringDspFailure dt s
  | .tripActiveEdge dt n ns => Sys2Proof.Machine.execTripActiveEdge dt n ns s
  | .tamperDetect dt sources => Sys2Proof.Machine.execTamperDetect dt sources s
  | .vaultRefresh dt => Sys2Proof.Machine.execVaultRefresh dt s
  | .rtcRealign dt => Sys2Proof.Machine.execRtcRealign dt s
  | .sysResetWrite dt v => Sys2Proof.Machine.execSysResetWrite dt v s
  | .timCntLRead dt offset size => Sys2Proof.Machine.execTimCntLRead dt offset size s
  | .mtrAccLRead dt offset size => Sys2Proof.Machine.execMtrAccLRead dt offset size s
  | .cmdSqDoorbell dt ring v => Sys2Proof.Machine.execCmdSqDoorbell dt ring v s
  | .cmdRingWrite dt ring v => Sys2Proof.Machine.execCmdRingWrite dt ring v s
  | .cmdCtrlWrite dt v => Sys2Proof.Machine.execCmdCtrlWrite dt v s
  | .cmdCqHeadWrite dt ring v => Sys2Proof.Machine.execCmdCqHeadWrite dt ring v s
  | .sqEntryFetch dt ring f => Sys2Proof.Machine.execSqEntryFetch dt ring f s
  | .evtVarmWrite dt x v => Sys2Proof.Machine.execEvtVarmWrite dt x v s
  | .evtMaskWrite dt w v => Sys2Proof.Machine.execEvtMaskWrite dt w v s
  | .flagClearWrite dt offset v raised => Sys2Proof.Machine.execFlagClearWrite dt offset v raised s
  | .keyPubselWrite dt v => Sys2Proof.Machine.execKeyPubselWrite dt v s
  | .registerWrite dt offset data => Sys2Proof.Machine.execRegisterWrite dt offset data s
  | .msixVectorUnmask dt vector => Sys2Proof.Machine.execMsixVectorUnmask dt vector s
  | .evtHoldoffExpiry dt v => Sys2Proof.Machine.execEvtHoldoffExpiry dt v s
  | .spiQueueCommand dt packet => Sys2Proof.Machine.execSpiQueueCommand dt packet s
  | .spiReadStatus dt => Sys2Proof.Machine.execSpiReadStatus dt s
  | .spiReadResponse dt n => Sys2Proof.Machine.execSpiReadResponse dt n s
  | .vcpDtlsHandshake dt h => Sys2Proof.Machine.execVcpDtlsHandshake dt h s
  | .vcpDtlsRecord dt r => Sys2Proof.Machine.execVcpDtlsRecord dt r s
  | .sessionIdleTimeout dt sid => Sys2Proof.Machine.execSessionIdleTimeout dt sid s
  | .dtlsAssociationClose dt assoc => Sys2Proof.Machine.execDtlsAssociationClose dt assoc s
  | .sesChallenge dt c => Sys2Proof.Machine.execSesChallenge dt c s
  | .sesOpen dt c => Sys2Proof.Machine.execSesOpen dt c s
  | .sesClose dt c => Sys2Proof.Machine.execSesClose dt c s
  | .sysNop dt c => Sys2Proof.Machine.execSysNop dt c s
  | .sysInfo dt c => Sys2Proof.Machine.execSysInfo dt c s
  | .sysStatus dt c => Sys2Proof.Machine.execSysStatus dt c s
  | .funcReinit dt c => Sys2Proof.Machine.execFuncReinit dt c s
  | .sysDeviceReset dt c => Sys2Proof.Machine.execSysDeviceReset dt c s
  | .modeGet dt c => Sys2Proof.Machine.execModeGet dt c s
  | .modeRequest dt c => Sys2Proof.Machine.execModeRequest dt c s
  | .islandPolicySet dt c => Sys2Proof.Machine.execIslandPolicySet dt c s
  | .islandPolicyGet dt c => Sys2Proof.Machine.execIslandPolicyGet dt c s
  | .contactTimerExpiry dt => Sys2Proof.Machine.execContactTimerExpiry dt s
  | .islandLimitExpiry dt => Sys2Proof.Machine.execIslandLimitExpiry dt s
  | .startMove dt => Sys2Proof.Machine.execStartMove dt s
  | .outputHoldTimeout dt => Sys2Proof.Machine.execOutputHoldTimeout dt s
  | .adcChanSet dt c => Sys2Proof.Machine.execAdcChanSet dt c s
  | .adcSeqSet dt c => Sys2Proof.Machine.execAdcSeqSet dt c s
  | .adcSampleRead dt c => Sys2Proof.Machine.execAdcSampleRead dt c s
  | .adcCalSet dt c => Sys2Proof.Machine.execAdcCalSet dt c s
  | .adcSyscal dt c m => Sys2Proof.Machine.execAdcSyscal dt c m s
  | .calibrationIdleExpiry dt channel => Sys2Proof.Machine.execCalibrationIdleExpiry dt channel s
  | .sarConversionDone dt converter code f => Sys2Proof.Machine.execSarConversionDone dt converter code f s
  | .meteringSample dt channel code f => Sys2Proof.Machine.execMeteringSample dt channel code f s
  | .urgentConversionDone dt converter code f => Sys2Proof.Machine.execUrgentConversionDone dt converter code f s
  | .countingEdge dt k rising forward => Sys2Proof.Machine.execCountingEdge dt k rising forward s
  | .referenceMeasure dt refin avdd => Sys2Proof.Machine.execReferenceMeasure dt refin avdd s
  | .referenceReady dt metering => Sys2Proof.Machine.execReferenceReady dt metering s
  | .meteringPeriodClose dt => Sys2Proof.Machine.execMeteringPeriodClose dt s
  | .thermalTick dt n => Sys2Proof.Machine.execThermalTick dt n s
  | .accumulatorSecondWrite dt => Sys2Proof.Machine.execAccumulatorSecondWrite dt s
  | .pulseEmit dt p => Sys2Proof.Machine.execPulseEmit dt p s
  | .sensorIdentityRead dt n tries => Sys2Proof.Machine.execSensorIdentityRead dt n tries s
  | .mtrRead dt c => Sys2Proof.Machine.execMtrRead dt c s
  | .mtrSnapRead dt c => Sys2Proof.Machine.execMtrSnapRead dt c s
  | .mtrChanSet dt c => Sys2Proof.Machine.execMtrChanSet dt c s
  | .mtrTcompSet dt c => Sys2Proof.Machine.execMtrTcompSet dt c s
  | .mtrSensorAccept dt c tries => Sys2Proof.Machine.execMtrSensorAccept dt c tries s
  | .mtrPulseSet dt c => Sys2Proof.Machine.execMtrPulseSet dt c s
  | .uppClientHello dt h => Sys2Proof.Machine.execUppClientHello dt h s
  | .uppDatagram dt r => Sys2Proof.Machine.execUppDatagram dt r s
  | .pointEngineApply dt => Sys2Proof.Machine.execPointEngineApply dt s
  | .slotWindowStart dt unit => Sys2Proof.Machine.execSlotWindowStart dt unit s
  | .throttleExpiry dt unit => Sys2Proof.Machine.execThrottleExpiry dt unit s
  | .unitSilent dt unit => Sys2Proof.Machine.execUnitSilent dt unit s
  | .ptsDeclare dt c => Sys2Proof.Machine.execPtsDeclare dt c s
  | .ptsRead dt c => Sys2Proof.Machine.execPtsRead dt c s
  | .ptsWrite dt c => Sys2Proof.Machine.execPtsWrite dt c s
  | .ptsSnapshot dt c => Sys2Proof.Machine.execPtsSnapshot dt c s
  | .ptsUnitSet dt c => Sys2Proof.Machine.execPtsUnitSet dt c s
  | .ptsUnitStatus dt c => Sys2Proof.Machine.execPtsUnitStatus dt c s
  | .crsBegin dt c => Sys2Proof.Machine.execCrsBegin dt c s
  | .crsData dt c => Sys2Proof.Machine.execCrsData dt c s
  | .crsCommit dt c => Sys2Proof.Machine.execCrsCommit dt c s
  | .courseSwap dt p => Sys2Proof.Machine.execCourseSwap dt p s
  | .crsDelta dt c => Sys2Proof.Machine.execCrsDelta dt c s
  | .crsInfo dt c => Sys2Proof.Machine.execCrsInfo dt c s
  | .crsDrop dt c => Sys2Proof.Machine.execCrsDrop dt c s
  | .jobSet dt c => Sys2Proof.Machine.execJobSet dt c s
  | .jobRun dt c => Sys2Proof.Machine.execJobRun dt c s
  | .jobAbort dt c => Sys2Proof.Machine.execJobAbort dt c s
  | .jobResult dt c => Sys2Proof.Machine.execJobResult dt c s
  | .ledgerRead dt c => Sys2Proof.Machine.execLedgerRead dt c s
  | .partSet dt c => Sys2Proof.Machine.execPartSet dt c s
  | .periodTrigger dt p => Sys2Proof.Machine.execPeriodTrigger dt p s
  | .eventTrigger dt bit => Sys2Proof.Machine.execEventTrigger dt bit s
  | .jobStart dt p => Sys2Proof.Machine.execJobStart dt p s
  | .workAreaAvailable dt p => Sys2Proof.Machine.execWorkAreaAvailable dt p s
  | .jobIterationEnd dt p f => Sys2Proof.Machine.execJobIterationEnd dt p f s
  | .jobDeadline dt p => Sys2Proof.Machine.execJobDeadline dt p s
  | .scheduleStall dt p => Sys2Proof.Machine.execScheduleStall dt p s
  | .jobEnd dt p => Sys2Proof.Machine.execJobEnd dt p s
  | .pendingJobStart dt p => Sys2Proof.Machine.execPendingJobStart dt p s
  | .fallbackWriteDone dt => Sys2Proof.Machine.execFallbackWriteDone dt s
  | .transientHoldRaise dt => Sys2Proof.Machine.execTransientHoldRaise dt s
  | .transientHoldEnd dt => Sys2Proof.Machine.execTransientHoldEnd dt s
  | .forecastReplay dt => Sys2Proof.Machine.execForecastReplay dt s
  | .loopEvaluation dt slot => Sys2Proof.Machine.execLoopEvaluation dt slot s
  | .integratorSnapshot dt => Sys2Proof.Machine.execIntegratorSnapshot dt s
  | .loopSet dt c => Sys2Proof.Machine.execLoopSet dt c s
  | .loopGainSet dt c => Sys2Proof.Machine.execLoopGainSet dt c s
  | .loopRead dt c => Sys2Proof.Machine.execLoopRead dt c s
  | .loopEnable dt c => Sys2Proof.Machine.execLoopEnable dt c s
  | .traceArm dt c => Sys2Proof.Machine.execTraceArm dt c s
  | .traceRead dt c => Sys2Proof.Machine.execTraceRead dt c s
  | .outSet dt c => Sys2Proof.Machine.execOutSet dt c s
  | .outBind dt c => Sys2Proof.Machine.execOutBind dt c s
  | .slcSafeSet dt c => Sys2Proof.Machine.execSlcSafeSet dt c s
  | .slcStatus dt c => Sys2Proof.Machine.execSlcStatus dt c s
  | .slcRelease dt c => Sys2Proof.Machine.execSlcRelease dt c s
  | .outRead dt c => Sys2Proof.Machine.execOutRead dt c s
  | .statusPortRead dt address => Sys2Proof.Machine.execStatusPortRead dt address s
  | .loopEngineRestart dt => Sys2Proof.Machine.execLoopEngineRestart dt s
  | .canChanSet dt c => Sys2Proof.Machine.execCanChanSet dt c s
  | .canObjSet dt c => Sys2Proof.Machine.execCanObjSet dt c s
  | .canSend dt c => Sys2Proof.Machine.execCanSend dt c s
  | .canCancel dt c => Sys2Proof.Machine.execCanCancel dt c s
  | .canStatus dt c => Sys2Proof.Machine.execCanStatus dt c s
  | .canDueInstant dt channel object => Sys2Proof.Machine.execCanDueInstant dt channel object s
  | .canArbitrationEnd dt channel won => Sys2Proof.Machine.execCanArbitrationEnd dt channel won s
  | .canFrameEnd dt channel error => Sys2Proof.Machine.execCanFrameEnd dt channel error s
  | .canFrameReceived dt channel age f => Sys2Proof.Machine.execCanFrameReceived dt channel age f s
  | .canBusOff dt channel => Sys2Proof.Machine.execCanBusOff dt channel s
  | .canBusOffRecovery dt channel => Sys2Proof.Machine.execCanBusOffRecovery dt channel s
  | .canBusIntegration dt channel => Sys2Proof.Machine.execCanBusIntegration dt channel s
  | .timRead dt c => Sys2Proof.Machine.execTimRead dt c s
  | .timLegalSet dt c => Sys2Proof.Machine.execTimLegalSet dt c s
  | .timPtpSet dt c => Sys2Proof.Machine.execTimPtpSet dt c s
  | .timServoSet dt c => Sys2Proof.Machine.execTimServoSet dt c s
  | .ptpSync dt port m => Sys2Proof.Machine.execPtpSync dt port m s
  | .legalRateSet dt => Sys2Proof.Machine.execLegalRateSet dt s
  | .announceReceiptTimeout dt port => Sys2Proof.Machine.execAnnounceReceiptTimeout dt port s
  | .holdSExpiry dt => Sys2Proof.Machine.execHoldSExpiry dt s
  | .ptpAnnounce dt port a => Sys2Proof.Machine.execPtpAnnounce dt port a s
  | .leapApply dt => Sys2Proof.Machine.execLeapApply dt s
  | .sgmiiLinkChange dt port up speed => Sys2Proof.Machine.execSgmiiLinkChange dt port up speed s
  | .netFrameReceived dt f => Sys2Proof.Machine.execNetFrameReceived dt f s
  | .prpSupervision dt pair => Sys2Proof.Machine.execPrpSupervision dt pair s
  | .pairStatus dt c => Sys2Proof.Machine.execPairStatus dt c s
  | .pairSet dt c => Sys2Proof.Machine.execPairSet dt c s
  | .pairHandover dt c => Sys2Proof.Machine.execPairHandover dt c s
  | .pairCompare dt c => Sys2Proof.Machine.execPairCompare dt c s
  | .braidLinkTrain dt hello => Sys2Proof.Machine.execBraidLinkTrain dt hello s
  | .braidResendTimeout dt => Sys2Proof.Machine.execBraidResendTimeout dt s
  | .heartbeatSend dt => Sys2Proof.Machine.execHeartbeatSend dt s
  | .heartbeat dt h b => Sys2Proof.Machine.execHeartbeat dt h b s
  | .heartbeatMiss dt => Sys2Proof.Machine.execHeartbeatMiss dt s
  | .leaseLapse dt => Sys2Proof.Machine.execLeaseLapse dt s
  | .notice dt h k => Sys2Proof.Machine.execNotice dt h k s
  | .ownInRequest dt => Sys2Proof.Machine.execOwnInRequest dt s
  | .ownInHold dt => Sys2Proof.Machine.execOwnInHold dt s
  | .ownInReleased dt => Sys2Proof.Machine.execOwnInReleased dt s
  | .requestUnanswered dt => Sys2Proof.Machine.execRequestUnanswered dt s
  | .integrators dt h slots => Sys2Proof.Machine.execIntegrators dt h slots s
  | .pairStatusFrame dt h u => Sys2Proof.Machine.execPairStatusFrame dt h u s
  | .jobStartFrame dt h j => Sys2Proof.Machine.execJobStartFrame dt h j s
  | .gatherFrame dt h values => Sys2Proof.Machine.execGatherFrame dt h values s
  | .iterDone dt h iteration => Sys2Proof.Machine.execIterDone dt h iteration s
  | .jobEndFrame dt h iterations hash => Sys2Proof.Machine.execJobEndFrame dt h iterations hash s
  | .compare dt h job hash outcome => Sys2Proof.Machine.execCompare dt h job hash outcome s
  | .ledgerFrame dt h l => Sys2Proof.Machine.execLedgerFrame dt h l s
  | .deltaFrame dt h payload => Sys2Proof.Machine.execDeltaFrame dt h payload s
  | .declareFrame dt h payload => Sys2Proof.Machine.execDeclareFrame dt h payload s
  | .pointDelta dt h records => Sys2Proof.Machine.execPointDelta dt h records s
  | .recordFrame dt h records => Sys2Proof.Machine.execRecordFrame dt h records s
  | .bulkTransferDone dt item => Sys2Proof.Machine.execBulkTransferDone dt item s
  | .partnerReady dt => Sys2Proof.Machine.execPartnerReady dt s
  | .keyStatus dt c => Sys2Proof.Machine.execKeyStatus dt c s
  | .keyDerive dt c => Sys2Proof.Machine.execKeyDerive dt c s
  | .keyUpdate dt c => Sys2Proof.Machine.execKeyUpdate dt c s
  | .keyDestroy dt c stuck => Sys2Proof.Machine.execKeyDestroy dt c stuck s
  | .keyRoleSet dt c => Sys2Proof.Machine.execKeyRoleSet dt c s
  | .lcAdvance dt c => Sys2Proof.Machine.execLcAdvance dt c s
  | .keyOperationDone dt slot => Sys2Proof.Machine.execKeyOperationDone dt slot s
  | .pairKeySwitch dt => Sys2Proof.Machine.execPairKeySwitch dt s
  | .previousPairKeyExpiry dt => Sys2Proof.Machine.execPreviousPairKeyExpiry dt s
  | .updBegin dt c => Sys2Proof.Machine.execUpdBegin dt c s
  | .updData dt c => Sys2Proof.Machine.execUpdData dt c s
  | .updVerify dt c => Sys2Proof.Machine.execUpdVerify dt c s
  | .updArm dt c => Sys2Proof.Machine.execUpdArm dt c s
  | .updConfirm dt c => Sys2Proof.Machine.execUpdConfirm dt c s
  | .updAbort dt c => Sys2Proof.Machine.execUpdAbort dt c s
  | .updStatus dt c => Sys2Proof.Machine.execUpdStatus dt c s
  | .updLock dt c => Sys2Proof.Machine.execUpdLock dt c s
  | .updateHolderLapse dt => Sys2Proof.Machine.execUpdateHolderLapse dt s
  | .activationTime dt => Sys2Proof.Machine.execActivationTime dt s
  | .confirmWindowExpiry dt => Sys2Proof.Machine.execConfirmWindowExpiry dt s
  | .cfgRead dt c => Sys2Proof.Machine.execCfgRead dt c s
  | .cfgStage dt c => Sys2Proof.Machine.execCfgStage dt c s
  | .cfgCommit dt c readBack => Sys2Proof.Machine.execCfgCommit dt c readBack s
  | .recorderReport dt code subject aux data => Sys2Proof.Machine.execRecorderReport dt code subject aux data s
  | .recordWriteDone dt => Sys2Proof.Machine.execRecordWriteDone dt s
  | .recRead dt c => Sys2Proof.Machine.execRecRead dt c s
  | .recClear dt c => Sys2Proof.Machine.execRecClear dt c s
  | .recInfo dt c => Sys2Proof.Machine.execRecInfo dt c s
  | .dmpInfo dt c => Sys2Proof.Machine.execDmpInfo dt c s
  | .dmpRead dt c => Sys2Proof.Machine.execDmpRead dt c s
  | .dmpRelease dt c => Sys2Proof.Machine.execDmpRelease dt c s
  | .tripInputInactive dt n => Sys2Proof.Machine.execTripInputInactive dt n s
  | .vbatApplied dt => Sys2Proof.Machine.execVbatApplied dt s
  | .pcieConfigWrite dt w => Sys2Proof.Machine.execPcieConfigWrite dt w s
  | .ethernetLinkChange dt port up => Sys2Proof.Machine.execEthernetLinkChange dt port up s
  | .canReceiveError dt channel error amount => Sys2Proof.Machine.execCanReceiveError dt channel error amount s
  | .ptpMessageInterval dt port m => Sys2Proof.Machine.execPtpMessageInterval dt port m s
  | .ptpDelayMessage dt port m => Sys2Proof.Machine.execPtpDelayMessage dt port m s
  | .braidLaneDown dt => Sys2Proof.Machine.execBraidLaneDown dt s
  | .braidFrameDiscard dt seq => Sys2Proof.Machine.execBraidFrameDiscard dt seq s
  | .braidAckFrame dt h => Sys2Proof.Machine.execBraidAckFrame dt h s
  | .loopAliveToggle dt => Sys2Proof.Machine.execLoopAliveToggle dt s
  | .actWaitExpiry dt => Sys2Proof.Machine.execActWaitExpiry dt s

end Sys2Proof.Machine
end

