-- ==== Sys2Proof/Machine/Balls.lean ====
section
/-! DEFINITION. The levels at the balls other than the numbered outputs (R471): the event balls, OHOLD_N, OWN_OUT and
CAN_TX. What a ball shows is computed from the state; nothing of it is stored twice. -/

namespace Sys2Proof.Machine

/-- What a ball shows: a level, high impedance, or a square wave with an edge every so many ns. -/
inductive Level where
  | low
  | high
  | highZ
  | wave (edgeNs : Nat)
  /-- a DAC's voltage, by its code -/
  | code (n : Nat)
  /-- a PWM output: high for so many of the steps of 2.5 ns of its period -/
  | duty (high period : Nat)
deriving DecidableEq, Repr

/-- PD1 drives its balls: main power is present and the clock monitor does not hold PD1 (R471). -/
def balled (s : State) : Bool := pd s 1 && decide (s.sys.mode ≠ .vault)

/-- The period of a PWM output in steps of 2.5 ns, as the output-hold latch keeps it (R299, R300). -/
def pwmSteps (s : State) (o : Nat) : Nat :=
  tget (if s.out.hold.isSome then s.out.holdPwm else s.out.pwmPeriod) (o - 16) 40000

/-- A numbered output's ball (R295): a DAC code of 65,535 to full scale, a duty in steps of 2.5 ns, each rounded to the
nearest, halves upward (DESIGN CHOICE, log entry 122); a GPIO or PULSE level; an open-drain GPIO set high is released. -/
def outputBall (s : State) (o : Nat) : Level :=
  let v := ballOf s o
  let q := clampR 0 1 (num32 v)
  if v = sHighZ ∨ balled s = false then .highZ
  else if o < 16 then .code (roundNear (q * 65535)).toNat
  else if o < 48 then .duty (roundNear (q * pwmSteps s o)).toNat (pwmSteps s o)
  else if slt v sHalf then .low
  else if o < 112 ∧ s.out.gpioDrive.getLsbD (o - 48) = true then .highZ
  else .high

/-- EVTb (R453): asserted at its POL level, otherwise at the other; undriven in VAULT. -/
def eventBall (s : State) (b : Nat) : Level :=
  if !balled s then .highZ
  else if (ballsAsserted s.evt).testBit b == s.evt.balls.getLsbD (2 * b + 1) then .high
  else .low

/-- OHOLD_N, open drain: low while the output-hold latch is engaged (R300). -/
def holdBall (s : State) : Level := if balled s && s.out.hold.isSome then .low else .highZ

/-- OWN_OUT (R354): HOLD has an edge every 80 ns, REQUEST every 640 ns, RELEASED is steady low. -/
def ownOut (s : State) : Level :=
  if !balled s then .highZ
  else if s.sys.token then .wave 80
  else if s.brd.requesting.isSome then .wave 640
  else .low

/-- CANc_TX idles recessive on a channel that is on, and is at high impedance otherwise (R328). -/
def canTxIdle (s : State) (c : Nat) : Level := if canOn s c then .high else .highZ

end Sys2Proof.Machine
end

