-- ==== Sys2Proof/Safety.lean ====
section
/-! DEFINITION. What counts as a safe step of the block, and the words the statements are written in: a command that
completes, a VCP command that passes its acceptance checks, and the response it gets. -/

namespace Sys2Proof.Machine

/-- A step that answers a next state: no fault, no refusal. -/
def completes (s : State) : Prop := ∃ t, step s = .next t

/-- A command answers a next state, of which P holds. -/
def Completes (c : Instr) (s : State) (P : State → Prop) : Prop := ∃ t, exec c s = .next t ∧ P t

/-- A VCP command passes steps 3 to 11 of R33 on a state, and no reset asked for waits; `call` is what its body sees. -/
def Accepted (o : OpRow) (c : Cmd) (s : State) (call : Call) : Prop :=
  acceptance o c s = .run call ∧ s.sys.resetWanted = none

/-- What t has emitted beyond s. -/
def sentSince (s t : State) : List Sent := t.sent.drop s.sent.length

/-- The response packet to a command with a status and a payload (R29, R30, R32). -/
def replyTo (o : OpRow) (c : Cmd) (st : Half) (data : Bytes) : Sent :=
  .response c.transport c.assoc c.seq c.sid (BitVec.ofNat 16 o.code) (rspFlags c.flags false) st data
    (packetTrailer c.transport c.seq c.sid o.code (rspFlags c.flags false) st data) c.rspAddr

/-- Beyond what s had emitted, t holds the response to a command with a status and a payload (R30, R36). -/
def Answered (o : OpRow) (c : Cmd) (call : Call) (s t : State) (st : Half) (data : Bytes) : Prop :=
  replyTo o c st (carried call data) ∈ sentSince s t

/-- Beyond what s had emitted, t holds the response to a command that ended with a status other than ST_OK. -/
def Failed (o : OpRow) (c : Cmd) (s t : State) (st : Half) : Prop := replyTo o c st [] ∈ sentSince s t

/-- Beyond what s had emitted, t has raised event source n: it is pending (R451). -/
def Raised (n : Nat) (t : State) : Prop := t.evt.pend.getLsbD n = true

/-- The response to a command that waited to be answered (R30, R42). -/
def answerTo (d : Deferred) (st : Half) : Sent :=
  .response d.transport d.assoc d.seq d.sid d.opcode (rspFlags d.flags false) st []
    (packetTrailer d.transport d.seq d.sid d.opcode.toNat (rspFlags d.flags false) st []) d.rspAddr

/-- t is u after its half in SHADOW has taken the token and entered its mode with a cause: SAFE with a PLANT trip latched,
STEER where it can plan and the holder steered or was islanded, else HOLD; the PARTNER jobs have ended unless it was a
handover, new jobs are numbered above all seen, and the loops go on from the mirrored or carried values (R68, R69, R355,
R364). -/
def TookOver (cause : Half) (u t : State) : Prop :=
  t.sys.token = true ∧ t.sys.cause = cause ∧
  t.sys.mode = (if plantLatched u = true then .safe
    else if committed u 0 = true ∧ committed u 1 = true ∧ fitOwn u = true ∧
      (policyValid u = true ∨ u.sys.contact.isSome = true) ∧
      (u.brd.former = modeCode .steer ∨ u.brd.former = modeCode .island) then .steer
    else .hold) ∧
  t.brd.requesting = none ∧ t.brd.lease = some (now u + 2 * u.brd.record.hbMs * tickMs) ∧
  t.pln.next = (if 2 ^ 32 - 1 ≤ max (u.pln.next - 1) u.brd.topJob then 1
    else max (u.pln.next - 1) u.brd.topJob + 1) ∧
  (cause ≠ 0x0008 → ∀ p r, p ≤ 1 → runningOf u p = some r → r.job.trigger = .partner → r.ended = none →
    (r.phase = 1 → runningOf t p = none) ∧
    (r.phase ≠ 1 → (runningOf t p).map (·.ended) = some (some stAborted))) ∧
  (loopsDrive t.sys.mode = true → ∀ k x, tfind u.lpe.slots k = some x → x.enabled = true →
    (slotState t k).resume = takenValue u k)

/-- The blocks of the state, the queue left out. -/
inductive Block where
  | sent | free | board | sys | policy | pmu | evt | pcie | vcp | tim | rtc | log | dmp | net | mem | adc | mtr | pts
  | courses | slv | pln | brd | lpe | out | slc | can | key | upd | cfg
deriving DecidableEq, Repr

/-- A block is the same in two states. -/
def Same (b : Block) (s t : State) : Prop := match b with
  | .sent => t.sent = s.sent
  | .free => t.free = s.free
  | .board => t.board = s.board
  | .sys => t.sys = s.sys
  | .policy => t.policy = s.policy
  | .pmu => t.pmu = s.pmu
  | .evt => t.evt = s.evt
  | .pcie => t.pcie = s.pcie
  | .vcp => t.vcp = s.vcp
  | .tim => t.tim = s.tim
  | .rtc => t.rtc = s.rtc
  | .log => t.log = s.log
  | .dmp => t.dmp = s.dmp
  | .net => t.net = s.net
  | .mem => t.mem = s.mem
  | .adc => t.adc = s.adc
  | .mtr => t.mtr = s.mtr
  | .pts => t.pts = s.pts
  | .courses => t.courses = s.courses
  | .slv => t.slv = s.slv
  | .pln => t.pln = s.pln
  | .brd => t.brd = s.brd
  | .lpe => t.lpe = s.lpe
  | .out => t.out = s.out
  | .slc => t.slc = s.slc
  | .can => t.can = s.can
  | .key => t.key = s.key
  | .upd => t.upd = s.upd
  | .cfg => t.cfg = s.cfg

end Sys2Proof.Machine
end

