-- ==== Sys2Proof/Certificates/Slice0/Obligations.lean ====
section
/-! DEFINITION. The statements for the provers. -/

open Sys2Proof Sys2Proof.Machine

/-- Main power that becomes valid, a hold-up that ends with the supply back, and a 25 MHz reference that returns start
the device from step 1 of R73 with reset causes 0x01, 0x02 and 0x03, and count a power cycle; when power fails again
at a step of start-up, hold-up takes it back to VAULT. Where none of that is the case nothing happens (R89, R92,
R93, R97, R427). -/
def Obligations.PowerOnStarts : Prop :=
  ∀ (s u : State) (dt : Nat) (f : Option Nat), u = s.elapse dt →
    ((u.sys.mode = .vault ∨ (u.sys.mode = .boot ∧ u.sys.started = false)) →
      Completes (.mainSuppliesValid dt f) s fun t =>
        t.pmu.resetCause = 0x01 ∧ t.sys.started = true ∧ t.log.cycles = min (u.log.cycles + 1) (2 ^ 24 - 1)
          ∧ (f.isSome = true → t.sys.mode = .vault)) ∧
    (¬(u.sys.mode = .vault ∨ (u.sys.mode = .boot ∧ u.sys.started = false)) →
      Completes (.mainSuppliesValid dt f) s fun t => t = u) ∧
    ((u.sys.mode = .vault ∧ u.pmu.markerDone = true ∧ u.pmu.clockLost = false) →
      Completes (.holdupRestart dt f) s fun t =>
        t.pmu.resetCause = 0x02 ∧ t.sys.started = true ∧ t.log.cycles = min (u.log.cycles + 1) (2 ^ 24 - 1)
          ∧ (f.isSome = true → t.sys.mode = .vault)) ∧
    (¬(u.sys.mode = .vault ∧ u.pmu.markerDone = true ∧ u.pmu.clockLost = false) →
      Completes (.holdupRestart dt f) s fun t => t = u) ∧
    ((u.sys.mode = .vault ∧ u.pmu.clockLost = true) →
      Completes (.clockReturn dt f) s fun t =>
        t.pmu.resetCause = 0x03 ∧ t.sys.started = true ∧ t.log.cycles = min (u.log.cycles + 1) (2 ^ 24 - 1)
          ∧ t.pmu.clockLost = false ∧ (f.isSome = true → t.sys.mode = .vault)) ∧
    (¬(u.sys.mode = .vault ∧ u.pmu.clockLost = true) → Completes (.clockReturn dt f) s fun t => t = u)

/-- VMON below 1.000 V, or a rail below its tolerance, for 2 us and a clock loss end in VAULT: no domain of PD1 to PD11
powered, nothing left in the recorder's FIFO, no output driven; the hold-up marker is complete unless the hold-up
was short. A dip that asserts no PWRFAIL leaves everything but the PWRFAIL bit, which a VMON above 1.030 V clears
(R89, R90, R91, R92, R465). -/
def Obligations.PowerFailEndsInVault : Prop :=
  ∀ (s u : State) (dt : Nat) (m : SupplyMonitor) (short : Bool) (during : List (HoldupEvent × Bool))
      (cut : Option CutCommand), u = s.elapse dt →
    (alwaysOn u = true → asserts m = true → Completes (.pwrfail dt m short during cut) s fun t =>
      t.sys.mode = .vault ∧ t.pmu.powered = 0 ∧ t.pmu.markerDone = !short ∧ t.pmu.clockLost = false
        ∧ t.pmu.pwrfail = true ∧ t.log.fifo = [] ∧ driving t = false) ∧
    (asserts m = false → Completes (.pwrfail dt m short during cut) s fun t =>
      t = { u with pmu := { u.pmu with pwrfail := u.pmu.pwrfail && !clears m } }) ∧
    (alwaysOn u = true → Completes (.clockLoss dt) s fun t =>
      t.sys.mode = .vault ∧ t.pmu.powered = 0 ∧ t.pmu.markerDone = true ∧ t.pmu.clockLost = true
        ∧ t.log.fifo = [] ∧ driving t = false) ∧
    (alwaysOn u = false → Completes (.clockLoss dt) s fun t => t = u)

/-- A device reset starts the device again with the reset cause of what asked for it: RST_N low for 1 us, the key in
SYS_RESET, SYS_DEVICE_RESET, DMP_RELEASE. RST_N low for less than 100 ns and any other value in SYS_RESET do
nothing; a pulse between 100 ns and 1 us resets with cause 0x04 or does nothing (R60, R80, R97, R444). A PLL that
loses lock reads unlocked and sets PMU_FLAGS bit 3; the TIME PLL's loss puts the counter on the 25 MHz grid at the
value it had, a FAB loss is kept with its time, and a second within 1 s, like a SYS, APP or LOOP loss, is a fatal
error: a running half in an operational mode enters SAFE. A PLL that locks again reads locked, and ends the grid; a
PLL that does not run, or that stands as it was, changes nothing (R86, R88). -/
def Obligations.ResetsAndPllLocksFollow : Prop :=
  (∀ (s u : State) (dt ns : Nat) (v : Word) (c : Cmd) (call : Call), u = s.elapse dt → alwaysOn u = true →
    (1000 ≤ ns → Completes (.rstNLow dt ns) s fun t => t.pmu.resetCause = 0x04 ∧ t.sys.started = true) ∧
    (ns < 100 → Completes (.rstNLow dt ns) s fun t => t = u) ∧
    (100 ≤ ns → ns < 1000 → Completes (.rstNLow dt ns) s fun t =>
      (t.pmu.resetCause = 0x04 ∧ t.sys.started = true) ∨ t = tickFree u 1) ∧
    (reachable u = true → pd u (windowDomain 0) = true →
      Completes (.sysResetWrite dt 0x5A560021) s fun t => t.pmu.resetCause = 0x05 ∧ t.sys.started = true) ∧
    (u.sys.resetWanted = none → (reachable u = false ∨ pd u (windowDomain 0) = false ∨ v ≠ 0x5A560021) →
      Completes (.sysResetWrite dt v) s fun t => t = u) ∧
    (Accepted rowSysDeviceReset c u call → call.payload.length = 4 → u32 call.payload 0 = 0x5A560021 →
      Completes (.sysDeviceReset dt c) s fun t =>
        t.pmu.resetCause = 0x06 ∧ t.sys.started = true ∧ Answered rowSysDeviceReset c call u t stOk []) ∧
    (Accepted rowDmpRelease c u call → call.payload = [] →
      Completes (.dmpRelease dt c) s fun t =>
        t.pmu.resetCause = 0x09 ∧ t.sys.started = true ∧ Answered rowDmpRelease c call u t stOk [])) ∧
  (∀ (s u : State) (dt : Nat) (p : Pll), u = s.elapse dt →
    (pllLocked u p = true → Completes (.pllUnlock dt p) s fun t =>
      t.pmu.lock = bclr u.pmu.lock (pllBit p) ∧ t.pmu.flags.getLsbD 3 = true) ∧
    (pllLocked u .time = true → Completes (.pllUnlock dt .time) s fun t =>
      t.tim.degraded = true ∧ t.tim.counter = u.tim.counter ∧ t.tim.phase = 0) ∧
    (pllLocked u .fab = true → fabAgain u = false → Completes (.pllUnlock dt .fab) s fun t =>
      t.pmu.fabLoss = some (now u) ∧ t.sys.mode = u.sys.mode) ∧
    (pllLocked u p = true → (p = .fab ∧ fabAgain u = true ∨ p = .sys ∨ p = .app ∨ p = .loop) → mOps u.sys.mode = true →
      u.sys.stopped = false → u.dmp.capturing = none → Completes (.pllUnlock dt p) s fun t =>
        t.sys.mode = .safe ∧ t.sys.cause = 0x0006) ∧
    (pllLocked u p = false → Completes (.pllUnlock dt p) s fun t => t = u) ∧
    (pllLost u p = true → Completes (.pllRelock dt p) s fun t =>
      t.pmu.lock = bset u.pmu.lock (pllBit p) ∧ (p = .time → t.tim.degraded = false)
        ∧ (p ≠ .time → t.tim.degraded = u.tim.degraded)) ∧
    (pllLost u p = false → Completes (.pllRelock dt p) s fun t => t = u))

/-- Each millisecond the hottest sensor lands in PMU_TEMP; 100 degrees warns once per crossing, 105 degrees halves the
fabric clock until it is below 100 again, and the second reading in a row of 110 degrees or more gates both fabric
domains. VBAT lands in PMU_VBAT each second; under 2.7 V it sets VBAT_LOW (R95, R96; that a reading above 4,095 mV
shows 4,095 is the model's choice, log entry 125). VBAT applied finds PD0 empty and its counter at 0 (R336, R380).
An idle fabric domain is gated FAB_LINGER after its last job, PD6 with its PLL's lock; its reaches' pools are lost.
One that is not powered, still busy or lingering stays as it is (R16, R83). -/
def Obligations.HeatBatteryAndFabricAct : Prop :=
  (∀ (s u : State) (dt mv : Nat) (sensors : List Half), u = s.elapse dt →
    (alwaysOn u = true → sensors ≠ [] → everyDue u u.pmu.tempAt tickMs = true → hottest sensors < 1600 →
      Completes (.temperatureSample dt sensors) s fun t =>
        t.pmu.temp = BitVec.ofInt 16 (hottest sensors) ∧ t.pmu.warmed = false ∧ t.pmu.fabHalf = false
          ∧ t.pmu.fabBarred = false) ∧
    (alwaysOn u = true → sensors ≠ [] → everyDue u u.pmu.tempAt tickMs = true → 1600 ≤ hottest sensors →
      hottest sensors < 1760 → Completes (.temperatureSample dt sensors) s fun t =>
        t.pmu.temp = BitVec.ofInt 16 (hottest sensors) ∧ t.pmu.warmed = true
          ∧ t.pmu.fabHalf = (u.pmu.fabHalf || decide (1680 ≤ hottest sensors))
          ∧ (u.pmu.warmed = false → t.pmu.flags.getLsbD 4 = true ∧ Raised 12 t)
          ∧ (u.pmu.warmed = true → t.pmu.flags = u.pmu.flags ∧ t.evt = u.evt)) ∧
    (alwaysOn u = true → sensors ≠ [] → everyDue u u.pmu.tempAt tickMs = true → 1760 ≤ hottest sensors →
      (u.pmu.hot && !u.pmu.fabBarred) = false → Completes (.temperatureSample dt sensors) s fun t =>
        t.pmu.temp = BitVec.ofInt 16 (hottest sensors) ∧ t.pmu.warmed = true ∧ t.pmu.hot = true
          ∧ t.pmu.powered = u.pmu.powered) ∧
    (alwaysOn u = true → sensors ≠ [] → everyDue u u.pmu.tempAt tickMs = true → 1760 ≤ hottest sensors →
      (u.pmu.hot && !u.pmu.fabBarred) = true → Completes (.temperatureSample dt sensors) s fun t =>
        t.pmu.fabBarred = true ∧ pd t 6 = false ∧ pd t 7 = false ∧ t.pmu.flags.getLsbD 5 = true) ∧
    ((alwaysOn u = false ∨ sensors = [] ∨ everyDue u u.pmu.tempAt tickMs = false) →
      Completes (.temperatureSample dt sensors) s fun t => t = u) ∧
    (alwaysOn u = true → everyDue u u.pmu.vbatAt tickS = true → Completes (.vbatMeasure dt mv) s fun t =>
      t.pmu.vbatMv = BitVec.ofNat 12 (min mv 4095) ∧ (mv < 2700 → t.pmu.flags.getLsbD 6 = true)
        ∧ (2700 ≤ mv → t.pmu.flags = u.pmu.flags)) ∧
    ((alwaysOn u = false ∨ everyDue u u.pmu.vbatAt tickS = false) →
      Completes (.vbatMeasure dt mv) s fun t => t = u) ∧
    (Completes (.vbatApplied dt) s fun t =>
      t.board.vbat = true ∧ t.rtc.ticks = 0 ∧ t.rtc.aligned = false ∧ t.key.slots = [] ∧ t.key.tamper = 0)) ∧
  (∀ (s u : State) (dt : Nat), u = s.elapse dt →
    (pd u 6 = true → fabricBusy false u = false → passed u u.pmu.fabAIdle (u.pmu.fabLinger * tickMs) = true →
      Completes (.fabLingerExpiry dt false) s fun t => pd t 6 = false ∧ pd t 7 = pd u 7 ∧ t.pmu.lock.getLsbD 0 = false
        ∧ (∀ r, r < 32 → tfind t.slv.pools r = none)) ∧
    (pd u 7 = true → fabricBusy true u = false → passed u u.pmu.fabBIdle (u.pmu.fabLinger * tickMs) = true →
      Completes (.fabLingerExpiry dt true) s fun t => pd t 7 = false ∧ pd t 6 = pd u 6 ∧ t.pmu.lock = u.pmu.lock
        ∧ (∀ r, 32 ≤ r → tfind t.slv.pools r = none)) ∧
    ((pd u 6 && !fabricBusy false u && passed u u.pmu.fabAIdle (u.pmu.fabLinger * tickMs)) = false →
      Completes (.fabLingerExpiry dt false) s fun t => t = u) ∧
    ((pd u 7 && !fabricBusy true u && passed u u.pmu.fabBIdle (u.pmu.fabLinger * tickMs)) = false →
      Completes (.fabLingerExpiry dt true) s fun t => t = u))

/-- A fatal error in a Live mode other than DUMP takes the device to SAFE with cause 0x0006 and begins a capture of its
cause and detail; one during a capture marks it as followed by a second; in BOOT, in DUMP and after a short summary
it leaves the mode. The full dump ends in DUMP with a summary and a dump; a short summary ends service, 5 s after
the fatal instant or at once where no other can follow. A failure of the metering DSP marks the snapshot to come,
and a second within 60 s stops metering; without metering none is seen (R162, R437, R441, R442; what a fatal error
in BOOT, in DUMP or after a short summary does beside its record is the model's reading, log entry 74). -/
def Obligations.FatalErrorsAreCaptured : Prop :=
  ∀ (s u : State) (dt a b c : Nat) (cause : Half) (detail : Word) (x : Summary), u = s.elapse dt →
    (alwaysOn u = true → u.sys.mode.live = true → u.sys.mode ≠ .dump → u.sys.stopped = false → u.dmp.capturing = none →
      Completes (.fatalError dt cause detail) s fun t =>
        t.sys.mode = .safe ∧ t.sys.cause = 0x0006 ∧ t.sys.fatalSafe = true
          ∧ ∃ y, t.dmp.capturing = some y ∧ y.cause = cause ∧ y.detail = detail ∧ y.short = false) ∧
    (alwaysOn u = true → u.dmp.capturing = some x → Completes (.fatalError dt cause detail) s fun t =>
      t.dmp.capturing = some { x with second := true } ∧ t.sys = u.sys) ∧
    (alwaysOn u = true → (u.sys.mode.live = false ∨ u.sys.mode = .dump ∨ u.sys.stopped = true) →
      u.dmp.capturing = none → Completes (.fatalError dt cause detail) s fun t => t.sys = u.sys ∧ t.dmp = u.dmp) ∧
    (alwaysOn u = false → Completes (.fatalError dt cause detail) s fun t => t = u) ∧
    (u.dmp.capturing = some x → x.short = false → u.sys.mode.live = true →
      Completes (.dumpCaptured dt a b c) s fun t => t.sys.mode = .dump ∧ t.sys.cause = 0x0006
        ∧ t.dmp.capturing = none ∧ t.dmp.full.isSome = true
        ∧ ∃ y, t.dmp.summary = some y ∧ y.cause = x.cause ∧ y.detail = x.detail ∧ y.short = false) ∧
    ((u.dmp.capturing = none ∨ u.sys.mode.live = false ∨ u.dmp.capturing = some x ∧ x.short = true) →
      Completes (.dumpCaptured dt a b c) s fun t => t = u) ∧
    (u.dmp.capturing = some x → (x.short = true ∨ passed u u.dmp.fatalAt (5 * tickS) = true) →
      Completes (.shortSummary dt) s fun t =>
        t.sys.stopped = true ∧ t.dmp.capturing = none
          ∧ t.dmp.summary = some { x with short := true, index := fatalIndex u }) ∧
    ((u.dmp.capturing = none ∨
        u.dmp.capturing = some x ∧ x.short = false ∧ passed u u.dmp.fatalAt (5 * tickS) = false) →
      Completes (.shortSummary dt) s fun t => t = u) ∧
    (meteringOn u = true → dspFailsAgain u = false →
      Completes (.meteringDspFailure dt) s fun t =>
        t.mtr.failedAt = some (now u) ∧ t.mtr.gap = true ∧ t.mtr.stopped = u.mtr.stopped
          ∧ t.mtr.flags.getLsbD 5 = true ∧ t.mtr.channels = u.mtr.channels) ∧
    (meteringOn u = true → dspFailsAgain u = true →
      Completes (.meteringDspFailure dt) s fun t =>
        t.mtr.stopped = true ∧ t.mtr.gap = true ∧ t.mtr.flags.getLsbD 5 = true) ∧
    (meteringOn u = false → Completes (.meteringDspFailure dt) s fun t => t = u)

/-- An active pulse of 3 ns on an enabled trip latches it, one below 1 ns or on a disabled trip latches nothing, one
between may; from 3 ns the input stands active, and an inactive level is seen; the status port answers a
combinational read (R301, R303, R305). SLC_STATUS reports inputs, latches and the summary byte; SLC_RELEASE clears
the latches of its mask and returns what stays latched, when every trip it names has been inactive for RELEASE_MS;
otherwise ST_TRIP_ACTIVE, and nothing is released (R303, R305). OUTPUT_HOLD_TIMEOUT: 30 s after a device reset
engaged it, unless loops end it first, the output-hold latch of a holder is released and HOLD_TIMEOUT set; otherwise
nothing happens (R80, R300; that it waits while the loop engine re-initialises is the model's reading, log entry
76). -/
def Obligations.TripsLatchAndAreReleased : Prop :=
  (∀ (s u : State) (dt n ns address : Nat), u = s.elapse dt →
    (n < 32 → 3 ≤ ns → alwaysOn u = true → u.slc.enable.getLsbD n = true →
      Completes (.tripActiveEdge dt n ns) s fun t =>
        t.slc.latch = bset u.slc.latch n ∧ tripLevelActive t n = true) ∧
    (n < 32 → (ns = 0 ∨ alwaysOn u = false ∨ u.slc.enable.getLsbD n = false) →
      Completes (.tripActiveEdge dt n ns) s fun t => t.slc.latch = u.slc.latch) ∧
    (n < 32 → 1 ≤ ns → ns < 3 → Completes (.tripActiveEdge dt n ns) s fun t =>
      t.slc.latch = u.slc.latch ∨ t.slc.latch = bset u.slc.latch n) ∧
    (n < 32 → Completes (.tripInputInactive dt n) s fun t =>
      tripLevelActive t n = false ∧ t.slc.latch = u.slc.latch) ∧
    (alwaysOn u = true → Completes (.statusPortRead dt address) s fun t =>
      t = { u with sent := u.sent ++ [.statusPort (address % 8) (portByte u address)] }) ∧
    (alwaysOn u = false → Completes (.statusPortRead dt address) s fun t => t = u)) ∧
  (∀ (s u : State) (dt : Nat) (c : Cmd) (call : Call), u = s.elapse dt →
    (Accepted rowSlcStatus c u call → call.payload = [] → 12 ≤ call.cap →
      Completes (.slcStatus dt c) s fun t => ∃ levels : Nat,
        (∀ n, n < 32 → levels.testBit n = tripLevelActive u n) ∧ t.slc = u.slc ∧
        Answered rowSlcStatus c call u t stOk
          (le32 levels ++ le32 u.slc.latch.toNat ++ le 1 (summaryByte u) ++ [0, 0, 0])) ∧
    (Accepted rowSlcRelease c u call → call.payload.length = 4 → 4 ≤ call.cap →
      (∀ n, n < 32 → (w32 call.payload 0).getLsbD n = true → mayRelease u n = true) →
      Completes (.slcRelease dt c) s fun t =>
        t.slc.latch = u.slc.latch &&& ~~~(w32 call.payload 0)
          ∧ Answered rowSlcRelease c call u t stOk (le32 t.slc.latch.toNat)) ∧
    (Accepted rowSlcRelease c u call → call.payload.length = 4 →
      ¬(∀ n, n < 32 → (w32 call.payload 0).getLsbD n = true → mayRelease u n = true) →
      Completes (.slcRelease dt c) s fun t => t.slc = u.slc ∧ Failed rowSlcRelease c u t stTripActive)) ∧
  (∀ (s u : State) (dt : Nat), u = s.elapse dt →
    (u.out.hold.isSome = true → u.sys.token = true → passed u u.out.holdAt (30 * tickS) = true →
      reinitRuns u 2 0 = false → Completes (.outputHoldTimeout dt) s fun t =>
        t.out.hold = none ∧ t.out.flags.getLsbD 1 = true ∧ t.slc = u.slc ∧ t.lpe = u.lpe) ∧
    ((u.out.hold.isSome && u.sys.token && passed u u.out.holdAt (30 * tickS) && !reinitRuns u 2 0) = false →
      Completes (.outputHoldTimeout dt) s fun t => t = u))

/-- MODE_GET reports the mode, the one before, the cause and the entry time. A request for the mode in force changes
nothing; one whose row of R63 the role and the condition meet enters the mode with cause 0x0004, from where a
latched PLANT trip takes STEER, HOLD, ISLAND and MANUAL on to SAFE with cause 0x0005; one below the row's role gets
ST_ROLE, one that has no row or whose condition is not met gets ST_TRANSITION, and no mode changes (R61, R63, R302).
ISLAND_AFTER without contact takes STEER to ISLAND with a policy that may be used and to HOLD without one, and
MANUAL to HOLD, with cause 0x0009, and leaves every other mode; LIMIT_H in ISLAND ends in HOLD with 0x000A; the
start move leaves the start HOLD, once both courses and a fit estimate are there, for STEER in contact and for
ISLAND without contact under a policy that may be used, with 0x000C. No PLANT trip is latched in these clauses.
Before its time, or out of its mode, none of them does anything (R63, R66, R72, R76). -/
def Obligations.ModesAreRequestedAndTimed : Prop :=
  (∀ (s u : State) (dt : Nat) (c : Cmd) (call : Call) (m : Mode) (role : Nat) (met : Bool), u = s.elapse dt →
    (Accepted rowModeGet c u call → call.payload = [] → 20 ≤ call.cap →
      Completes (.modeGet dt c) s fun t => t.sys.mode = u.sys.mode ∧
        Answered rowModeGet c call u t stOk
          (le 1 (modeCode u.sys.mode) ++ le 1 (modeCode u.sys.prev) ++ le16 u.sys.cause.toNat ++ tsBytes u.sys.entry)) ∧
    (Accepted rowModeRequest c u call → call.payload = [BitVec.ofNat 8 (modeCode m), 0, 0, 0] →
      (m = u.sys.mode → Completes (.modeRequest dt c) s fun t =>
        t.sys.mode = u.sys.mode ∧ t.sys.cause = u.sys.cause ∧ Answered rowModeRequest c call u t stOk []) ∧
      (m ≠ u.sys.mode → requestRow u m = some (role, true) → role ≤ call.role → (plantLatched u && mOps m) = false →
        Completes (.modeRequest dt c) s fun t => t.sys.mode = m ∧ t.sys.prev = u.sys.mode ∧ t.sys.cause = 0x0004
          ∧ Answered rowModeRequest c call u t stOk []) ∧
      (m ≠ u.sys.mode → requestRow u m = some (role, true) → role ≤ call.role → (plantLatched u && mOps m) = true →
        Completes (.modeRequest dt c) s fun t => t.sys.mode = .safe ∧ t.sys.prev = m ∧ t.sys.cause = 0x0005
          ∧ Answered rowModeRequest c call u t stOk []) ∧
      (m ≠ u.sys.mode → requestRow u m = some (role, met) → call.role < role →
        Completes (.modeRequest dt c) s fun t => t.sys.mode = u.sys.mode ∧ Failed rowModeRequest c u t stRole) ∧
      (m ≠ u.sys.mode → (requestRow u m = none ∨ requestRow u m = some (role, false) ∧ role ≤ call.role) →
        Completes (.modeRequest dt c) s fun t =>
          t.sys.mode = u.sys.mode ∧ Failed rowModeRequest c u t stTransition))) ∧
  (∀ (s u : State) (dt c0 : Nat), u = s.elapse dt →
    (plantLatched u = false →
      (u.sys.contact = some c0 → passed u c0 (u.sys.islandAfter * tickS) = true → u.sys.mode = .steer →
        Completes (.contactTimerExpiry dt) s fun t =>
          t.sys.mode = (if policyValid u then .island else .hold) ∧ t.sys.cause = 0x0009 ∧ t.sys.contact = none) ∧
      (u.sys.contact = some c0 → passed u c0 (u.sys.islandAfter * tickS) = true → u.sys.mode = .manual →
        Completes (.contactTimerExpiry dt) s fun t =>
          t.sys.mode = .hold ∧ t.sys.cause = 0x0009 ∧ t.sys.contact = none) ∧
      (u.sys.mode = .island → passed u u.sys.since (limitH (policyWord u) * 3600 * tickS) = true →
        Completes (.islandLimitExpiry dt) s fun t => t.sys.mode = .hold ∧ t.sys.cause = 0x000A) ∧
      (u.sys.startMove = true → u.sys.mode = .hold → committed u 0 = true → committed u 1 = true → fitNow u = true →
        (u.sys.contact.isSome = true → Completes (.startMove dt) s fun t =>
          t.sys.mode = .steer ∧ t.sys.cause = 0x000C ∧ t.sys.startMove = false) ∧
        (u.sys.contact = none → policyValid u = true → Completes (.startMove dt) s fun t =>
          t.sys.mode = .island ∧ t.sys.cause = 0x000C ∧ t.sys.startMove = false))) ∧
    (u.sys.contact = some c0 → passed u c0 (u.sys.islandAfter * tickS) = true → u.sys.mode.live = true →
      u.sys.mode ≠ .steer → u.sys.mode ≠ .manual → Completes (.contactTimerExpiry dt) s fun t =>
        t.sys = { u.sys with contact := none } ∧ Raised 3 t) ∧
    ((u.sys.contact = none ∨ u.sys.mode.live = false ∨
        u.sys.contact = some c0 ∧ passed u c0 (u.sys.islandAfter * tickS) = false) →
      Completes (.contactTimerExpiry dt) s fun t => t = u) ∧
    ((u.sys.mode ≠ .island ∨ passed u u.sys.since (limitH (policyWord u) * 3600 * tickS) = false) →
      Completes (.islandLimitExpiry dt) s fun t => t = u) ∧
    ((u.sys.startMove = false ∨ u.sys.mode ≠ .hold ∨ committed u 0 = false ∨ committed u 1 = false ∨ fitNow u = false ∨
        u.sys.contact = none ∧ policyValid u = false) →
      Completes (.startMove dt) s fun t => t = u))

/-- ISLAND_POLICY_GET reads the island policy back as it was approved, its STALE bit with it, and gets ST_NOT_FOUND
without one; ISLAND_POLICY_SET installs a policy whose fields are in range and whose hash names the resident PLAN
course, and refuses any other with ST_OUT_OF_RANGE, or without such a course with ST_NOT_FOUND (R70, R71). -/
def Obligations.IslandPolicyIsKept : Prop :=
  ∀ (s u : State) (dt : Nat) (c : Cmd) (call : Call) (p : Policy) (r : Course), u = s.elapse dt →
    (Accepted rowIslandPolicyGet c u call → call.payload = [] → 68 ≤ call.cap → u.policy = some p →
      Completes (.islandPolicyGet dt c) s fun t => t.policy = u.policy ∧
        ((le32 (p.word.toNat + 2 ^ 31 * bit p.stale) ++ p.hash ++ tsBytes p.approved).length ≤ call.cap →
          Answered rowIslandPolicyGet c call u t stOk
            (le32 (p.word.toNat + 2 ^ 31 * bit p.stale) ++ p.hash ++ tsBytes p.approved))) ∧
    (Accepted rowIslandPolicyGet c u call → call.payload = [] → 68 ≤ call.cap → u.policy = none →
      Completes (.islandPolicyGet dt c) s fun t => t.policy = none ∧ Failed rowIslandPolicyGet c u t stNotFound) ∧
    (Accepted rowIslandPolicySet c u call → call.payload.length = 52 → policyWordOk (w32 call.payload 0) = true →
      residentCourse u 1 = some r →
      call.payload.drop 4 = policyDigest (w32 call.payload 0) u (hSignature r.image) →
      Completes (.islandPolicySet dt c) s fun t =>
        t.policy = some { word := w32 call.payload 0, hash := call.payload.drop 4, approved := legal u, stale := false }
          ∧ Answered rowIslandPolicySet c call u t stOk []) ∧
    (Accepted rowIslandPolicySet c u call → call.payload.length = 52 →
      (policyWordOk (w32 call.payload 0) = false ∨ residentCourse u 1 = some r ∧
        call.payload.drop 4 ≠ policyDigest (w32 call.payload 0) u (hSignature r.image)) →
      Completes (.islandPolicySet dt c) s fun t =>
        t.policy = u.policy ∧ Failed rowIslandPolicySet c u t stOutOfRange) ∧
    (Accepted rowIslandPolicySet c u call → call.payload.length = 52 → policyWordOk (w32 call.payload 0) = true →
      residentCourse u 1 = none → Completes (.islandPolicySet dt c) s fun t =>
        t.policy = u.policy ∧ Failed rowIslandPolicySet c u t stNotFound)

/-- The doorbell moves the tail, or sets TAIL_RANGE; CMD_RING enables a ring whose LOG2 fields are 4 to 10, leaves EN at
0 and sets CFG_RANGE for others, takes its fields while EN is 0, and disables a ring once its outstanding commands
have posted; CMD_CTRL enables fetching; CMD_CQH moves the head. While register space is not reachable all of them
are discarded (R15, R47, R48, R481; that an EN 1 written while a ring closes is discarded is the model's choice, log
entry 115). -/
def Obligations.RingsAreCommanded : Prop :=
  ∀ (s u : State) (dt n : Nat) (v : Word), u = s.elapse dt → n < 8 →
    (reachable u = true →
      (v.toNat % 1024 < 2 ^ (ringOf u n).sqLog →
        Completes (.cmdSqDoorbell dt n v) s fun t => t = setRing n { ringOf u n with sqt := v.toNat % 1024 } u) ∧
      (2 ^ (ringOf u n).sqLog ≤ v.toNat % 1024 →
        Completes (.cmdSqDoorbell dt n v) s fun t => ringOf t n = ringOf u n ∧ t.vcp.err = bset u.vcp.err 2) ∧
      ((ringOf u n).en = false → v.getLsbD 31 = true → 4 ≤ v.toNat / 16 % 16 → v.toNat / 16 % 16 ≤ 10 →
        4 ≤ v.toNat % 16 → v.toNat % 16 ≤ 10 →
        Completes (.cmdRingWrite dt n v) s fun t =>
          ringOf t n = { ringOf u n with
            en := true, vector := v.toNat / 256 % 64, cqLog := v.toNat / 16 % 16, sqLog := v.toNat % 16 }
            ∧ t.vcp.err = u.vcp.err) ∧
      ((ringOf u n).en = false → v.getLsbD 31 = true →
        ¬(4 ≤ v.toNat / 16 % 16 ∧ v.toNat / 16 % 16 ≤ 10 ∧ 4 ≤ v.toNat % 16 ∧ v.toNat % 16 ≤ 10) →
        Completes (.cmdRingWrite dt n v) s fun t => (ringOf t n).en = false ∧ t.vcp.err = bset u.vcp.err 3) ∧
      ((ringOf u n).en = false → v.getLsbD 31 = false → Completes (.cmdRingWrite dt n v) s fun t =>
        ringOf t n = { ringOf u n with
          vector := v.toNat / 256 % 64, cqLog := v.toNat / 16 % 16, sqLog := v.toNat % 16 }) ∧
      ((ringOf u n).en = true → v.getLsbD 31 = false → (ringOf u n).waiting = 0 →
        Completes (.cmdRingWrite dt n v) s fun t => ringOf t n = { ringOf u n with en := false }) ∧
      ((ringOf u n).en = true → v.getLsbD 31 = false → (ringOf u n).waiting ≠ 0 →
        Completes (.cmdRingWrite dt n v) s fun t => ringOf t n = { ringOf u n with closing := true }) ∧
      ((ringOf u n).en = true → v.getLsbD 31 = true → Completes (.cmdRingWrite dt n v) s fun t => t = u) ∧
      (Completes (.cmdCtrlWrite dt v) s fun t => t = { u with vcp := { u.vcp with enable := v.getLsbD 0 } }) ∧
      (Completes (.cmdCqHeadWrite dt n v) s fun t => t = setRing n { ringOf u n with cqh := v.toNat % 1024 } u)) ∧
    (reachable u = false →
      (Completes (.cmdSqDoorbell dt n v) s fun t => t = u) ∧ (Completes (.cmdRingWrite dt n v) s fun t => t = u) ∧
      (Completes (.cmdCtrlWrite dt v) s fun t => t = u) ∧ Completes (.cmdCqHeadWrite dt n v) s fun t => t = u)

/-- EVT_MASK masks and unmasks 32 sources; EVT_VARM arms vectors, and a vector armed that owes a message sends it and is
disarmed; a hold-off that ends sends the message that is due, or sets the Pending Bit of a masked vector, and ARMED
clears; without one due nothing happens, nor while register space is not reachable (R452, R454, R455, R481). -/
def Obligations.EventRegistersAct : Prop :=
  ∀ (s u : State) (dt w x v : Nat) (d : Word), u = s.elapse dt →
    (reachable u = true → alwaysOn u = true → w < 6 → Completes (.evtMaskWrite dt w d) s fun t =>
      (∀ i, i < 32 → t.evt.mask.getLsbD (32 * w + i) = d.getLsbD i) ∧
      (∀ n, n < 192 → n / 32 ≠ w → t.evt.mask.getLsbD n = u.evt.mask.getLsbD n) ∧ t.evt.pend = u.evt.pend) ∧
    (reachable u = true → alwaysOn u = true → x < 2 → Completes (.evtVarmWrite dt x d) s fun t =>
      (∀ n, n < 64 → t.evt.armed.getLsbD n =
        ((u.evt.armed.getLsbD n || (decide (n / 32 = x) && d.getLsbD (n % 32))) &&
          !(u.pcie.linkUp && u.pcie.msix && vectorSignalled u.evt n && heldOff u n))) ∧
      t.evt.mask = u.evt.mask ∧ t.evt.pend = u.evt.pend) ∧
    ((reachable u = false ∨ alwaysOn u = false) →
      (Completes (.evtMaskWrite dt w d) s fun t => t = u) ∧ Completes (.evtVarmWrite dt x d) s fun t => t = u) ∧
    (messageDue u v = true → v < 64 → Completes (.evtHoldoffExpiry dt v) s fun t =>
      t.evt.armed = bclr u.evt.armed v ∧ (tget t.evt.vecs v {}).cleared = some (now u)
        ∧ (tget t.evt.vecs v {}).msgs = (tget u.evt.vecs v {}).msgs + 1
        ∧ ((u.pcie.functionMask || u.pcie.vmask.getLsbD v) = false → t.sent = u.sent ++ [msixOf u v])
        ∧ ((u.pcie.functionMask || u.pcie.vmask.getLsbD v) = true →
            t.sent = u.sent ∧ t.pcie.pba = bset u.pcie.pba v)) ∧
    (messageDue u v = false → Completes (.evtHoldoffExpiry dt v) s fun t => t = u)

/-- Every flag register is write-1-to-clear, but for a flag raised in the same cycle (R450). A flag clear aimed at
another register changes nothing. A write to a register block while its power domain is gated or register space is
not reachable is discarded (R9, R15, R481). -/
def Obligations.FlagsClearAndGatedWritesAreDiscarded : Prop :=
  (∀ (s u : State) (dt offset : Nat) (v raised : Word), u = s.elapse dt →
    (isFlagRegister offset = false → Completes (.flagClearWrite dt offset v raised) s fun t => t = u) ∧
    (reachable u = true → pd u 1 = true → pd u (windowDomain (offset / 0x10000)) = true → offset < 0x150000 →
      offset % 4 = 0 → isFlagRegister offset = true → Completes (.flagClearWrite dt offset v raised) s fun t => ∀ i, i < 32 →
      (readReg t offset).getLsbD i = ((readReg u offset).getLsbD i && (!v.getLsbD i || raised.getLsbD i)))) ∧
  (∀ (s u : State) (dt o : Nat) (v raised : Word) (data : Bytes), u = s.elapse dt →
    (reachable u = false ∨ (o / 0x10000 < 21 ∧ pd u (windowDomain (o / 0x10000)) = false)) →
    (u.sys.resetWanted = none → data.length = 4 → o % 4 = 0 → Completes (.registerWrite dt o data) s fun t => t = u) ∧
    Completes (.flagClearWrite dt o v raised) s fun t => t = u)

/-- A read of register space, of any size and alignment, that touches TIM_CNT_L latches the counter and both views; one
that touches the low word of an accumulator latches its whole value; both return the bytes of what they read. Before
the endpoint is enumerated it gets an Unsupported Request, with the link down nothing. KEY_PUBSEL selects a slot and
a form. A write takes effect only on a register that it writes whole and that takes one: an event ball's POL and EN,
and the key in SYS_RESET among them (R6, R8, R60, R145, R334, R395, R453, R481). -/
def Obligations.RegistersAreReadAndWritten : Prop :=
  ∀ (s u : State) (dt n k o size a : Nat) (v : Word) (data : Bytes), u = s.elapse dt →
    (reachable u = true →
      (pd u 1 = true → o ≤ 0x8000B → 0x80008 < o + size → Completes (.timCntLRead dt o size) s fun t =>
        t.tim.latchCount = now u ∧ t.tim.latchServo = servo u ∧ t.tim.latchLegal = legal u
          ∧ t.tim.counter = u.tim.counter ∧ t.sent = u.sent ++ [.registerRead o (readBytes t o size)]
          ∧ (o = 0x80008 → size = 4 → t.sent = u.sent ++ [.registerRead o (le32 (now u))])) ∧
      (1 ≤ size → ¬(o ≤ 0x8000B ∧ 0x80008 < o + size) → Completes (.timCntLRead dt o size) s fun t =>
        t.tim = u.tim ∧ t.sent = u.sent ++ [.registerRead o (readBytes t o size)]) ∧
      (n < 12 → k < 8 → a = 0x51000 + 0x40 * n + 8 * k → pd u 1 = true → pd u 3 = true → o < a + 4 → a < o + size →
        Completes (.mtrAccLRead dt o size) s fun t =>
          (mtrChan t n).latch.getD k 0 = (mtrChan u n).accs.counts.getD k 0 ∧
          (mtrChan t n).accs = (mtrChan u n).accs ∧ t.sent = u.sent ++ [.registerRead o (readBytes t o size)] ∧
          (o = a → size = 4 →
            t.sent = u.sent ++ [.registerRead o (le32 ((mtrChan u n).accs.counts.getD k 0).toNat)])) ∧
      (pd u 5 = true → Completes (.keyPubselWrite dt v) s fun t =>
        t.key.pubSlot = v.toNat % 256 ∧ t.key.pubForm = v.toNat / 256 % 4 ∧ t.key.slots = u.key.slots) ∧
      (data.length = 4 → pd u 1 = true → u.sys.resetWanted = none → k < 8 → o = 0x20080 + 4 * k →
        Completes (.registerWrite dt o data) s fun t =>
          readReg t o = w32 data 0 &&& 3 ∧ t.evt.pend = u.evt.pend ∧ t.evt.mask = u.evt.mask) ∧
      (data.length = 4 → pd u 1 = true → o = 0x30 → w32 data 0 = 0x5A560021 →
        Completes (.registerWrite dt o data) s fun t => t.pmu.resetCause = 0x05 ∧ t.sys.started = true)) ∧
    (pd u 11 = true → u.pcie.linkUp = true → reachable u = false →
      (Completes (.timCntLRead dt o size) s fun t => t = emit .unsupported u) ∧
      Completes (.mtrAccLRead dt o size) s fun t => t = emit .unsupported u) ∧
    ((pd u 11 = false ∨ u.pcie.linkUp = false) →
      (Completes (.timCntLRead dt o size) s fun t => t = u) ∧ Completes (.mtrAccLRead dt o size) s fun t => t = u) ∧
    ((reachable u = false ∨ pd u 5 = false) → Completes (.keyPubselWrite dt v) s fun t => t = u) ∧
    (u.sys.resetWanted = none → (∀ r, o ≤ 4 * r → ¬ 4 * r + 4 ≤ o + data.length) →
      Completes (.registerWrite dt o data) s fun t => t = u) ∧
    (data.length = 4 → o % 4 = 0 → u.sys.resetWanted = none →
      ((o / 0x10000 = 0 ∧ o ≠ 0x30) ∨ o / 0x10000 = 7 ∨ o / 0x10000 = 20 ∨ 21 ≤ o / 0x10000) →
      Completes (.registerWrite dt o data) s fun t => t = u)

/-- Configuration space and the MSI-X table: enumeration, Memory Space Enable, MSI-X Enable with the Function Mask, a
vector's entry; an unmasked vector's held message is sent and its Pending Bit clears; PERST_N and a function-level
reset close the PCIe sessions and reset the rings, and leave EVT_ and every other transport's session. With the link
down configuration space takes nothing (R40, R46, R455, R462, R481; that the link trains again at once after PERST_N
is the model's choice, log entry 5). -/
def Obligations.PcieIsConfiguredAndReset : Prop :=
  ∀ (s u : State) (dt v : Nat) (b0 b2 address : Dword) (data : Word) (on fm mask : Bool) (w : PcieConfig),
    u = s.elapse dt →
    (pd u 11 = true → u.pcie.linkUp = true →
      (Completes (.pcieConfigWrite dt (.enumerate b0 b2)) s fun t =>
        t = { u with pcie := { u.pcie with enumerated := true, bar0 := b0, bar2 := b2 } }) ∧
      (Completes (.pcieConfigWrite dt (.memorySpace on)) s fun t =>
        t = { u with pcie := { u.pcie with memorySpace := on } }) ∧
      (Completes (.pcieConfigWrite dt (.msix on fm)) s fun t =>
        t.pcie.msix = on ∧ t.pcie.functionMask = fm ∧ t.evt.pend = u.evt.pend) ∧
      (reachable u = true → v < 64 → Completes (.pcieConfigWrite dt (.vector v address data mask)) s fun t =>
        tget t.pcie.table v (0, 0) = (address, data) ∧ t.pcie.vmask = bput u.pcie.vmask v mask ∧ t.evt = u.evt) ∧
      (Completes (.msixVectorUnmask dt none) s fun t => t.pcie.functionMask = false ∧
        (v < 64 → u.pcie.pba.getLsbD v = true → u.pcie.vmask.getLsbD v = false → u.pcie.msix = true →
          t.pcie.pba.getLsbD v = false ∧ msixOf u v ∈ sentSince u t)) ∧
      (reachable u = true → v < 64 → Completes (.msixVectorUnmask dt (some v)) s fun t =>
        t.pcie.vmask = bclr u.pcie.vmask v ∧
        (u.pcie.pba.getLsbD v = true → u.pcie.functionMask = false → u.pcie.msix = true →
          t.pcie.pba.getLsbD v = false ∧ msixOf u v ∈ sentSince u t)) ∧
      (u.pcie.enumerated = true → Completes (.functionLevelReset dt) s fun t =>
        t.vcp.rings = [] ∧ t.vcp.enable = false ∧ t.evt = u.evt ∧ t.pcie.enumerated = false ∧ t.pcie.linkUp = true
          ∧ (∀ x ∈ t.vcp.sessions, x.transport ≠ .pcie)
          ∧ t.vcp.sessions = u.vcp.sessions.filter (fun x => !(u.vcp.sessions.any (fun y =>
              decide (y.transport = .pcie ∧ y.sid = x.sid)))))) ∧
    (pd u 11 = true → Completes (.pciePerstN dt) s fun t =>
      t.vcp.rings = [] ∧ t.vcp.enable = false ∧ t.evt = u.evt ∧ t.pcie.enumerated = false
        ∧ (∀ x ∈ t.vcp.sessions, x.transport ≠ .pcie)
        ∧ t.vcp.sessions = u.vcp.sessions.filter (fun x => !(u.vcp.sessions.any (fun y =>
            decide (y.transport = .pcie ∧ y.sid = x.sid))))) ∧
    ((pd u 11 = false ∨ u.pcie.linkUp = false) →
      (Completes (.pcieConfigWrite dt w) s fun t => t = u) ∧ (Completes (.msixVectorUnmask dt none) s fun t => t = u) ∧
      (Completes (.msixVectorUnmask dt (some v)) s fun t => t = u) ∧
      Completes (.functionLevelReset dt) s fun t => t = u) ∧
    ((pd u 11 = false ∨ u.pcie.enumerated = false) → Completes (.functionLevelReset dt) s fun t => t = u) ∧
    (pd u 11 = false → Completes (.pciePerstN dt) s fun t => t = u)

/-- SES_CHALLENGE issues a nonce of this transport; SES_OPEN with a valid one and a proof of the role opens a session
and uses it up, without either it ends with ST_AUTH, above the life-cycle state's role with ST_LIFECYCLE, and when
no session fits with ST_SESSIONS_FULL; SES_CLOSE closes its session and no other; SYS_NOP returns its payload (R37
to R40, R54; that the first H counts as not seen is the model's reading, log entry 117). 300 s without a command
close a session, and less close none; the close of an association closes its sessions; a client that offers what is
supported and whose key is in the role table gets an association, any other on a bound port is refused, and one on a
port not bound to VCP is counted (R24, R40, R49). -/
def Obligations.SessionsOpenCloseAndEnd : Prop :=
  (∀ (s u : State) (dt : Nat) (c : Cmd) (call : Call), u = s.elapse dt →
    (Accepted rowSesChallenge c u call → call.payload = [] → 32 ≤ call.cap →
      Completes (.sesChallenge dt c) s fun t => ∃ n : Bytes, n.length = 32 ∧
        t.vcp.nonces = u.vcp.nonces ++ [{ value := n, transport := call.transport, issued := now u }] ∧
        Answered rowSesChallenge c call u t stOk n) ∧
    (Accepted rowSesOpen c u call → 44 ≤ call.payload.length → call.payload.length = 44 + u16 call.payload 40 →
      12 ≤ call.cap → openFieldsOk call.transport call.payload = true →
      ((∀ r, roleLimit (lifecycle u) = some r → r < u8 call.payload 0) → Completes (.sesOpen dt c) s fun t =>
        t.vcp.nonces = u.vcp.nonces ∧ Failed rowSesOpen c u t stLifecycle) ∧
      ((∃ r, roleLimit (lifecycle u) = some r ∧ u8 call.payload 0 ≤ r) →
        (sessionsFull call.transport call.assoc u = true → Completes (.sesOpen dt c) s fun t =>
          t.vcp.nonces = u.vcp.nonces ∧ Failed rowSesOpen c u t stSessionsFull) ∧
        (sessionsFull call.transport call.assoc u = false →
          (nonceValid u call.transport (slice call.payload 8 32) &&
            openProof call.transport call.assoc call.payload u) = false → Completes (.sesOpen dt c) s fun t =>
          t.vcp.nonces = u.vcp.nonces ∧ t.vcp.sessions.length = u.vcp.sessions.length ∧ Failed rowSesOpen c u t stAuth) ∧
        (sessionsFull call.transport call.assoc u = false →
          nonceValid u call.transport (slice call.payload 8 32) = true →
          openProof call.transport call.assoc call.payload u = true → Completes (.sesOpen dt c) s fun t =>
          ∃ x : Session, x ∈ t.vcp.sessions ∧ x.sid ≠ 0 ∧
            (∀ y ∈ u.vcp.sessions, y.sid ≠ x.sid) ∧ x.transport = call.transport ∧ x.role = u8 call.payload 0 ∧
            x.high = call.seq ∧ x.cached = [] ∧ t.vcp.sessions.length = u.vcp.sessions.length + 1 ∧
            nonceValid t call.transport (slice call.payload 8 32) = false ∧
            Answered rowSesOpen c call u t stOk (le32 x.sid.toNat ++ le 1 x.role ++ le 1 (transportCode call.transport)
              ++ le16 x.maxPayload ++ le32 300)))) ∧
    (Accepted rowSesClose c u call → call.payload = [] → Completes (.sesClose dt c) s fun t =>
      (∀ x ∈ t.vcp.sessions, x.sid ≠ c.sid) ∧ (∀ x ∈ u.vcp.sessions, x.sid ≠ c.sid → x ∈ t.vcp.sessions) ∧
      t.sys.manual ≠ some c.sid ∧ Answered rowSesClose c call u t stOk []) ∧
    (Accepted rowSysNop c u call → call.payload.length ≤ 64 → call.payload.length ≤ call.cap →
      Completes (.sysNop dt c) s fun t => t.sys.mode = u.sys.mode ∧ t.out = u.out ∧ t.key = u.key ∧ t.cfg = u.cfg
        ∧ Answered rowSysNop c call u t stOk call.payload)) ∧
  (∀ (s u : State) (dt a : Nat) (sid : Word) (x : Session) (h : Handshake), u = s.elapse dt →
    (x ∈ u.vcp.sessions → x.sid = sid → passed u x.last (300 * tickS) = true →
      Completes (.sessionIdleTimeout dt sid) s fun t => ∀ y ∈ t.vcp.sessions, y.sid ≠ sid) ∧
    ((∀ y ∈ u.vcp.sessions, y.sid = sid → passed u y.last (300 * tickS) = false) →
      Completes (.sessionIdleTimeout dt sid) s fun t => t = u) ∧
    (Completes (.dtlsAssociationClose dt a) s fun t =>
      tfind t.vcp.assocs a = none ∧ (∀ y ∈ t.vcp.sessions, ¬(y.transport = .udp ∧ y.assoc = a)) ∧
      (∀ b, b ≠ a → tfind t.vcp.assocs b = tfind u.vcp.assocs b)) ∧
    (served .udp u = true → u.net.bindVcp.testBit h.port = true → serverReady u = true → h.profile = true →
      h.certOk = true → (∀ n, clientEntry u h.key = some n → Completes (.vcpDtlsHandshake dt h) s fun t =>
        tfind t.vcp.assocs h.assoc = some { port := h.port, credential := n } ∧
        .handshake h.assoc true ∈ sentSince u t)) ∧
    (served .udp u = true → u.net.bindVcp.testBit h.port = true →
      (serverReady u = false ∨ h.profile = false ∨ h.certOk = false ∨ clientEntry u h.key = none) →
      Completes (.vcpDtlsHandshake dt h) s fun t => t.vcp = u.vcp ∧ .handshake h.assoc false ∈ sentSince u t) ∧
    (served .udp u = true → u.net.bindVcp.testBit h.port = false → Completes (.vcpDtlsHandshake dt h) s fun t =>
      t.vcp = u.vcp ∧ (netPort t h.port).unbound = (netPort u h.port).unbound + 1 ∧ t.sent = u.sent) ∧
    (served .udp u = false → Completes (.vcpDtlsHandshake dt h) s fun t => t = u))

/-- A packet that an SPI command, a DTLS record or a submission-queue entry brings well framed runs the command it
spells (its opcode's row), and a device reset it asks for follows; one that breaks a framing check on the SPI port
runs nothing and is answered with its status. A command while the port is busy sets FRAME_ERR, which the status
shows and clears; the response is handed out with zeros past its end. A record that does not authenticate is dropped
and counted, a KeyUpdate taken. An entry that is not fetched sets FETCH_DMA, one whose size is out of range
completes with ST_LENGTH and 0 bytes (R33, R47, R48, R49, R51). -/
def Obligations.TransportsCarryPackets : Prop :=
  ∀ (s u : State) (dt n : Nat) (p : Bytes) (r : DtlsRecord) (f : SqFetch) (st : Half), u = s.elapse dt →
    (∀ w, w = { u with vcp := { u.vcp with spiBusy := true } } → spiOn u = true → u.vcp.spiBusy = false →
      u.vcp.spiRsp = none → 20 ≤ p.length →
      st = framingStatus (transportLimit .spi (sessionOf w .spi 0 (w32 p 12))) .spi p →
      (st = stOk → Completes (.spiQueueCommand dt p) s fun t =>
        ∃ x, x = runCode (u16 p 8) (packetCmd { transport := .spi } 0 none 4 p) w ∧
          t = finishReset { x with vcp := { x.vcp with
            spiBusy := x.vcp.deferred.any (fun d => decide (d.transport = .spi))
              || x.vcp.held.any (fun h => decide (h.cmd.transport = .spi)) } }) ∧
      (st ≠ stOk → u.sys.resetWanted = none → Completes (.spiQueueCommand dt p) s fun t =>
        t.sys = u.sys ∧ t.vcp.sessions = u.vcp.sessions ∧ ∃ e ∈ sentSince u t, ∃ trailer,
          e = .response .spi 0 (w32 p 4) (w32 p 12) (BitVec.ofNat 16 (u16 p 8))
            (rspFlags (BitVec.ofNat 8 (u8 p 3)) false) st [] trailer 0)) ∧
    (spiOn u = true → (u.vcp.spiBusy || u.vcp.spiRsp.isSome) = true → u.sys.resetWanted = none →
      Completes (.spiQueueCommand dt p) s fun t => t = { u with vcp := { u.vcp with spiFrameErr := true } }) ∧
    (spiOn u = true → Completes (.spiReadStatus dt) s fun t =>
      t = emit (.spi (le 1 (bit u.vcp.spiBusy + 2 * bit u.vcp.spiRsp.isSome + 4 * bit u.vcp.spiFrameErr)))
        { u with vcp := { u.vcp with spiFrameErr := false } }) ∧
    (spiOn u = true → Completes (.spiReadResponse dt n) s fun t =>
      t = emit (.spi ((u.vcp.spiRsp.getD [] ++ zeros n).take n)) { u with vcp := { u.vcp with spiRsp := none } }) ∧
    (spiOn u = false → (Completes (.spiReadStatus dt) s fun t => t = u) ∧
      Completes (.spiReadResponse dt n) s fun t => t = u) ∧
    (served .udp u = true → u.net.bindVcp.testBit r.port = true → r.authentic = true →
      (tfind u.vcp.assocs r.assoc).isSome = true → r.keyUpdate = false → 16 ≤ r.packet.length →
      framingStatus (transportLimit .udp (sessionOf u .udp r.assoc (w32 r.packet 12))) .udp r.packet = stOk →
      Completes (.vcpDtlsRecord dt r) s fun t => t = finishReset
        (runCode (u16 r.packet 8) (packetCmd { transport := .udp, assoc := r.assoc } 0 none 0 r.packet) u)) ∧
    (served .udp u = true → u.net.bindVcp.testBit r.port = true → u.sys.resetWanted = none →
      ((r.authentic = false ∨ tfind u.vcp.assocs r.assoc = none) → Completes (.vcpDtlsRecord dt r) s fun t =>
        t = { u with vcp := { u.vcp with dropped := u.vcp.dropped + 1 } }) ∧
      (r.authentic = true → r.keyUpdate = true → ∀ x, tfind u.vcp.assocs r.assoc = some x →
        Completes (.vcpDtlsRecord dt r) s fun t =>
          tfind t.vcp.assocs r.assoc = some { x with keyIn := x.keyIn + 1 } ∧ t.sent = u.sent)) ∧
    (∀ e b : Bytes, mayFetch u n = true → f.entry = some e → 20 ≤ u32 e 16 → u32 e 16 ≤ 16404 → f.packet = some b →
      b.length = u32 e 16 → f.rspFault = false →
      framingStatus (transportLimit .pcie (sessionOf u .pcie n (w32 b 12))) .pcie b = stOk →
      Completes (.sqEntryFetch dt n f) s fun t => t = finishReset (runCode (u16 b 8)
        (packetCmd { transport := .pcie, assoc := n, tag := w32 e 24, address := w64 e 8
                     head := (ringOf (passEntry n u) n).sqh } (u32 e 20) f.host 4 b) (passEntry n u))) ∧
    (u.sys.resetWanted = none →
      (mayFetch u n = true → f.entry = none → Completes (.sqEntryFetch dt n f) s fun t =>
        t = cmdErr 0 (passEntry n u)) ∧
      (∀ e, mayFetch u n = true → f.entry = some e → f.rspFault = false → (u32 e 16 < 20 ∨ 16404 < u32 e 16) →
        Completes (.sqEntryFetch dt n f) s fun t => ∃ phase, .completion n (w32 e 24) stLength phase 0
          (ringOf (passEntry n u) n).sqh ∈ sentSince u t) ∧
      (mayFetch u n = false → Completes (.sqEntryFetch dt n f) s fun t => t = u))

/-- SYS_INFO and SYS_STATUS report the part and its state (which fault flags the word holds is open, log entry 83). A
FUNC_REINIT of a function and instance there are begins the re-initialisation: it waits for its end to answer,
changes no mode, and of the loop engine stops the engine behind the output-hold latch; another gets ST_OUT_OF_RANGE.
None but the loop engine's lasts beyond its bound. The loop engine is out of service until it restarts, when the
latch is released and event 5 raised; a restart of one that is in service does nothing (R54, R55, R79, R300; that
the others last their bound is the model's choice, log entry 84). -/
def Obligations.SystemCommandsAnswer : Prop :=
  ∀ (s u : State) (dt : Nat) (c : Cmd) (call : Call), u = s.elapse dt →
    (Accepted rowSysInfo c u call → call.payload = [] → 24 ≤ call.cap → Completes (.sysInfo dt c) s fun t =>
      Answered rowSysInfo c call u t stOk (le32 0x7E207700 ++ le32 0x00000010 ++ le32 0x10400400
        ++ le32 0x00004419 ++ le32 u.sys.firmware.toNat ++ le 1 (bit u.sys.bootSlot) ++ le 1 (lifecycle u)
        ++ le16 0)) ∧
    (Accepted rowSysStatus c u call → call.payload = [] → 24 ≤ call.cap → Completes (.sysStatus dt c) s fun t =>
      ∃ flags : Word, Answered rowSysStatus c call u t stOk (le 1 (modeCode u.sys.mode) ++ le 1 (bit u.sys.token)
        ++ le16 (pmuReg u 0x00) ++ le32 flags.toNat ++ tsBytes (servo u))) ∧
    (Accepted rowFuncReinit c u call → call.payload.length = 4 →
      functionOk (u16 call.payload 0) (u16 call.payload 2) = true → Completes (.funcReinit dt c) s fun t =>
        t.sys.mode = u.sys.mode ∧ t.mtr.channels = u.mtr.channels ∧ t.lpe.slots = u.lpe.slots ∧
        (∃ x ∈ t.sys.reinit, x.func = u16 call.payload 0 ∧ x.unit = u16 call.payload 2) ∧
        (∃ d ∈ t.vcp.deferred, d.opcode = 0x0020 ∧ d.seq = c.seq ∧ d.sid = c.sid) ∧
        (u16 call.payload 0 = 2 → t.lpe.running = false ∧ t.lpe.traces = [] ∧ t.out.hold.isSome = true)) ∧
    (Accepted rowFuncReinit c u call → call.payload.length = 4 →
      functionOk (u16 call.payload 0) (u16 call.payload 2) = false → Completes (.funcReinit dt c) s fun t =>
        t.sys.reinit = u.sys.reinit ∧ Failed rowFuncReinit c u t stOutOfRange) ∧
    (∀ x ∈ u.sys.reinit, ∀ e, x.ends = some e → now u < e) ∧
    ((∃ x ∈ u.sys.reinit, x.func = 2) → Completes (.loopEngineRestart dt) s fun t =>
      t.lpe.running = true ∧ t.out.hold = none ∧ t.sys.reinit.length < u.sys.reinit.length ∧ Raised 5 t) ∧
    ((∀ x ∈ u.sys.reinit, x.func ≠ 2) → Completes (.loopEngineRestart dt) s fun t => t = u)

/-- A tamper source that may trip zeroises the vault: sources and seconds are recorded; while firmware runs no key of
slots 8 to 255 is left, the flag is set with event 104, and a new owner root is generated in OWNED at once if PD5 is
powered; in VAULT the wipe is noted for the next start-up. A disabled loop, and any source without VBAT, changes
nothing (R377, R380, R381). -/
def Obligations.TamperZeroises : Prop :=
  ∀ (s u : State) (dt : Nat) (x : Byte), u = s.elapse dt →
    (u.board.vbat = true → tamperSources u x ≠ 0 →
      (u.sys.mode = .vault → Completes (.tamperDetect dt x) s fun t =>
        t.key.slots = [] ∧ t.key.root = none ∧ t.key.previous = none ∧ t.key.journal = none
          ∧ t.key.tamper = tamperSources u x ∧ t.key.tamperAt = rtcSeconds u % 2 ^ 32 ∧ t.key.wiped = true
          ∧ t.key.records = u.key.records ∧ t.sys.mode = .vault) ∧
      (u.sys.mode ≠ .vault → pd u 5 = true → Completes (.tamperDetect dt x) s fun t =>
        (∀ n, 8 ≤ n → keySlot t n = {}) ∧ t.key.tamper = tamperSources u x
          ∧ t.key.tamperAt = rtcSeconds u % 2 ^ 32 ∧ t.key.flags.getLsbD 0 = true
          ∧ (u.key.flags.getLsbD 0 = false → Raised 104 t)
          ∧ t.key.root.isSome = decide (lifecycle u = 3) ∧ t.key.fuses = u.key.fuses ∧ t.sys.mode = u.sys.mode) ∧
      (u.sys.mode ≠ .vault → pd u 5 = false → Completes (.tamperDetect dt x) s fun t =>
        t.key.slots = [] ∧ t.key.root = none ∧ t.key.tamper = tamperSources u x
          ∧ t.key.tamperAt = rtcSeconds u % 2 ^ 32 ∧ t.key.flags.getLsbD 0 = true ∧ t.sys.mode = u.sys.mode)) ∧
    ((u.board.vbat = false ∨ tamperSources u x = 0) → Completes (.tamperDetect dt x) s fun t => t = u)

/-- KEY_STATUS reads a slot. KEY_DERIVE and KEY_UPDATE write the secret that R385 and R386 give to a slot, ACTIVE with
its next generation, which the response carries; outside OWNED they get ST_LIFECYCLE, a value out of range gets
ST_OUT_OF_RANGE, and the checks of the slots then name the status that refuses; a wrapped key whose ephemeral key is
not on the curve gets ST_OUT_OF_RANGE, one whose tag fails ST_SIGNATURE. What is refused changes no key (R383, R385
to R387). -/
def Obligations.KeysAreReadDerivedAndUpdated : Prop :=
  ∀ (s u : State) (dt : Nat) (c : Cmd) (call : Call) (p : Bytes) (st : Half), u = s.elapse dt → p = call.payload →
    (Accepted rowKeyStatus c u call → p.length = 4 → 12 ≤ call.cap →
      (allZero (slice p 1 3) = true → Completes (.keyStatus dt c) s fun t => t.key = u.key ∧
        Answered rowKeyStatus c call u t stOk (le 1 (keySlot u (u8 p 0)).parent ++ le 1 (keySlot u (u8 p 0)).state
          ++ le16 (keySlot u (u8 p 0)).policy ++ le32 (keyGen u (u8 p 0))
          ++ le32 (keyRecord u (u8 p 0)).uses.toNat)) ∧
      (allZero (slice p 1 3) = false → Completes (.keyStatus dt c) s fun t =>
        t.key = u.key ∧ Failed rowKeyStatus c u t stOutOfRange)) ∧
    (Accepted rowKeyDerive c u call → p.length = 8 + u8 p 4 → u8 p 4 ≤ 64 → 4 ≤ call.cap →
      (lifecycle u = 3 → treeFits u (u8 p 0) (u8 p 1) (u16 p 2) = true → allZero (slice p 5 3) = true →
        parentCheck u (u8 p 0) (u8 p 1) polDerive = none → Completes (.keyDerive dt c) s fun t =>
          keySlot t (u8 p 0) = {
            parent := u8 p 1, state := 1, policy := u16 p 2
            secret := derivedSecret u (u8 p 0) (u8 p 1) (u16 p 2) (p.drop 8) } ∧
          keyGen t (u8 p 0) = keyGen u (u8 p 0) + 1 ∧
          Answered rowKeyDerive c call u t stOk (le32 (keyGen t (u8 p 0)))) ∧
      (lifecycle u = 3 → treeFits u (u8 p 0) (u8 p 1) (u16 p 2) = true → allZero (slice p 5 3) = true →
        parentCheck u (u8 p 0) (u8 p 1) polDerive = some st → Completes (.keyDerive dt c) s fun t =>
          t.key = u.key ∧ Failed rowKeyDerive c u t st) ∧
      (lifecycle u = 3 → (treeFits u (u8 p 0) (u8 p 1) (u16 p 2) && allZero (slice p 5 3)) = false →
        Completes (.keyDerive dt c) s fun t => t.key = u.key ∧ Failed rowKeyDerive c u t stOutOfRange) ∧
      (lifecycle u ≠ 3 → Completes (.keyDerive dt c) s fun t =>
        t.key = u.key ∧ Failed rowKeyDerive c u t stLifecycle)) ∧
    (Accepted rowKeyUpdate c u call → p.length = 188 → 4 ≤ call.cap →
      (lifecycle u = 3 → treeFits u (u8 p 0) (u8 p 4) (u16 p 6) = true → u32 p 8 = keyGen u (u8 p 4) →
        allZero (slice p 1 3) = true → u8 p 5 = 0 → allZero (slice p 109 3) = true →
        parentCheck u (u8 p 0) (u8 p 4) polWrap = none → Completes (.keyUpdate dt c) s fun t =>
          if Config.validKey 1 (slice p 12 97) = false then t.key = u.key ∧ Failed rowKeyUpdate c u t stOutOfRange
          else match unwrapped u p with
            | none => t.key = u.key ∧ Failed rowKeyUpdate c u t stSignature
            | some secret =>
              keySlot t (u8 p 0) = { parent := u8 p 4, state := 1, policy := u16 p 6, secret := secret } ∧
              keyGen t (u8 p 0) = keyGen u (u8 p 0) + 1 ∧
              Answered rowKeyUpdate c call u t stOk (le32 (keyGen t (u8 p 0)))) ∧
      (lifecycle u = 3 → treeFits u (u8 p 0) (u8 p 4) (u16 p 6) = true → u32 p 8 = keyGen u (u8 p 4) →
        allZero (slice p 1 3) = true → u8 p 5 = 0 → allZero (slice p 109 3) = true →
        parentCheck u (u8 p 0) (u8 p 4) polWrap = some st → Completes (.keyUpdate dt c) s fun t =>
          t.key = u.key ∧ Failed rowKeyUpdate c u t
            (if Config.validKey 1 (slice p 12 97) = false then stOutOfRange else st)) ∧
      (lifecycle u = 3 → (treeFits u (u8 p 0) (u8 p 4) (u16 p 6) = false ∨ u32 p 8 ≠ keyGen u (u8 p 4) ∨
          allZero (slice p 1 3) = false ∨ u8 p 5 ≠ 0 ∨ allZero (slice p 109 3) = false) →
        Completes (.keyUpdate dt c) s fun t => t.key = u.key ∧ Failed rowKeyUpdate c u t stOutOfRange) ∧
      (lifecycle u ≠ 3 → Completes (.keyUpdate dt c) s fun t =>
        t.key = u.key ∧ Failed rowKeyUpdate c u t stLifecycle))

/-- KEY_DESTROY leaves a slot of 8 to 255 EMPTY with its generation, or in FAULT with ST_DESTROY_VERIFY when its cells
do not read back zero; an EMPTY one gets ST_NOT_FOUND, a slot below 8 ST_OUT_OF_RANGE. KEY_ROLE_SET writes or clears
an entry and closes the sessions opened under it; a key that is not valid, or a table left without an OWNER, gets
ST_OUT_OF_RANGE. LC_ADVANCE blows a fuse into the state asked for and closes every session; SCRAPPED leaves no
secret; a move that R374 does not have gets ST_LIFECYCLE, an authorisation that does not verify ST_SIGNATURE, OWNED
with VBAT below 2.7 V ST_VBAT_LOW (R374 to R377, R390, R391). The vault's own events: a slot's operation in flight
completes and counts, and a pending revocation then overwrites the slot; 10 s after its change the half sends under
the new pair key; the previous pair key goes after its 600 s; each second of the real-time counter has a new mask;
the counter is aligned to LEGAL time every 60 s while that is valid. An event whose time has not come changes
nothing (R336, R379, R389, R393). -/
def Obligations.KeysAreDestroyedAndVaultEventsAct : Prop :=
  (∀ (s u : State) (dt : Nat) (c : Cmd) (call : Call) (p k : Bytes) (stuck : Bool), u = s.elapse dt → p = call.payload →
    (Accepted rowKeyDestroy c u call → p.length = 4 →
      (8 ≤ u8 p 0 → allZero (slice p 1 3) = true → (keySlot u (u8 p 0)).state ≠ 0 →
        Completes (.keyDestroy dt c false) s fun t =>
          keySlot t (u8 p 0) = {} ∧ keyGen t (u8 p 0) = keyGen u (u8 p 0)
            ∧ Answered rowKeyDestroy c call u t stOk []) ∧
      (8 ≤ u8 p 0 → allZero (slice p 1 3) = true → (keySlot u (u8 p 0)).state ≠ 0 →
        Completes (.keyDestroy dt c true) s fun t =>
          (keySlot t (u8 p 0)).state = 4 ∧ (keySlot t (u8 p 0)).secret = [] ∧ t.key.flags.getLsbD 2 = true
            ∧ Failed rowKeyDestroy c u t stDestroyVerify) ∧
      (8 ≤ u8 p 0 → allZero (slice p 1 3) = true → (keySlot u (u8 p 0)).state = 0 →
        Completes (.keyDestroy dt c stuck) s fun t => t.key = u.key ∧ Failed rowKeyDestroy c u t stNotFound) ∧
      ((u8 p 0 < 8 ∨ allZero (slice p 1 3) = false) →
        Completes (.keyDestroy dt c stuck) s fun t => t.key = u.key ∧ Failed rowKeyDestroy c u t stOutOfRange)) ∧
    (Accepted rowKeyRoleSet c u call → p.length = 8 + u16 p 4 →
      (u8 p 0 ≤ 63 → (u8 p 1 ≤ 3 ∨ u8 p 1 = 5) → u8 p 2 ≤ 2 → u16 p 4 = keyBytes (u8 p 2) → u8 p 3 = 0 → u16 p 6 = 0 →
        ((withRole (u8 p 0) (u8 p 1) (u8 p 2) (p.drop 8) u).any (fun e => decide (e.2.role = 3))) = true →
        Completes (.keyRoleSet dt c) s fun t =>
          if u8 p 2 ≠ 0 ∧ Config.validKey (u8 p 2) (p.drop 8) = false then
            t.key = u.key ∧ Failed rowKeyRoleSet c u t stOutOfRange
          else
            t.key.roles = withRole (u8 p 0) (u8 p 1) (u8 p 2) (p.drop 8) u ∧
            (∀ x ∈ t.vcp.sessions, x.credential.toNat ≠ u8 p 0) ∧ Answered rowKeyRoleSet c call u t stOk []) ∧
      ((63 < u8 p 0 ∨ ¬(u8 p 1 ≤ 3 ∨ u8 p 1 = 5) ∨ 2 < u8 p 2 ∨ u16 p 4 ≠ keyBytes (u8 p 2) ∨ u8 p 3 ≠ 0 ∨ u16 p 6 ≠ 0 ∨
          ((withRole (u8 p 0) (u8 p 1) (u8 p 2) (p.drop 8) u).any (fun e => decide (e.2.role = 3))) = false) →
        Completes (.keyRoleSet dt c) s fun t => t.key = u.key ∧ Failed rowKeyRoleSet c u t stOutOfRange)) ∧
    (Accepted rowLcAdvance c u call → 12 ≤ p.length → p.length = 12 + u16 p 10 + u16 p 6 →
      (lcMove (lifecycle u) (u8 p 0) u.key.fuses = true → allZero (slice p 1 3) = true → u8 p 9 = 0 →
        signerOk u (lifecycle u) (u8 p 4) (u8 p 5) = true → (u8 p 5 = 1 ∨ u8 p 5 = 2) → u16 p 6 = sigSize (u8 p 5) →
        u8 p 8 ≤ 2 → u16 p 10 = keyBytes (u8 p 8) → (u8 p 8 ≠ 0 ↔ u8 p 0 = 2) →
        signerKey u (u8 p 4) (u8 p 5) = some k →
        Completes (.lcAdvance dt c) s fun t =>
          if u8 p 8 ≠ 0 ∧ Config.validKey (u8 p 8) (slice p 12 (u16 p 10)) = false then
            t.key = u.key ∧ Failed rowLcAdvance c u t stOutOfRange
          else if Config.verifies (u8 p 5) k (lcDigest u p) (p.drop (12 + u16 p 10)) = false then
            t.key = u.key ∧ Failed rowLcAdvance c u t stSignature
          else if u8 p 0 = 3 ∧ u.pmu.vbatMv.toNat < 2700 then
            t.key = u.key ∧ Failed rowLcAdvance c u t stVbatLow
          else
            lifecycle t = u8 p 0 ∧ u.key.fuses < t.key.fuses ∧ t.vcp.sessions = [] ∧ t.key.flags.getLsbD 3 = true ∧
            (u8 p 0 = 5 → t.key.slots = [] ∧ t.key.root = none) ∧ Answered rowLcAdvance c call u t stOk []) ∧
      (lcMove (lifecycle u) (u8 p 0) u.key.fuses = false → Completes (.lcAdvance dt c) s fun t =>
        t.key = u.key ∧ Failed rowLcAdvance c u t stLifecycle))) ∧
  (∀ (s u : State) (dt n : Nat) (x : Nat) (k : Bytes), u = s.elapse dt →
    (u.key.inFlight.contains n = true → (keySlot u n).state ≠ 2 → Completes (.keyOperationDone dt n) s fun t =>
      t.key.inFlight = u.key.inFlight.erase n ∧ (keyRecord t n).uses = (keyRecord u n).uses + 1
        ∧ t.key.slots = u.key.slots) ∧
    (u.key.inFlight.contains n = true → (keySlot u n).state = 2 → Completes (.keyOperationDone dt n) s fun t =>
      n ∉ t.key.inFlight ∧ (keyRecord t n).uses = (keyRecord u n).uses + 1 ∧ (keySlot t n).state = 3
        ∧ (keySlot t n).secret = [] ∧ t.key.flags.getLsbD 1 = true) ∧
    (u.key.inFlight.contains n = false → Completes (.keyOperationDone dt n) s fun t => t = u) ∧
    (u.key.switchAt = some x → x ≤ now u → Completes (.pairKeySwitch dt) s fun t =>
      t = { u with key := { u.key with switchAt := none } }) ∧
    ((u.key.switchAt = none ∨ u.key.switchAt = some x ∧ now u < x) →
      Completes (.pairKeySwitch dt) s fun t => t = u) ∧
    (u.key.previous = some (k, x) → x ≤ rtcSeconds u → Completes (.previousPairKeyExpiry dt) s fun t =>
      t = { u with key := { u.key with previous := none } }) ∧
    ((u.key.previous = none ∨ u.key.previous = some (k, x) ∧ rtcSeconds u < x) →
      Completes (.previousPairKeyExpiry dt) s fun t => t = u) ∧
    (u.board.vbat = true → u.key.refreshed < rtcSeconds u → Completes (.vaultRefresh dt) s fun t =>
      t.key.refreshed = rtcSeconds u ∧ t.key.slots = u.key.slots ∧ t.key.root = u.key.root) ∧
    ((u.board.vbat = false ∨ rtcSeconds u ≤ u.key.refreshed) → Completes (.vaultRefresh dt) s fun t => t = u) ∧
    (u.board.vbat = true → u.tim.legal.valid = true → (u.rtc.aligned = true → passed u u.rtc.last (60 * tickS) = true) →
      Completes (.rtcRealign dt) s fun t =>
        t = { u with rtc := { ticks := legalNs u / 4, aligned := true, last := now u } }) ∧
    ((u.board.vbat = false ∨ u.tim.legal.valid = false ∨
        u.rtc.aligned = true ∧ passed u u.rtc.last (60 * tickS) = false) →
      Completes (.rtcRealign dt) s fun t => t = u))

/-- UPD_BEGIN checks both image slots and the selector, the lock, VBAT, its fields and the security version, in that
order; it begins a download from IDLE, resumes the same bundle for its holder or after a lapse, answers ST_BUSY to
another credential, and ST_STAGED to a different bundle that does not supersede; an OWNER supersedes with a higher
version. UPD_DATA programs the bytes beyond those held; outside DOWNLOAD it gets ST_NOT_FOUND, a chunk past the
bytes held or the bundle ST_OUT_OF_RANGE (R402 to R404, R415). -/
def Obligations.BundlesAreDownloaded : Prop :=
  ∀ (s u : State) (dt : Nat) (c : Cmd) (call : Call) (p : Bytes), u = s.elapse dt → p = call.payload →
    (Accepted rowUpdBegin c u call → p.length = 56 → 4 ≤ call.cap →
      ((u.board.slotA.fitted = false ∨ u.board.slotB.fitted = false ∨ (selector u).trial = true) →
        Completes (.updBegin dt c) s fun t => t.upd = u.upd ∧ Failed rowUpdBegin c u t stNoSlot) ∧
      (u.board.slotA.fitted = true → u.board.slotB.fitted = true → (selector u).trial = false →
        (u.upd.lock = true → Completes (.updBegin dt c) s fun t =>
          t.upd = u.upd ∧ Failed rowUpdBegin c u t stOwnerLock) ∧
        (u.upd.lock = false → vbatLow u = true → Completes (.updBegin dt c) s fun t =>
          t.upd = u.upd ∧ Failed rowUpdBegin c u t stVbatLow) ∧
        (u.upd.lock = false → vbatLow u = false → beginFieldsOk (u32 p 0) (u16 p 4) (u8 p 6) (u8 p 7) = false →
          Completes (.updBegin dt c) s fun t => t.upd = u.upd ∧ Failed rowUpdBegin c u t stOutOfRange) ∧
        (u.upd.lock = false → vbatLow u = false → beginFieldsOk (u32 p 0) (u16 p 4) (u8 p 6) (u8 p 7) = true →
          (u16 p 4 < u.upd.floor → Completes (.updBegin dt c) s fun t =>
            t.upd = u.upd ∧ Failed rowUpdBegin c u t stSecurityVersion) ∧
          (u.upd.floor ≤ u16 p 4 → (u.upd.stage = 0 ∨ ¬(u.upd.bytes = u32 p 0 ∧ u.upd.version = u16 p 4 ∧
              u.upd.hash = slice p 8 48) ∧ u8 p 6 = 1 ∧ call.role = 3 ∧ u.upd.version < u16 p 4) →
            Completes (.updBegin dt c) s fun t =>
              t.upd.stage = 1 ∧ t.upd.bytes = u32 p 0 ∧ t.upd.version = u16 p 4 ∧ t.upd.hash = slice p 8 48
                ∧ t.upd.held = 0 ∧ t.upd.durable = 0 ∧ t.upd.holder = some call.credential
                ∧ t.upd.floor = u.upd.floor ∧ Answered rowUpdBegin c call u t stOk (le32 0)) ∧
          (u.upd.floor ≤ u16 p 4 → u.upd.stage ≠ 0 → u.upd.bytes = u32 p 0 → u.upd.version = u16 p 4 →
            u.upd.hash = slice p 8 48 →
            (updElsewhere u call.credential = false → Completes (.updBegin dt c) s fun t =>
              t.upd.image = u.upd.image ∧ t.upd.held = u.upd.held ∧ t.upd.stage = u.upd.stage
                ∧ t.upd.holder = some call.credential ∧ Answered rowUpdBegin c call u t stOk
                  (le32 (if u.upd.stage = 1 then u.upd.durable else u.upd.bytes))) ∧
            (updElsewhere u call.credential = true → Completes (.updBegin dt c) s fun t =>
              t.upd = u.upd ∧ replyTo rowUpdBegin c stBusy (updHolderBytes u) ∈ sentSince u t)) ∧
          (u.upd.floor ≤ u16 p 4 → u.upd.stage ≠ 0 → ¬(u.upd.bytes = u32 p 0 ∧ u.upd.version = u16 p 4 ∧
              u.upd.hash = slice p 8 48) →
            (u8 p 6 = 1 → call.role = 3 → u16 p 4 ≤ u.upd.version → Completes (.updBegin dt c) s fun t =>
              t.upd = u.upd ∧ Failed rowUpdBegin c u t stSecurityVersion) ∧
            (¬(u8 p 6 = 1 ∧ call.role = 3) → Completes (.updBegin dt c) s fun t => t.upd = u.upd ∧
              if updElsewhere u call.credential then replyTo rowUpdBegin c stBusy (updHolderBytes u) ∈ sentSince u t
              else Failed rowUpdBegin c u t stStaged))))) ∧
    (Accepted rowUpdData c u call → 68 ≤ p.length → p.length ≤ 4194308 → p.length % 64 = 4 → 4 ≤ call.cap →
      (u.upd.lock = true → Completes (.updData dt c) s fun t =>
        t.upd = u.upd ∧ Failed rowUpdData c u t stOwnerLock) ∧
      (u.upd.lock = false → updElsewhere u call.credential = false →
        (u.upd.stage = 1 → u32 p 0 ≤ u.upd.held → u.upd.held < u32 p 0 + (p.length - 4) →
          u32 p 0 + (p.length - 4) ≤ u.upd.bytes → Completes (.updData dt c) s fun t =>
            t.upd.held = u32 p 0 + (p.length - 4)
              ∧ t.upd.image = memStore u.upd.image u.upd.held (p.drop (4 + (u.upd.held - u32 p 0)))
              ∧ t.upd.durable = durableAt u.upd.bytes t.upd.held
              ∧ slotImage t (inactiveSlot u) = { fitted := true }
              ∧ slotImage t (!inactiveSlot u) = slotImage u (!inactiveSlot u)
              ∧ Answered rowUpdData c call u t stOk (le32 t.upd.held)) ∧
        (u.upd.stage = 1 → u32 p 0 + (p.length - 4) ≤ u.upd.held → u32 p 0 + (p.length - 4) ≤ u.upd.bytes →
          Completes (.updData dt c) s fun t =>
            t.upd.held = u.upd.held ∧ t.upd.image = u.upd.image ∧ t.board = u.board
              ∧ Answered rowUpdData c call u t stOk (le32 u.upd.held)) ∧
        (u.upd.stage = 1 → (u.upd.held < u32 p 0 ∨ u.upd.bytes < u32 p 0 + (p.length - 4)) →
          Completes (.updData dt c) s fun t => t.upd = u.upd ∧ Failed rowUpdData c u t stOutOfRange) ∧
        (u.upd.stage ≠ 1 → Completes (.updData dt c) s fun t =>
          t.upd = u.upd ∧ Failed rowUpdData c u t stNotFound)) ∧
      (u.upd.lock = false → updElsewhere u call.credential = true → Completes (.updData dt c) s fun t =>
        t.upd = u.upd ∧ replyTo rowUpdData c stBusy (updHolderBytes u) ∈ sentSince u t))

/-- UPD_VERIFY judges the whole bundle by the checks of R405, has nothing to do for one that is verified, and gets
ST_INCOMPLETE for less than a whole one. UPD_ARM arms an activation time in its range outside every transient hold,
and disarms; it gets ST_NOT_FOUND in IDLE and TRIAL, ST_INCOMPLETE in DOWNLOAD, ST_MODE in MANUAL. UPD_STATUS
reports stage, trials, durable offset and holder; UPD_LOCK sets or clears the lock. Verifying and arming get
ST_OWNER_LOCK under it (R401, R405, R406, R415). UPD_CONFIRM in TRIAL makes the trial slot permanent, fuses its
floor and goes to IDLE; elsewhere it changes no stage. UPD_ABORT goes to IDLE and releases the session, for the
holder or an OWNER, who alone may; in TRIAL it rolls back with a device reset of cause 0x08 after its response; in
IDLE it does nothing. The holder lapses after an hour, keeping stage and bundle (R402, R412 to R414). -/
def Obligations.BundlesAreVerifiedArmedAndSettled : Prop :=
  (∀ (s u : State) (dt : Nat) (c : Cmd) (call : Call) (p : Bytes), u = s.elapse dt → p = call.payload →
    (Accepted rowUpdVerify c u call → p = [] →
      (u.upd.lock = true → Completes (.updVerify dt c) s fun t =>
        t.upd = u.upd ∧ Failed rowUpdVerify c u t stOwnerLock) ∧
      (u.upd.lock = false → updElsewhere u call.credential = false →
        (u.upd.stage = 1 → u.upd.held = u.upd.bytes → Completes (.updVerify dt c) s fun t =>
          if verifyStatus u = stOk then
            t.upd.stage = 3 ∧ t.upd.flags.getLsbD 0 = true ∧ slotImage t (inactiveSlot u) = imageOf u.upd.image
              ∧ Answered rowUpdVerify c call u t stOk []
          else
            t.upd.stage = 1 ∧ t.upd.held = 0 ∧ t.upd.durable = 0 ∧ t.upd.outcome = 3
              ∧ t.upd.outcomeStatus = verifyStatus u ∧ Failed rowUpdVerify c u t (verifyStatus u)) ∧
        ((u.upd.stage = 3 ∨ u.upd.stage = 4) → Completes (.updVerify dt c) s fun t =>
          t.upd.stage = u.upd.stage ∧ Answered rowUpdVerify c call u t stOk []) ∧
        (u.upd.stage ≠ 3 → u.upd.stage ≠ 4 → (u.upd.stage ≠ 1 ∨ u.upd.held ≠ u.upd.bytes) →
          Completes (.updVerify dt c) s fun t => t.upd = u.upd ∧ Failed rowUpdVerify c u t stIncomplete)) ∧
      (u.upd.lock = false → updElsewhere u call.credential = true → Completes (.updVerify dt c) s fun t =>
        t.upd = u.upd ∧ replyTo rowUpdVerify c stBusy (updHolderBytes u) ∈ sentSince u t)) ∧
    (Accepted rowUpdArm c u call → p.length = 16 →
      ((u.upd.stage = 0 ∨ u.upd.stage = 6) → Completes (.updArm dt c) s fun t =>
        t.upd = u.upd ∧ Failed rowUpdArm c u t stNotFound) ∧
      (u.upd.stage ≠ 0 → u.upd.stage ≠ 6 → u.upd.stage ≠ 3 → u.upd.stage ≠ 4 → Completes (.updArm dt c) s fun t =>
        t.upd = u.upd ∧ Failed rowUpdArm c u t stIncomplete) ∧
      ((u.upd.stage = 3 ∨ u.upd.stage = 4) →
        (u.upd.lock = true → Completes (.updArm dt c) s fun t =>
          t.upd = u.upd ∧ Failed rowUpdArm c u t stOwnerLock) ∧
        (u.upd.lock = false → vbatLow u = true → Completes (.updArm dt c) s fun t =>
          t.upd = u.upd ∧ Failed rowUpdArm c u t stVbatLow) ∧
        (u.upd.lock = false → vbatLow u = false → u.sys.mode = .manual → Completes (.updArm dt c) s fun t =>
          t.upd = u.upd ∧ Failed rowUpdArm c u t stMode) ∧
        (u.upd.lock = false → vbatLow u = false → u.sys.mode ≠ .manual →
          (u8 p 15 = 0 → Completes (.updArm dt c) s fun t =>
            t.upd.stage = 3 ∧ t.upd.arm = none ∧ Answered rowUpdArm c call u t stOk []) ∧
          (u8 p 15 = 1 → armRange u (tsField p 0) = true → armInHold u (tsField p 0) = false →
            Completes (.updArm dt c) s fun t =>
              t.upd.stage = 4 ∧ t.upd.arm = some (tsField p 0) ∧ Answered rowUpdArm c call u t stOk []) ∧
          (u8 p 15 = 1 → armRange u (tsField p 0) = true → armInHold u (tsField p 0) = true →
            Completes (.updArm dt c) s fun t => t.upd = u.upd ∧ Failed rowUpdArm c u t stTransientHold) ∧
          ((1 < u8 p 15 ∨ u8 p 15 = 1 ∧ armRange u (tsField p 0) = false) →
            Completes (.updArm dt c) s fun t => t.upd = u.upd ∧ Failed rowUpdArm c u t stOutOfRange)))) ∧
    (Accepted rowUpdStatus c u call → p = [] → 20 ≤ call.cap → Completes (.updStatus dt c) s fun t =>
      t.upd.stage = u.upd.stage ∧ Answered rowUpdStatus c call u t stOk
        (le 1 u.upd.stage ++ le 1 (selector u).trials ++ le16 0 ++ le32 u.upd.durable ++ updHolderBytes u)) ∧
    (Accepted rowUpdLock c u call → p.length = 4 →
      (u8 p 0 ≤ 1 → allZero (slice p 1 3) = true → Completes (.updLock dt c) s fun t =>
        t.upd.lock = decide (u8 p 0 = 1) ∧ t.upd.stage = u.upd.stage ∧ Answered rowUpdLock c call u t stOk []) ∧
      ((1 < u8 p 0 ∨ allZero (slice p 1 3) = false) → Completes (.updLock dt c) s fun t =>
        t.upd = u.upd ∧ Failed rowUpdLock c u t stOutOfRange))) ∧
  (∀ (s u : State) (dt : Nat) (c : Cmd) (call : Call), u = s.elapse dt →
    (Accepted rowUpdConfirm c u call → call.payload = [] → u.upd.stage = 6 → Completes (.updConfirm dt c) s fun t =>
      t.upd.stage = 0 ∧ t.upd.outcome = 4 ∧ (selector t).slotB = (selector u).slotB ∧ (selector t).trial = false
        ∧ t.upd.floor = max u.upd.floor (min (slotImage u (selector u).slotB).floor 128)
        ∧ t.upd.flags.getLsbD 3 = true ∧ Answered rowUpdConfirm c call u t stOk []) ∧
    (Accepted rowUpdConfirm c u call → call.payload = [] → u.upd.stage ≠ 6 → Completes (.updConfirm dt c) s fun t =>
      t.upd.stage = u.upd.stage ∧ t.upd.selectors = u.upd.selectors ∧ Answered rowUpdConfirm c call u t stOk []) ∧
    (Accepted rowUpdAbort c u call → call.payload = [] →
      (u.upd.stage = 0 → Completes (.updAbort dt c) s fun t =>
        t.upd = u.upd ∧ Answered rowUpdAbort c call u t stOk []) ∧
      ((u.upd.holder = some call.credential ∨ call.role = 3) → u.upd.stage ≠ 0 → u.upd.stage ≠ 6 →
        Completes (.updAbort dt c) s fun t =>
          t.upd.stage = 0 ∧ t.upd.holder = none ∧ t.upd.arm = none ∧ t.upd.held = 0
            ∧ Answered rowUpdAbort c call u t stOk []) ∧
      ((u.upd.holder = some call.credential ∨ call.role = 3) → u.upd.stage = 6 → alwaysOn u = true →
        Completes (.updAbort dt c) s fun t =>
          t.pmu.resetCause = 0x08 ∧ t.sys.started = true ∧ Answered rowUpdAbort c call u t stOk []) ∧
      (u.upd.holder ≠ some call.credential → call.role ≠ 3 → u.upd.stage ≠ 0 → Completes (.updAbort dt c) s fun t =>
        t.upd = u.upd ∧ replyTo rowUpdAbort c stBusy (updHolderBytes u) ∈ sentSince u t)) ∧
    (u.upd.holder ≠ none → u.upd.lapsed = false → passed u u.upd.last (3600 * tickS) = true →
      Completes (.updateHolderLapse dt) s fun t =>
        liveHolder t = none ∧ t.upd.stage = u.upd.stage ∧ t.upd.image = u.upd.image ∧ t.upd.flags.getLsbD 5 = true) ∧
    ((u.upd.holder = none ∨ u.upd.lapsed = true ∨ passed u u.upd.last (3600 * tickS) = false) →
      Completes (.updateHolderLapse dt) s fun t => t = u))

/-- At the activation time a half that does not hold its pair's token, or stands alone, and whose conditions hold starts
the new slot on trial with reset cause 0x07; one whose conditions fail refuses; a paired holder waits for its
partner. A partner that is ready lets a waiting holder activate, after a handover where its loops drive the plant;
ACT_WAIT without it refuses. The confirm window tries the trial again and rolls back at the third. Out of their
stage or time none of them does anything (R366, R407 to R412). -/
def Obligations.ActivationRuns : Prop :=
  ∀ (s u : State) (dt x : Nat), u = s.elapse dt →
    (u.upd.stage = 4 → armPassed u = true → u.tim.legal.valid = true → u.upd.waiting = none → u.sys.mode.live = true →
      (activationStatus u = stOk → (u.brd.record.paired && u.sys.token) = false → alwaysOn u = true →
        Completes (.activationTime dt) s fun t => t.pmu.resetCause = 0x07 ∧ t.sys.started = true) ∧
      (activationStatus u ≠ stOk → Completes (.activationTime dt) s fun t =>
        t.upd.stage = 3 ∧ t.upd.arm = none ∧ t.upd.outcome = 1 ∧ t.upd.outcomeStatus = activationStatus u
          ∧ t.upd.flags.getLsbD 2 = true ∧ t.pmu = u.pmu) ∧
      (activationStatus u = stOk → u.brd.record.paired = true → u.sys.token = true →
        Completes (.activationTime dt) s fun t => t = { u with upd := { u.upd with waiting := some (now u) } })) ∧
    ((u.upd.stage ≠ 4 ∨ armPassed u = false ∨ u.tim.legal.valid = false ∨ u.upd.waiting ≠ none ∨
        u.sys.mode.live = false) → Completes (.activationTime dt) s fun t => t = u) ∧
    (u.upd.stage = 4 → u.upd.waiting ≠ none → u.sys.token = true → partnerIsReady u = true →
      (activationStatus u = stOk → loopsDrive u.sys.mode = false → alwaysOn u = true →
        Completes (.partnerReady dt) s fun t => t.pmu.resetCause = 0x07 ∧ t.sys.started = true) ∧
      (activationStatus u = stOk → loopsDrive u.sys.mode = true → Completes (.partnerReady dt) s fun t =>
        t.brd.givingUp = true ∧ t.upd = u.upd ∧ t.sys = u.sys) ∧
      (activationStatus u ≠ stOk → Completes (.partnerReady dt) s fun t =>
        t.upd.stage = 3 ∧ t.upd.arm = none ∧ t.upd.outcomeStatus = activationStatus u ∧ t.pmu = u.pmu)) ∧
    ((u.upd.stage ≠ 4 ∨ u.upd.waiting = none ∨ u.sys.token = false ∨ partnerIsReady u = false) →
      Completes (.partnerReady dt) s fun t => t = u) ∧
    (u.upd.stage = 4 → u.upd.waiting = some x → passed u x (u.brd.record.actWaitS * tickS) = true →
      Completes (.actWaitExpiry dt) s fun t =>
        t.upd.stage = 3 ∧ t.upd.waiting = none ∧ t.upd.outcomeStatus = stPartner ∧ t.upd.flags.getLsbD 2 = true) ∧
    ((u.upd.stage ≠ 4 ∨ u.upd.waiting = none ∨
        u.upd.waiting = some x ∧ passed u x (u.brd.record.actWaitS * tickS) = false) →
      Completes (.actWaitExpiry dt) s fun t => t = u) ∧
    (u.upd.stage = 6 → passed u u.pln.bootEnd (u.cfg.confirmS * tickS) = true → u.sys.mode.live = true →
      alwaysOn u = true → Completes (.confirmWindowExpiry dt) s fun t =>
        t.pmu.resetCause = (if (selector u).trials < 3 then 0x07 else 0x08) ∧ t.sys.started = true) ∧
    ((u.upd.stage ≠ 6 ∨ passed u u.pln.bootEnd (u.cfg.confirmS * tickS) = false ∨ u.sys.mode.live = false) →
      Completes (.confirmWindowExpiry dt) s fun t => t = u)

/-- CFG_READ returns a copy's sequence and bytes, or ST_NOT_FOUND where none is held, ST_OUT_OF_RANGE past its end.
CFG_STAGE writes the staging area and nothing else, or gets ST_OUT_OF_RANGE past its end. CFG_COMMIT whose records
apply writes the copy that is not in force with the next sequence and puts it in force; a read-back that differs
gets ST_INTERNAL, and a record that is refused ST_CFG_INVALID with its status and offset kept: both leave the copy
in force (R397, R421, R422). -/
def Obligations.ConfigurationIsStagedAndCommitted : Prop :=
  ∀ (s u : State) (dt : Nat) (c : Cmd) (call : Call) (p : Bytes) (m : Memory), u = s.elapse dt → p = call.payload →
    (Accepted rowCfgRead c u call → p.length = 8 → 1 ≤ u16 p 2 → u16 p 2 ≤ 16380 → 4 + u16 p 2 ≤ call.cap →
      u8 p 0 ≤ 2 → u8 p 1 = 0 →
      ((if u8 p 0 = 2 then copyInForce u else some (copyOf u (u8 p 0 + 1))) = some m → img32 m 0 = 0x47465A56 →
        u32 p 4 + u16 p 2 ≤ 128 + img32 m 12 → Completes (.cfgRead dt c) s fun t => t.cfg = u.cfg ∧
          Answered rowCfgRead c call u t stOk (le32 (img32 m 8) ++ memLoad m (u32 p 4) (u16 p 2))) ∧
      ((if u8 p 0 = 2 then copyInForce u else some (copyOf u (u8 p 0 + 1))) = some m → img32 m 0 = 0x47465A56 →
        128 + img32 m 12 < u32 p 4 + u16 p 2 → Completes (.cfgRead dt c) s fun t => t.cfg = u.cfg ∧
          Failed rowCfgRead c u t stOutOfRange) ∧
      (((if u8 p 0 = 2 then copyInForce u else some (copyOf u (u8 p 0 + 1))) = none ∨
          (if u8 p 0 = 2 then copyInForce u else some (copyOf u (u8 p 0 + 1))) = some m ∧ img32 m 0 ≠ 0x47465A56) →
        Completes (.cfgRead dt c) s fun t => t.cfg = u.cfg ∧ Failed rowCfgRead c u t stNotFound)) ∧
    (Accepted rowCfgStage c u call → 5 ≤ p.length → p.length ≤ 16384 →
      (Memory.wf u.cfg.staging = true → u32 p 0 + (p.length - 4) ≤ 524288 →
        Completes (.cfgStage dt c) s fun t =>
          (∀ i, i < p.length - 4 → memRead t.cfg.staging (u32 p 0 + i) = p.getD (4 + i) 0) ∧
          (∀ a, a < u32 p 0 ∨ u32 p 0 + (p.length - 4) ≤ a → memRead t.cfg.staging a = memRead u.cfg.staging a) ∧
          t.cfg = { u.cfg with staging := t.cfg.staging } ∧ Answered rowCfgStage c call u t stOk []) ∧
      (524288 < u32 p 0 + (p.length - 4) → Completes (.cfgStage dt c) s fun t =>
        t.cfg = u.cfg ∧ Failed rowCfgStage c u t stOutOfRange)) ∧
    (∀ w x, Accepted rowCfgCommit c u call → p = [] → 4 ≤ call.cap → copyHeaderOk u.cfg.staging = true →
      w = enter call (touch c u) → applyCopy policyStale u.cfg.staging w = .ok x →
      (x.sys.resetWanted = none → Completes (.cfgCommit dt c true) s fun t =>
        t.cfg.inForce = writeTarget u ∧ copyOf t (writeTarget u) = committedCopy u
          ∧ t.cfg.staging = committedCopy u ∧ t.upd.flags.getLsbD 6 = true
          ∧ Answered rowCfgCommit c call u t stOk (le32 (nextSequence u))) ∧
      (Completes (.cfgCommit dt c false) s fun t =>
        t.cfg.inForce = u.cfg.inForce ∧ copyOf t (3 - writeTarget u) = copyOf u (3 - writeTarget u)
          ∧ t.out = u.out ∧ t.lpe = u.lpe ∧ Failed rowCfgCommit c u t stInternal)) ∧
    (∀ w e o b, Accepted rowCfgCommit c u call → p = [] → 4 ≤ call.cap → copyHeaderOk u.cfg.staging = true →
      w = enter call (touch c u) → applyCopy policyStale u.cfg.staging w = .error (e, o) →
      Completes (.cfgCommit dt c b) s fun t =>
        t.cfg = { u.cfg with err := e, errOff := o } ∧ t.out = u.out ∧ t.lpe = u.lpe
          ∧ Failed rowCfgCommit c u t stCfgInvalid)

/-- A report with a code below 192 takes an entry of the intake while one is free; into an empty intake it goes with its
stamp, and its write begins with the next index while the supervisor writes. Any other code is not written. A write
that ends holds the record in the area its index names and frees its entry; nothing ends where no write has begun
(R425 to R431). REC_READ returns records from an index on, as many as are held up to the count asked for, which is 1
to 34,816 and fits a packet, or ST_READ_COUNT; REC_CLEAR empties the circulating area alone, counts and raises event
121; REC_INFO reports (R434 to R436). -/
def Obligations.RecordsAreTakenReadAndCleared : Prop :=
  (∀ (s u : State) (dt : Nat) (code subject aux : Half) (data : Word) (e : Intake) (es : List Intake), u = s.elapse dt →
    (alwaysOn u = true → code.toNat < 192 → u.log.fifo.length < 64 →
      Completes (.recorderReport dt code subject aux data) s fun t =>
        t.log.fifo.length ≤ u.log.fifo.length + 1 ∧ (u.log.fifo = [] → u.log.running = true →
          ∃ r, r = stamp u code.toNat subject.toNat aux.toNat data.toNat ∧ t.log.fifo = [{
            record := { r with index := if u.log.permanent.length < 2048 then u.log.permanent.length else u.log.next }
            partner := false, begun := true }]) ∧
        (u.log.running = false → t.log.fifo = u.log.fifo ++ [{
          record := stamp u code.toNat subject.toNat aux.toNat data.toNat, partner := false, begun := false }]) ∧
        t.log.permanent = u.log.permanent ∧ t.log.circulating = u.log.circulating ∧ t.sent = u.sent) ∧
    (alwaysOn u = true → code.toNat < 192 → 64 ≤ u.log.fifo.length →
      Completes (.recorderReport dt code subject aux data) s fun t =>
        t.log.fifo.length = u.log.fifo.length ∧ t.log.permanent = u.log.permanent
          ∧ t.log.circulating = u.log.circulating) ∧
    ((alwaysOn u = false ∨ 192 ≤ code.toNat) →
      Completes (.recorderReport dt code subject aux data) s fun t => t = u) ∧
    (u.log.fifo = e :: es → e.begun = true → u.log.running = true →
      Completes (.recordWriteDone dt) s fun t =>
        (e.record.index < 2048 →
          t.log.permanent = u.log.permanent ++ [e.record] ∧ t.log.circulating = u.log.circulating) ∧
        (2048 ≤ e.record.index → t.log.permanent = u.log.permanent ∧
          t.log.circulating = (u.log.circulating ++ [e.record]).drop (u.log.circulating.length + 1 - 32768)
            ∧ t.log.next = indexAfter e.record.index) ∧
        t.log.newest = some e.record.index ∧ t.log.fifo.length ≤ u.log.fifo.length) ∧
    ((u.log.fifo = [] ∨ u.log.running = false ∨ u.log.fifo = e :: es ∧ e.begun = false) →
      Completes (.recordWriteDone dt) s fun t => t = u)) ∧
  (∀ (s u : State) (dt : Nat) (c : Cmd) (call : Call) (p : Bytes) (rs : List Record), u = s.elapse dt → p = call.payload →
    (Accepted rowRecRead c u call → p.length = 8 →
      (u16 p 6 = 0 → 1 ≤ u16 p 4 → u16 p 4 ≤ 34816 → 16 + 32 * u16 p 4 ≤ call.limit → 16 + 32 * u16 p 4 ≤ call.cap →
        rs = (recordsAt u.log (u32 p 0)).take (u16 p 4) →
        Completes (.recRead dt c) s fun t => t.log = u.log ∧ ∃ next : Nat,
          Answered rowRecRead c call u t stOk (le32 (((rs.head?).map (·.index)).getD (u32 p 0)) ++ le16 rs.length
            ++ [0, 0] ++ le32 next ++ zeros 4 ++ rs.flatMap recordBytes)) ∧
      ((u16 p 4 = 0 ∨ 34816 < u16 p 4 ∨ call.limit < 16 + 32 * u16 p 4) →
        Completes (.recRead dt c) s fun t => t.log = u.log ∧ Failed rowRecRead c u t stReadCount)) ∧
    (Accepted rowRecClear c u call → p = [] → 4 ≤ call.cap → Completes (.recClear dt c) s fun t =>
      t.log.circulating = [] ∧ t.log.permanent = u.log.permanent ∧ t.log.clears = u.log.clears + 1 ∧ Raised 121 t
        ∧ Answered rowRecClear c call u t stOk (le32 u.log.circulating.length)) ∧
    (Accepted rowRecInfo c u call → p = [] → 16 ≤ call.cap → Completes (.recInfo dt c) s fun t =>
      t.log = u.log ∧ Answered rowRecInfo c call u t stOk (le32 u.log.permanent.length
        ++ le32 u.log.circulating.length ++ le32 (oldestIndex u.log) ++ le32 (u.log.newest.getD 0xFFFFFFFF))))

/-- DMP_INFO reports flags, sizes and cause of a dump, zeros where there is none; DMP_READ hands out bytes of the
summary, in DUMP mode of the full dump; an area that is not valid gets ST_NOT_FOUND, bytes past its end
ST_OUT_OF_RANGE (R443). -/
def Obligations.DumpsAreRead : Prop :=
  ∀ (s u : State) (dt : Nat) (c : Cmd) (call : Call) (p : Bytes) (x : Summary) (f : FullDump), u = s.elapse dt →
    p = call.payload →
    (Accepted rowDmpInfo c u call → p = [] → 16 ≤ call.cap →
      (u.dmp.summary = some x → Completes (.dmpInfo dt c) s fun t =>
        t.dmp = u.dmp ∧ Answered rowDmpInfo c call u t stOk (le32 (dumpFlags u) ++ le32 65536
          ++ le32 (((u.dmp.full).map (·.bytes)).getD 0) ++ le16 x.cause.toNat ++ zeros 2)) ∧
      (u.dmp.summary = none → Completes (.dmpInfo dt c) s fun t =>
        t.dmp = u.dmp ∧ Answered rowDmpInfo c call u t stOk (le32 (dumpFlags u) ++ le32 0
          ++ le32 (((u.dmp.full).map (·.bytes)).getD 0) ++ le16 0 ++ zeros 2))) ∧
    (Accepted rowDmpRead c u call → p.length = 12 → allZero (slice p 1 3) = true → 1 ≤ u32 p 8 →
      u32 p 8 ≤ call.limit → u32 p 8 ≤ call.cap →
      (u8 p 0 = 0 → u.dmp.summary = some x → u32 p 4 + u32 p 8 ≤ 65536 →
        Completes (.dmpRead dt c) s fun t => t.dmp = u.dmp ∧
          Answered rowDmpRead c call u t stOk (slice (summaryBytes (dumpFlags u) x) (u32 p 4) (u32 p 8))) ∧
      (u8 p 0 = 1 → u.sys.mode = .dump → u.dmp.full = some f → u32 p 4 + u32 p 8 ≤ f.bytes →
        Completes (.dmpRead dt c) s fun t => t.dmp = u.dmp ∧
          Answered rowDmpRead c call u t stOk (slice (dumpBytes f) (u32 p 4) (u32 p 8))) ∧
      ((u8 p 0 = 0 ∧ u.dmp.summary = some x ∧ 65536 < u32 p 4 + u32 p 8 ∨
          u8 p 0 = 1 ∧ u.sys.mode = .dump ∧ u.dmp.full = some f ∧ f.bytes < u32 p 4 + u32 p 8) →
        Completes (.dmpRead dt c) s fun t => t.dmp = u.dmp ∧ Failed rowDmpRead c u t stOutOfRange) ∧
      ((u8 p 0 = 0 ∧ u.dmp.summary = none ∨ u8 p 0 = 1 ∧ (u.sys.mode ≠ .dump ∨ u.dmp.full = none)) →
        Completes (.dmpRead dt c) s fun t => t.dmp = u.dmp ∧ Failed rowDmpRead c u t stNotFound))

/-- TIM_READ returns both views and the counter. TIM_LEGAL_SET steps LEGAL to its time once; later it gets
ST_LEGAL_LOCKED, and for another view, no validity or too many ns ST_OUT_OF_RANGE. TIM_SERVO_SET and TIM_PTP_SET
take their records when every field is in range, else ST_OUT_OF_RANGE; a port that is set starts again, and a
PASSIVE port of the same PRP pair takes over from a SLAVE port (R334, R337, R339, R342, R347, R348). -/
def Obligations.TimeIsReadAndSet : Prop :=
  ∀ (s u : State) (dt : Nat) (c : Cmd) (call : Call) (p : Bytes), u = s.elapse dt → p = call.payload →
    (Accepted rowTimRead c u call → p = [] → 40 ≤ call.cap → Completes (.timRead dt c) s fun t =>
      t.tim = u.tim ∧ Answered rowTimRead c call u t stOk (tsBytes (legal u) ++ tsBytes (servo u) ++ le64 (now u))) ∧
    (Accepted rowTimLegalSet c u call → p.length = 16 →
      (u8 p 14 = 0 → u8 p 15 = 1 → u32 p 8 ≤ 999999999 → u.tim.legal.valid = false →
        Completes (.timLegalSet dt c) s fun t =>
          t.tim.legal.valid = true ∧ viewAt t.tim.legal (now u) = tsUnits (tsField p 0)
            ∧ t.tim.counter = u.tim.counter ∧ t.tim.flags.getLsbD 3 = true
            ∧ Answered rowTimLegalSet c call u t stOk []) ∧
      (u8 p 14 = 0 → u8 p 15 = 1 → u32 p 8 ≤ 999999999 → u.tim.legal.valid = true →
        Completes (.timLegalSet dt c) s fun t => t.tim = u.tim ∧ Failed rowTimLegalSet c u t stLegalLocked) ∧
      ((u8 p 14 ≠ 0 ∨ u8 p 15 = 0 ∨ 999999999 < u32 p 8) →
        Completes (.timLegalSet dt c) s fun t => t.tim = u.tim ∧ Failed rowTimLegalSet c u t stOutOfRange)) ∧
    (Accepted rowTimServoSet c u call → p.length = 40 →
      (servoFieldsOk p = true → Completes (.timServoSet dt c) s fun t =>
        t.tim.record = servoOf p ∧ Answered rowTimServoSet c call u t stOk []) ∧
      (servoFieldsOk p = false → Completes (.timServoSet dt c) s fun t =>
        t.tim = u.tim ∧ Failed rowTimServoSet c u t stOutOfRange)) ∧
    (Accepted rowTimPtpSet c u call → p.length = 36 →
      (u8 p 0 ≤ 7 → allZero (slice p 1 3) = true → ptpFieldsOk (p.drop 4) = true →
        domainShared u (u8 p 0) (ptpOf (p.drop 4)) = true → prpAgrees u (u8 p 0) (ptpOf (p.drop 4)) = true →
        slowSgmii u (u8 p 0) = false → Completes (.timPtpSet dt c) s fun t =>
          (ptpPort t (u8 p 0)).record = ptpOf (p.drop 4) ∧
          (ptpPort t (u8 p 0)).state = (if u8 p 4 = 1 then portInitializing else portDisabled) ∧
          (∀ q, q < 8 → q ≠ u8 p 0 → ptpPort t q =
            if (ptpPort u (u8 p 0)).state = portSlave ∧ prpPartner u (u8 p 0) = some q ∧
              (ptpPort u q).state = portPassive
            then { ptpPort u q with state := portSlave } else ptpPort u q) ∧
          Answered rowTimPtpSet c call u t stOk []) ∧
      ((7 < u8 p 0 ∨ allZero (slice p 1 3) = false ∨ ptpFieldsOk (p.drop 4) = false ∨
          domainShared u (u8 p 0) (ptpOf (p.drop 4)) = false ∨ prpAgrees u (u8 p 0) (ptpOf (p.drop 4)) = false ∨
          slowSgmii u (u8 p 0) = true) →
        Completes (.timPtpSet dt c) s fun t => t.tim = u.tim ∧ Failed rowTimPtpSet c u t stOutOfRange))

/-- A one-step Sync on the SLAVE port, or the Follow_Up of a two-step one, is a sample of the servo: a small offset
slews by the integral and proportional terms, clamped to 500 ppm, and leaves SERVO continuous; a large one steps it.
On another port, with SOURCE 1 or while the counter is degraded it is no sample; a two-step Sync waits for its
Follow_Up, which without one is nothing; a port that takes no part in PTP counts none. LEGAL's rate is set once a
second of the counter: from SERVO and the difference with SOURCE 0, SERVO's with SOURCE 1 (R338, R340, R345).
ANN_TIMEOUT intervals without an Announce take a port out of SLAVE: a PASSIVE port of its PRP pair becomes SLAVE
instead, and where no SLAVE port is left a servo that samples goes to HOLDOVER at its integral's rate; a port that
never heard a master becomes one where its role allows (the model's reading, log entry 81). HOLD_S is judged. An
Announce has the best-master algorithm decide every port that takes part, and the best master on a SLAVE port is the
parent whose data are taken. A leap second is applied at the end of its day. Where an event's time has not come
nothing happens (R342, R346 to R348; the algorithm's details are the model's reading, log entry 121). -/
def Obligations.ServoFollowsItsMasters : Prop :=
  (∀ (s u : State) (dt p origin : Nat) (correction r0 c0 : Int) (theta : Rat) (x : PtpPort) (i : Instr), u = s.elapse dt →
    x = ptpPort u p →
    (ptpOn u p = true → x.state = portSlave → u.tim.record.source = 0 → u.tim.degraded = false →
      (i = .ptpSync dt p { twoStep := false, origin := origin, correction := correction } ∧
          theta = offsetFromMaster x (stampOf origin correction) (stampNow u) ∨
        i = .ptpDelayMessage dt p (.followUp origin correction) ∧ x.waiting = some (r0, c0) ∧
          theta = offsetFromMaster x (stampOf origin (correction + c0)) r0) →
      (stepsAway u.tim theta = false → Completes i s fun t =>
        t.tim.offset = theta ∧
        t.tim.integ = clampR (-500000) 500000
          (u.tim.integ - num32 u.tim.record.ki * theta / logSeconds x.record.logSync) ∧
        t.tim.rServo = clampR (-500000) 500000
          (t.tim.integ - num32 u.tim.record.kp * theta / logSeconds x.record.logSync) ∧
        t.tim.servo.inc = incOf t.tim.rServo ∧ viewAt t.tim.servo (now u) = viewAt u.tim.servo (now u)) ∧
      (stepsAway u.tim theta = true → Completes i s fun t =>
        t.tim.offset = theta ∧ t.tim.steps = u.tim.steps + 1 ∧ t.tim.rServo = u.tim.rServo ∧
        viewAt t.tim.servo (now u) = viewAt u.tim.servo (now u) + roundNear (-theta * nsUnit) ∧
        t.tim.flags.getLsbD 1 = true)) ∧
    (ptpOn u p = true → (x.state ≠ portSlave ∨ u.tim.record.source ≠ 0 ∨ u.tim.degraded = true) →
      Completes (.ptpSync dt p { twoStep := false, origin := origin, correction := correction }) s fun t =>
        (ptpPort t p).sync = x.sync + 1 ∧ t.tim.servo = u.tim.servo ∧ t.tim.rServo = u.tim.rServo
          ∧ t.tim.offset = u.tim.offset) ∧
    (ptpOn u p = true →
      Completes (.ptpSync dt p { twoStep := true, origin := origin, correction := correction }) s fun t =>
        (ptpPort t p).sync = x.sync + 1 ∧ (ptpPort t p).waiting = some (stampNow u, correction)
          ∧ t.tim.servo = u.tim.servo ∧ t.tim.offset = u.tim.offset) ∧
    (ptpOn u p = false → Completes (.ptpSync dt p { twoStep := false, origin := origin, correction := correction }) s
      fun t => t = u) ∧
    ((ptpOn u p = false ∨ x.waiting = none) → Completes (.ptpDelayMessage dt p (.followUp origin correction)) s
      fun t => t = u) ∧
    (u.tim.rateAt < now u / tickS → u.tim.legal.valid = true → u.tim.servo.valid = true → u.tim.record.source = 0 →
      Completes (.legalRateSet dt) s fun t =>
        t.tim.rLegal = clampR (-200000) 200000 (u.tim.rServo - legalLessServo u / u.tim.record.legalTauS) ∧
        t.tim.legal.inc = incOf t.tim.rLegal ∧ viewAt t.tim.legal (now u) = viewAt u.tim.legal (now u) ∧
        t.tim.servo = u.tim.servo) ∧
    (u.tim.rateAt < now u / tickS → u.tim.legal.valid = true → u.tim.record.source = 1 →
      Completes (.legalRateSet dt) s fun t =>
        t.tim.rLegal = clampR (-200000) 200000 u.tim.rServo ∧ t.tim.legal.inc = incOf t.tim.rLegal ∧
        viewAt t.tim.legal (now u) = viewAt u.tim.legal (now u) ∧ t.tim.servo = u.tim.servo) ∧
    (u.tim.rateAt < now u / tickS →
      (u.tim.legal.valid = false ∨ u.tim.record.source ≠ 1 ∧ u.tim.servo.valid = false) →
      Completes (.legalRateSet dt) s fun t => t.tim.legal = u.tim.legal ∧ t.tim.servo = u.tim.servo) ∧
    (now u / tickS ≤ u.tim.rateAt → Completes (.legalRateSet dt) s fun t => t = u)) ∧
  (∀ (s u : State) (dt p q x : Nat) (a : Announce) (late : Bool), u = s.elapse dt →
    late = passed u (ptpPort u p).heardAt
      ((ptpPort u p).record.annTimeout * logTicks (ptpPort u p).record.logAnnounce) →
    (ptpOn u p = true → late = true →
      ((ptpPort u p).state = portSlave →
        (∀ r, prpPartner u p = some r → (ptpPort u r).state ≠ portPassive) →
        (∀ r, r < 8 → r ≠ p → (ptpPort u r).state ≠ portSlave) → (u.tim.state = .locked ∨ u.tim.state = .acquiring) →
        Completes (.announceReceiptTimeout dt p) s fun t =>
          (ptpPort t p).state = (if (ptpPort u p).record.role = 1 then portListening else portMaster) ∧
          t.tim.state = .holdover ∧ t.tim.holdSince = some (now u) ∧ t.tim.rServo = u.tim.integ ∧
          viewAt t.tim.servo (now u) = viewAt u.tim.servo (now u) ∧ t.tim.flags.getLsbD 2 = true) ∧
      ((ptpPort u p).state = portSlave → prpPartner u p = some q → (ptpPort u q).state = portPassive → q < 8 →
        Completes (.announceReceiptTimeout dt p) s fun t =>
          (ptpPort t p).state = portListening ∧ (ptpPort t q).state = portSlave ∧ t.tim.state = u.tim.state
            ∧ t.tim.servo = u.tim.servo) ∧
      (((ptpPort u p).state = portInitializing ∨ (ptpPort u p).state = portListening) →
        Completes (.announceReceiptTimeout dt p) s fun t =>
          (ptpPort t p).state = (if (ptpPort u p).record.role = 1 then portListening else portMaster)
            ∧ t.tim.state = u.tim.state ∧ t.tim.servo = u.tim.servo)) ∧
    ((ptpOn u p = false ∨ late = false ∨ ((ptpPort u p).state ≠ portSlave ∧ (ptpPort u p).state ≠ portInitializing ∧
        (ptpPort u p).state ≠ portListening)) →
      Completes (.announceReceiptTimeout dt p) s fun t => t = u) ∧
    (u.tim.state = .holdover → u.tim.holdSince = some x → Completes (.holdSExpiry dt) s fun t =>
      t = { u with tim := { u.tim with holdExpired := passed u x (u.tim.record.holdS * tickS) } }) ∧
    ((u.tim.state ≠ .holdover ∨ u.tim.holdSince = none) → Completes (.holdSExpiry dt) s fun t => t = u) ∧
    (ptpOn u p = true → Completes (.ptpAnnounce dt p a) s fun t =>
      (∀ r, r < 8 → ptpOn u r = true → (ptpPort t r).state = recommended (hear p a u) r) ∧
      (∀ r, r < 8 → ptpOn u r = false → (ptpPort t r).state = (ptpPort u r).state) ∧
      (if (ptpPort t p).state = portSlave ∧ (∃ b, bestMaster t = some b ∧ b.port = p ∧ b.sender = a.sender ∧
          b.senderPort = a.senderPort)
        then t.tim.parent = some (a.grandmaster, a.steps) ∧ t.tim.utcOffset = a.utcOffset ∧ t.tim.utcValid = a.utcValid
          ∧ t.tim.li61 = a.li61 ∧ t.tim.li59 = a.li59 ∧ t.tim.leapAt = a.dayEnd
        else t.tim.parent = u.tim.parent ∧ t.tim.utcOffset = u.tim.utcOffset)) ∧
    (ptpOn u p = false → Completes (.ptpAnnounce dt p a) s fun t => t = u) ∧
    (u.tim.li61 = true → u.tim.leapAt ≤ (servo u).s → Completes (.leapApply dt) s fun t =>
      t.tim.utcOffset = u.tim.utcOffset + 1 ∧ t.tim.li61 = false ∧ t.tim.li59 = false ∧ t.tim.servo = u.tim.servo
        ∧ t.tim.legal = u.tim.legal) ∧
    (u.tim.li61 = false → u.tim.li59 = true → u.tim.leapAt ≤ (servo u).s → Completes (.leapApply dt) s fun t =>
      t.tim.utcOffset = u.tim.utcOffset - 1 ∧ t.tim.li59 = false ∧ t.tim.servo = u.tim.servo
        ∧ t.tim.legal = u.tim.legal) ∧
    ((u.tim.li61 = false ∧ u.tim.li59 = false ∨ (servo u).s < u.tim.leapAt) →
      Completes (.leapApply dt) s fun t => t = u))

/-- At its intervals a port sends what its state and profile give it: a MASTER Sync, with its Follow_Up in two-step
form, and Announce; a SLAVE of profile 0 Delay_Req; of profile 1 or 2 every port Pdelay_Req. A MASTER of profile 0
answers Delay_Req, every port of profile 1 or 2 Pdelay_Req. The answers to its own requests complete its measurement
of the path delay. Nothing else is sent or changed (R345, R351). -/
def Obligations.PtpPortsSend : Prop :=
  ∀ (s u : State) (dt p received : Nat) (correction t1 t2 t3 r0 r1 c0 : Int) (x : PtpPort), u = s.elapse dt →
    x = ptpPort u p →
    (ptpOn u p = true →
      (x.state = portMaster → sendDue u p 0 x.record.logSync = true → x.record.oneStep = true →
        Completes (.ptpMessageInterval dt p .sync) s fun t =>
          t.sent = (sendPtp p 0 (stampNow u) [] u).sent ∧ (ptpPort t p).sync = x.sync + 1) ∧
      (x.state = portMaster → sendDue u p 0 x.record.logSync = true → x.record.oneStep = false →
        Completes (.ptpMessageInterval dt p .sync) s fun t =>
          t.sent = (sendPtp p 1 (stampNow u) [] (sendPtp p 0 0 [] u)).sent ∧ (ptpPort t p).sync = x.sync + 1) ∧
      (x.state = portMaster → sendDue u p 2 x.record.logAnnounce = true →
        Completes (.ptpMessageInterval dt p .announce) s fun t =>
          t.sent = (sendPtp p 2 0 (announced u p) u).sent ∧ (ptpPort t p).state = x.state) ∧
      (x.state = portSlave → x.record.profile = 0 → sendDue u p 3 x.record.logDelay = true →
        Completes (.ptpMessageInterval dt p .delayReq) s fun t =>
          t.sent = (sendPtp p 3 0 [] u).sent ∧ (ptpPort t p).requested = some (stampNow u)) ∧
      (1 ≤ x.record.profile → sendDue u p 4 x.record.logDelay = true →
        Completes (.ptpMessageInterval dt p .pdelayReq) s fun t =>
          t.sent = (sendPtp p 4 0 [] u).sent ∧ (ptpPort t p).requested = some (stampNow u)) ∧
      (x.state = portMaster → x.record.profile = 0 → Completes (.ptpDelayMessage dt p .delayReq) s fun t =>
        t = sendPtp p 5 (stampNow u) [] u) ∧
      (1 ≤ x.record.profile → x.record.oneStep = true → Completes (.ptpDelayMessage dt p .pdelayReq) s fun t =>
        t = sendPtp p 6 0 [] u) ∧
      (1 ≤ x.record.profile → x.record.oneStep = false → Completes (.ptpDelayMessage dt p .pdelayReq) s fun t =>
        t = sendPtp p 7 (stampNow u) [] (sendPtp p 6 (stampNow u) [] u)) ∧
      (x.state = portSlave → x.record.profile = 0 → x.lastSync = some (t1, t2) → x.requested = some t3 →
        Completes (.ptpDelayMessage dt p (.delayResp received correction)) s fun t =>
          (ptpPort t p).delay = (t2 - t3 + (stampOf received (-correction) - t1)) / 2
            ∧ (ptpPort t p).requested = none ∧ t.sent = u.sent) ∧
      (1 ≤ x.record.profile → x.requested = some t1 →
        (Completes (.ptpDelayMessage dt p (.pdelayResp false received correction)) s fun t =>
          (ptpPort t p).delay = (stampNow u - t1 - correction) / 2 ∧ (ptpPort t p).requested = none
            ∧ t.sent = u.sent) ∧
        (Completes (.ptpDelayMessage dt p (.pdelayResp true received correction)) s fun t =>
          (ptpPort t p).responded = some (stampOf received (-correction), stampNow u, correction)
            ∧ (ptpPort t p).requested = some t1 ∧ t.sent = u.sent)) ∧
      (x.responded = some (r0, r1, c0) → x.requested = some t1 →
        Completes (.ptpDelayMessage dt p (.pdelayFollowUp received correction)) s fun t =>
          (ptpPort t p).delay = (r1 - t1 - (stampOf received correction - r0)) / 2 ∧ (ptpPort t p).requested = none
            ∧ t.sent = u.sent)) ∧
    ((ptpOn u p = false ∨ x.state ≠ portMaster ∨ sendDue u p 0 x.record.logSync = false) →
      Completes (.ptpMessageInterval dt p .sync) s fun t => t = u) ∧
    ((ptpOn u p = false ∨ x.state ≠ portMaster ∨ sendDue u p 2 x.record.logAnnounce = false) →
      Completes (.ptpMessageInterval dt p .announce) s fun t => t = u) ∧
    ((ptpOn u p = false ∨ x.state ≠ portSlave ∨ x.record.profile ≠ 0 ∨ sendDue u p 3 x.record.logDelay = false) →
      Completes (.ptpMessageInterval dt p .delayReq) s fun t => t = u) ∧
    ((ptpOn u p = false ∨ x.record.profile = 0 ∨ sendDue u p 4 x.record.logDelay = false) →
      Completes (.ptpMessageInterval dt p .pdelayReq) s fun t => t = u) ∧
    ((ptpOn u p = false ∨ x.state ≠ portMaster ∨ x.record.profile ≠ 0) →
      Completes (.ptpDelayMessage dt p .delayReq) s fun t => t = u) ∧
    ((ptpOn u p = false ∨ x.record.profile = 0) →
      Completes (.ptpDelayMessage dt p .pdelayReq) s fun t => t = u) ∧
    ((ptpOn u p = false ∨ x.state ≠ portSlave ∨ x.record.profile ≠ 0 ∨ x.lastSync = none ∨ x.requested = none) →
      Completes (.ptpDelayMessage dt p (.delayResp received correction)) s fun t => t = u) ∧
    ((ptpOn u p = false ∨ x.record.profile = 0 ∨ x.requested = none) →
      (Completes (.ptpDelayMessage dt p (.pdelayResp false received correction)) s fun t => t = u) ∧
      Completes (.ptpDelayMessage dt p (.pdelayResp true received correction)) s fun t => t = u) ∧
    ((ptpOn u p = false ∨ x.responded = none ∨ x.requested = none) →
      Completes (.ptpDelayMessage dt p (.pdelayFollowUp received correction)) s fun t => t = u)

/-- A frame on a port whose link is up is dropped when its size, tags or FCS are wrong, counted when it is PAUSE or of a
service not bound to the port, discarded when it is a PRP duplicate of the last 400 ms, and otherwise delivered; a
full duplicate table is counted. PRP supervision frames go out every 2,000 ms on a pair that has PRP. A link change
is seen, and an SGMII link under 1,000 Mbit/s makes an enabled PTP port FAULTY. With PD8 gated, the port re-
initialising or the link down nothing is received (R20 to R24, R79, R347, R348, R449; the 400 ms and the frame of
more than one tag are the model's reading, log entries 80 and 119). -/
def Obligations.EthernetPortsCarry : Prop :=
  ∀ (s u : State) (dt p q speed seq : Nat) (up : Bool) (f : NetFrame) (held : List (Nat × Nat)), u = s.elapse dt →
    f.port = p →
    (pd u 8 = true → p < 8 → reinitRuns u 5 p = false →
      ((netPort u p).up = true →
        ((f.bytes < 64 ∨ 9216 < f.bytes ∨ f.fcsOk = false ∨ 1 < f.tags) →
          Completes (.netFrameReceived dt f) s fun t =>
            (netPort t p).rxDrop = (netPort u p).rxDrop + 1 ∧ t.net.delivered = u.net.delivered) ∧
        (64 ≤ f.bytes → f.bytes ≤ 9216 → f.fcsOk = true → f.tags ≤ 1 →
          (f.pause = true → Completes (.netFrameReceived dt f) s fun t =>
            (netPort t p).pause = (netPort u p).pause + 1 ∧ t.net.delivered = u.net.delivered ∧ t.sent = u.sent) ∧
          (f.pause = false → f.service ≤ 2 → netBound u p f.service = false →
            Completes (.netFrameReceived dt f) s fun t =>
              (netPort t p).unbound = (netPort u p).unbound + 1 ∧ t.net.delivered = u.net.delivered) ∧
          (f.pause = false → (2 < f.service ∨ netBound u p f.service = true) →
            (f.rct = none ∨ f.service = 2 ∨ prpPartner u p = none) →
            Completes (.netFrameReceived dt f) s fun t =>
              tget t.net.delivered f.service 0 = tget u.net.delivered f.service 0 + 1
                ∧ t.net.ports = u.net.ports) ∧
          (f.pause = false → (2 < f.service ∨ netBound u p f.service = true) → f.rct = some seq → f.service ≠ 2 →
            prpPartner u p ≠ none →
            (tfind (tget u.net.prp (p / 2) {}).table f.source = some held →
              (∃ e ∈ held, e.1 = seq ∧ now u < e.2 + 400 * tickMs) →
              Completes (.netFrameReceived dt f) s fun t => t = u) ∧
            (tfind (tget u.net.prp (p / 2) {}).table f.source = some held →
              (∀ e ∈ held, e.1 = seq → e.2 + 400 * tickMs ≤ now u) →
              Completes (.netFrameReceived dt f) s fun t =>
                tget t.net.delivered f.service 0 = tget u.net.delivered f.service 0 + 1
                  ∧ t.net.ports = u.net.ports) ∧
            (tfind (tget u.net.prp (p / 2) {}).table f.source = none →
              Completes (.netFrameReceived dt f) s fun t =>
                tget t.net.delivered f.service 0 = tget u.net.delivered f.service 0 + 1
                  ∧ (4096 ≤ (tget u.net.prp (p / 2) {}).table.length →
                    (tget t.net.prp (p / 2) {}).overflow = (tget u.net.prp (p / 2) {}).overflow + 1))))) ∧
      ((netPort u p).sgmii = true → Completes (.sgmiiLinkChange dt p up speed) s fun t =>
        (netPort t p).up = up ∧ (netPort t p).speed = min speed 2 ∧
        (up = true → (ptpPort u p).record.enable = true →
          (speed < 2 → (ptpPort t p).state = portFaulty) ∧
          (2 ≤ speed → (ptpPort u p).state = portFaulty → (ptpPort t p).state = portInitializing))) ∧
      ((netPort u p).sgmii = false → Completes (.ethernetLinkChange dt p up) s fun t =>
        (netPort t p).up = up ∧ (netPort t p).speed = 3 ∧ t.tim = u.tim)) ∧
    ((pd u 8 = false ∨ 8 ≤ p ∨ reinitRuns u 5 p = true) →
      (Completes (.netFrameReceived dt f) s fun t => t = u) ∧
      (Completes (.sgmiiLinkChange dt p up speed) s fun t => t = u) ∧
      Completes (.ethernetLinkChange dt p up) s fun t => t = u) ∧
    ((netPort u p).up = false → Completes (.netFrameReceived dt f) s fun t => t = u) ∧
    ((netPort u p).sgmii = false → Completes (.sgmiiLinkChange dt p up speed) s fun t => t = u) ∧
    ((netPort u p).sgmii = true → Completes (.ethernetLinkChange dt p up) s fun t => t = u) ∧
    (pd u 8 = true → q < 2 → u.net.prpOn.testBit q = true →
      everyDue u (tget u.net.prp q {}).supervised (2000 * tickMs) = true →
      Completes (.prpSupervision dt q) s fun t =>
        .prpSupervision q ∈ sentSince u t ∧ (tget t.net.prp q {}).supervised = some (now u)) ∧
    ((pd u 8 = false ∨ 2 ≤ q ∨ u.net.prpOn.testBit q = false ∨
        everyDue u (tget u.net.prp q {}).supervised (2000 * tickMs) = false) →
      Completes (.prpSupervision dt q) s fun t => t = u)

/-- ADC_CHAN_SET takes a channel's record, whose point comes or goes with it, or the global record, which leaves READY
only to a reference still selected; ADC_SEQ_SET takes a sequence, at once where the converter has none, else for its
next round; ADC_SAMPLE_READ returns the newest sample, value or raw, and ST_NOT_FOUND without one; ADC_CAL_SET sets
gain and offset and abandons a calibration; ADC_SYSCAL's steps 0 to 4 follow one another and apply what they
averaged; 600 s without a step abandon it. Fields out of range, and a step out of order, get ST_OUT_OF_RANGE and
change nothing (R100, R101, R110, R111, R114, R117 to R119, R123). -/
def Obligations.FrontEndIsConfigured : Prop :=
  ∀ (s u : State) (dt n : Nat) (c : Cmd) (call : Call) (p b : Bytes) (m : SyscalMean) (y : SysCal),
    u = s.elapse dt → p = call.payload → b = p.drop 4 →
    (Accepted rowAdcChanSet c u call →
      (p.length = 28 → u16 p 2 = 24 → n = u16 p 0 → n ≠ 255 →
        ((isAnalogue n || isCounting n) = true → chanOk n (u8 b 0) (chanFields b) = true →
          expressTaken u n (chanFields b).express = false → ((chanFields b).enable && !roomFor u [n]) = false →
          Completes (.adcChanSet dt c) s fun t =>
            chanRecord t n = chanFields b ∧ (∀ k, k ≠ n → chanRecord t k = chanRecord u k) ∧
            (findPoint t n).isSome = (chanFields b).enable ∧ Answered rowAdcChanSet c call u t stOk []) ∧
        (((isAnalogue n || isCounting n) = false ∨ chanOk n (u8 b 0) (chanFields b) = false ∨
            expressTaken u n (chanFields b).express = true) →
          Completes (.adcChanSet dt c) s fun t => t.adc = u.adc ∧ Failed rowAdcChanSet c u t stOutOfRange) ∧
        ((isAnalogue n || isCounting n) = true → chanOk n (u8 b 0) (chanFields b) = true →
          expressTaken u n (chanFields b).express = false → ((chanFields b).enable && !roomFor u [n]) = true →
          Completes (.adcChanSet dt c) s fun t => t.adc = u.adc ∧ Failed rowAdcChanSet c u t stNoSpace)) ∧
      (p.length = 12 → u16 p 2 = 8 → u16 p 0 = 255 →
        (u8 b 0 ≤ 1 → u8 b 1 ≤ 1 → u8 b 2 ≤ 2 → u8 b 3 = 0 → u32 b 4 = 0 → Completes (.adcChanSet dt c) s fun t =>
          t.adc.rate16 = decide (u8 b 0 = 1) ∧ t.adc.refM = u8 b 1 ∧ t.adc.refP = u8 b 2
            ∧ t.adc.readyM = (u.adc.readyM && decide (u8 b 1 = u.adc.refM))
            ∧ t.adc.readyP = (u.adc.readyP && decide (u8 b 2 = u.adc.refP))
            ∧ Answered rowAdcChanSet c call u t stOk []) ∧
        ((1 < u8 b 0 ∨ 1 < u8 b 1 ∨ 2 < u8 b 2 ∨ u8 b 3 ≠ 0 ∨ u32 b 4 ≠ 0) →
          Completes (.adcChanSet dt c) s fun t => t.adc = u.adc ∧ Failed rowAdcChanSet c u t stOutOfRange))) ∧
    (Accepted rowAdcSeqSet c u call → n = u8 p 1 → p.length = 4 + 4 * n →
      (1 ≤ n → n ≤ 64 → u8 p 0 ≤ 1 → u16 p 2 = 0 →
        ((rowsOf p 4 4 n).map (fun b => u32 b 0)).all (entryOk (u8 p 0)) = true →
        Completes (.adcSeqSet dt c) s fun t =>
          ((sarOf u (u8 p 0)).entries = [] →
            (sarOf t (u8 p 0)).entries = ((rowsOf p 4 4 n).map (fun b => u32 b 0)).map entryFields) ∧
          ((sarOf u (u8 p 0)).entries ≠ [] →
            (sarOf t (u8 p 0)).entries = (sarOf u (u8 p 0)).entries ∧
            (sarOf t (u8 p 0)).next = some (((rowsOf p 4 4 n).map (fun b => u32 b 0)).map entryFields)) ∧
          Answered rowAdcSeqSet c call u t stOk []) ∧
      ((n = 0 ∨ 64 < n) → Completes (.adcSeqSet dt c) s fun t =>
        t.adc = u.adc ∧ Failed rowAdcSeqSet c u t stCount) ∧
      (1 ≤ n → n ≤ 64 → (1 < u8 p 0 ∨ u16 p 2 ≠ 0 ∨
          ((rowsOf p 4 4 n).map (fun b => u32 b 0)).all (entryOk (u8 p 0)) = false) →
        Completes (.adcSeqSet dt c) s fun t => t.adc = u.adc ∧ Failed rowAdcSeqSet c u t stOutOfRange)) ∧
    (∀ x, Accepted rowAdcSampleRead c u call → p.length = 2 → 24 ≤ call.cap → n = u16 p 0 % 32768 →
      ((isAnalogue n || (isCounting n && decide (u16 p 0 < 32768))) = true →
        readSample u n (decide (32768 ≤ u16 p 0)) = some x → Completes (.adcSampleRead dt c) s fun t =>
          t.adc = u.adc ∧
            Answered rowAdcSampleRead c call u t stOk (q31Bytes x.1 ++ le32 x.2.1.toNat ++ tsBytes x.2.2)) ∧
      ((isAnalogue n || (isCounting n && decide (u16 p 0 < 32768))) = true →
        readSample u n (decide (32768 ≤ u16 p 0)) = none → Completes (.adcSampleRead dt c) s fun t =>
          t.adc = u.adc ∧ Failed rowAdcSampleRead c u t stNotFound) ∧
      ((isAnalogue n || (isCounting n && decide (u16 p 0 < 32768))) = false →
        Completes (.adcSampleRead dt c) s fun t => t.adc = u.adc ∧ Failed rowAdcSampleRead c u t stOutOfRange)) ∧
    (∀ g o, Accepted rowAdcCalSet c u call → p.length = 12 →
      (isAnalogue (u16 p 0) = true → u16 p 2 = 0 → val32 (w32 p 4) = some g → val32 (w32 p 8) = some o →
        (calOk g o = true → Completes (.adcCalSet dt c) s fun t =>
          userCal t (u16 p 0) = (roundNear (g * 1073741824), roundNear (o * 2147483648)) ∧
          tfind t.adc.syscal (u16 p 0) = none ∧ Answered rowAdcCalSet c call u t stOk []) ∧
        (calOk g o = false → Completes (.adcCalSet dt c) s fun t =>
          t.adc = u.adc ∧ Failed rowAdcCalSet c u t stOutOfRange)) ∧
      ((isAnalogue (u16 p 0) = false ∨ u16 p 2 ≠ 0 ∨ val32 (w32 p 4) = none ∨ val32 (w32 p 8) = none) →
        Completes (.adcCalSet dt c) s fun t => t.adc = u.adc ∧ Failed rowAdcCalSet c u t stOutOfRange)) ∧
    (Accepted rowAdcSyscal c u call → p.length = 4 → 8 ≤ call.cap → isAnalogue (u16 p 0) = true → u8 p 3 = 0 →
      n = u16 p 0 →
      (u8 p 2 = 0 → Completes (.adcSyscal dt c m) s fun t =>
        tfind t.adc.syscal n = some { step := 0, low := 0, high := 0, last := now u } ∧
        t.adc.cal = u.adc.cal ∧ Answered rowAdcSyscal c call u t stOk (zeros 8)) ∧
      (u8 p 2 = 1 → tfind u.adc.syscal n = some y → y.step ≤ 1 → meanOk u n m = true →
        Completes (.adcSyscal dt c m) s fun t =>
          tfind t.adc.syscal n = some { y with step := 1, low := clampI q31Min q31Max m.mean, last := now u } ∧
          Answered rowAdcSyscal c call u t stOk (q31Bytes (clampI q31Min q31Max m.mean)
            ++ f32Bytes (fp32 (num32 (chanRecord u n).calLow - q31 (clampI q31Min q31Max m.mean))))) ∧
      (u8 p 2 = 2 → tfind u.adc.syscal n = some y → (y.step = 1 ∨ y.step = 2) → meanOk u n m = true →
        Completes (.adcSyscal dt c m) s fun t =>
          tfind t.adc.syscal n = some { y with step := 2, high := clampI q31Min q31Max m.mean, last := now u } ∧
          Answered rowAdcSyscal c call u t stOk (q31Bytes (clampI q31Min q31Max m.mean)
            ++ f32Bytes (fp32 (sysGain u (chanRecord u n) y.low (clampI q31Min q31Max m.mean))))) ∧
      (∀ g o : Int, u8 p 2 = 3 → tfind u.adc.syscal n = some y → y.step = 2 →
        g = roundNear (sysGain u (chanRecord u n) y.low y.high * 1073741824) →
        o = roundNear ((num32 (chanRecord u n).calLow - (g : Rat) / 1073741824 * q31 y.low) * 2147483648) →
        (y.high ≠ y.low → calOk ((g : Rat) / 1073741824) (q31 o) = true → Completes (.adcSyscal dt c m) s fun t =>
          userCal t n = (g, o) ∧ tfind t.adc.syscal n = none ∧
          Answered rowAdcSyscal c call u t stOk (q31Bytes o ++ f32Bytes (fp32 ((g : Rat) / 1073741824)))) ∧
        ((y.high = y.low ∨ calOk ((g : Rat) / 1073741824) (q31 o) = false) → Completes (.adcSyscal dt c m) s fun t =>
          t.adc = u.adc ∧ Failed rowAdcSyscal c u t stOutOfRange)) ∧
      (u8 p 2 = 4 → (tfind u.adc.syscal n).isSome = true → Completes (.adcSyscal dt c m) s fun t =>
        tfind t.adc.syscal n = none ∧ t.adc.cal = u.adc.cal ∧ Answered rowAdcSyscal c call u t stOk (zeros 8)) ∧
      ((4 < u8 p 2 ∨ u8 p 2 ≠ 0 ∧ tfind u.adc.syscal n = none ∨
          u8 p 2 = 1 ∧ tfind u.adc.syscal n = some y ∧ (1 < y.step ∨ meanOk u n m = false) ∨
          u8 p 2 = 2 ∧ tfind u.adc.syscal n = some y ∧ (y.step ≠ 1 ∧ y.step ≠ 2 ∨ meanOk u n m = false) ∨
          u8 p 2 = 3 ∧ tfind u.adc.syscal n = some y ∧ y.step ≠ 2) →
        Completes (.adcSyscal dt c m) s fun t => t.adc = u.adc ∧ Failed rowAdcSyscal c u t stOutOfRange)) ∧
    (tfind u.adc.syscal n = some y → passed u y.last (600 * tickS) = true →
      Completes (.calibrationIdleExpiry dt n) s fun t =>
        tfind t.adc.syscal n = none ∧ t.adc.cal = u.adc.cal ∧ t.adc.samples = u.adc.samples) ∧
    ((tfind u.adc.syscal n = none ∨ tfind u.adc.syscal n = some y ∧ passed u y.last (600 * tickS) = false) →
      Completes (.calibrationIdleExpiry dt n) s fun t => t = u)

/-- A converter's normal conversion enters its averaging group, and the group's last stores the channel's sample, if the
channel was enabled at its instant: the average code, the mean instant, OVR and FS. An urgent conversion stores the
sample of the head of its queue, with URGENT. A metering modulator's code of the instant now available is stored
with that instant, OVR, FS, and REF_NR as READY was then. Without such a conversion or instant nothing changes
(R102, R106 to R108, R111 to R113, R120). An accepted edge that its channel's mode counts adds one to the forward or
the reverse count; another changes nothing. Each millisecond REFIN and AVDD are measured; a selected REFIN outside
2.000 V to 3.000 V clears READY and sets REF_FAULT. A reference is READY again when it is in its window, REFIN for 2
ms. With PD2 gated nothing is measured (R114, R115, R121, R122). -/
def Obligations.ConversionsAndCountsAreStored : Prop :=
  (∀ (s u : State) (dt k n code at' : Nat) (z : Int) (e : SeqEntry) (q : Urgent) (f : Comparators) (g ends : List Nat),
    u = s.elapse dt → g = (sarOf u k).group ++ [min code 65535] → ends = (sarOf u k).groupEnds ++ [now u - 100] →
    (u.adc.running = true → pd u 2 = true → (sarOf u k).entries[(sarOf u k).entry]? = some e →
      ((sarOf u k).urgent = [] ∨ (sarOf u k).shielded = true) →
      (g.length < 2 ^ e.avg → Completes (.sarConversionDone dt k code f) s fun t =>
        (sarOf t k).group = g ∧ (sarOf t k).groupEnds = ends ∧ t.adc.samples = u.adc.samples) ∧
      (2 ^ e.avg ≤ g.length → (chanRecord (asOf (meanTick ends) u) (32 + e.input)).enable = true →
        Completes (.sarConversionDone dt k code f) s fun t =>
          (sarOf t k).group = [] ∧ ∃ y, tfind t.adc.samples (32 + e.input) = some y ∧ y.raw = average g ∧
            y.tick = meanTick ends ∧ (f.ovr = true → y.flags.getLsbD 0 = true) ∧
            ((code = 0 ∨ 65535 ≤ code) → y.flags.getLsbD 1 = true)) ∧
      (2 ^ e.avg ≤ g.length → (chanRecord (asOf (meanTick ends) u) (32 + e.input)).enable = false →
        Completes (.sarConversionDone dt k code f) s fun t =>
          (sarOf t k).group = [] ∧ t.adc.samples = u.adc.samples)) ∧
    ((u.adc.running = false ∨ pd u 2 = false ∨ (sarOf u k).entries[(sarOf u k).entry]? = none ∨
        (sarOf u k).urgent ≠ [] ∧ (sarOf u k).shielded = false) →
      Completes (.sarConversionDone dt k code f) s fun t => t = u) ∧
    (urgentHead u k = some q → Completes (.urgentConversionDone dt k code f) s fun t =>
      (∃ y, tfind t.adc.samples q.channel = some y ∧ y.raw = min code 65535 ∧ y.tick = now u - 100 ∧
        (f.ovr = true → y.flags.getLsbD 0 = true) ∧ y.flags.getLsbD 8 = true) ∧
      (sarOf t k).urgent = (sarOf u k).urgent.drop 1) ∧
    (urgentHead u k = none → Completes (.urgentConversionDone dt k code f) s fun t => t = u) ∧
    (modulatorInstant u n = some at' → Completes (.meteringSample dt n z f) s fun t =>
      ∃ y, tfind t.adc.samples n = some y ∧ y.raw = clampI (-8388608) 8388607 z ∧ y.tick = at' ∧
        (f.ovr = true → y.flags.getLsbD 0 = true) ∧ y.flags.getLsbD 6 = !(asOf at' u).adc.readyM ∧
        ((z ≤ -8388608 ∨ 8388607 ≤ z) → y.flags.getLsbD 1 = true)) ∧
    (modulatorInstant u n = none → Completes (.meteringSample dt n z f) s fun t => t = u)) ∧
  (∀ (s u : State) (dt k : Nat) (rising forward : Bool) (refin avdd : Half), u = s.elapse dt →
    (edgeCounted u k rising = true → Completes (.countingEdge dt k rising forward) s fun t =>
      (countingOf t k).fwd = (countingOf u k).fwd + (if forward then 1 else 0) ∧
      (countingOf t k).rev = (countingOf u k).rev + (if forward then 0 else 1) ∧
      (countingOf t k).last = some (now u - (chanRecord u (96 + k)).filterUs * tickUs, forward)) ∧
    (edgeCounted u k rising = false → Completes (.countingEdge dt k rising forward) s fun t => t = u) ∧
    (pd u 2 = true → everyDue u u.adc.measuredAt tickMs = true → Completes (.referenceMeasure dt refin avdd) s fun t =>
      t.adc.refin = refin ∧ t.adc.avdd = avdd ∧ t.adc.samples = u.adc.samples ∧
      ((u.adc.refM ≠ 1 ∨ 20000 ≤ refin.toNat ∧ refin.toNat ≤ 30000) → t.adc.readyM = u.adc.readyM) ∧
      ((u.adc.refP ≠ 1 ∨ 20000 ≤ refin.toNat ∧ refin.toNat ≤ 30000) → t.adc.readyP = u.adc.readyP) ∧
      (¬(20000 ≤ refin.toNat ∧ refin.toNat ≤ 30000) →
        (u.adc.refM = 1 → t.adc.readyM = false ∧ (u.adc.readyM = true → t.adc.flags.getLsbD 2 = true)) ∧
        (u.adc.refP = 1 → t.adc.readyP = false ∧ (u.adc.readyP = true → t.adc.flags.getLsbD 2 = true)))) ∧
    ((pd u 2 = false ∨ everyDue u u.adc.measuredAt tickMs = false) →
      Completes (.referenceMeasure dt refin avdd) s fun t => t = u) ∧
    (pd u 2 = true → Completes (.referenceReady dt true) s fun t =>
      t.adc.readyM = (u.adc.readyM || maySettle u u.adc.refM) ∧ t.adc.readyP = u.adc.readyP) ∧
    (pd u 2 = true → Completes (.referenceReady dt false) s fun t =>
      t.adc.readyP = (u.adc.readyP || maySettle u u.adc.refP) ∧ t.adc.readyM = u.adc.readyM) ∧
    (pd u 2 = false → (Completes (.referenceReady dt true) s fun t => t = u) ∧
      Completes (.referenceReady dt false) s fun t => t = u))

/-- At a period's boundary every channel in use adds its period to its accumulators, and a record accepted takes effect,
zeroing the accumulators where KIND or QUANTUM changes. Each 10 ms tick of a thermal channel integrates power, with
the last valid temperatures where there are none now. The accumulators are written to the older bank each second. An
idle pulse output with pulses pending drives one, its ball only with the token. A thermal channel's chip is read
once a day and sets its identity state. While the DSP re-initialises the work is held; where an instant has not come
nothing changes (R79, R128, R130, R131, R136, R141, R143, R147, R149, R150, R152). MTR_READ returns a channel's
record, ST_NOT_FOUND for one not in use; MTR_SNAP_READ returns the snapshots from a number on, ST_NOT_FOUND for one
not held, ST_READ_COUNT for none or more than fit. MTR_CHAN_SET and MTR_TCOMP_SET are taken for the next period
boundary, the global record with ST_KEY_POLICY for a slot that may not sign; MTR_PULSE_SET binds a pulse output;
MTR_SENSOR_ACCEPT reads the chip and takes its serial, else gets ST_SENSOR_IDENTITY and sets the identity state.
Values out of range get ST_OUT_OF_RANGE (R128, R129, R142, R148, R152, R154, R159, R164). -/
def Obligations.MeteringAccumulatesAndIsCommanded : Prop :=
  (∀ (s u w : State) (dt n : Nat) (v : Rat × Rat) (k : Rat) (b : Bytes) (tries : List I2cTry) (r : MtrRecord)
      (m : MtrChan), u = s.elapse dt → w = judgeExpiry { u with mtr := { u.mtr with closedAt := boundary u } } →
    m = mtrChan u n →
    (max u.mtr.closedAt u.mtr.startedAt < boundary u → meteringRuns u = true → n < 12 →
      (m.record.kind ≠ 0 → m.next = none → Completes (.meteringPeriodClose dt) s fun t =>
        t.mtr.periods = u.mtr.periods + 1 ∧ (mtrChan t n).opened = 0 ∧ (mtrChan t n).record = m.record ∧
        (mtrChan t n).accs = (addAll m.accs (closeChannel w none n 0 (mtrChan w n)).amounts).1) ∧
      (m.record.kind ≠ 0 → m.next = some r → r.kind = m.record.kind → r.quantum = m.record.quantum →
        Completes (.meteringPeriodClose dt) s fun t =>
          (mtrChan t n).record = r ∧ (mtrChan t n).next = none ∧
          (mtrChan t n).accs = (addAll m.accs (closeChannel w none n 0 (mtrChan w n)).amounts).1) ∧
      (m.next = some r → (r.kind ≠ m.record.kind ∨ r.quantum ≠ m.record.quantum) →
        Completes (.meteringPeriodClose dt) s fun t =>
          (mtrChan t n).record = r ∧ (mtrChan t n).next = none ∧ (mtrChan t n).accs = {}
            ∧ t.mtr.snapNext = u.mtr.snapNext + 1)) ∧
    (max u.mtr.closedAt u.mtr.startedAt < boundary u → meteringOn u = true → meteringRuns u = false →
      Completes (.meteringPeriodClose dt) s fun t =>
        t.mtr.channels = u.mtr.channels ∧ t.mtr.held.length = u.mtr.held.length + 1) ∧
    (boundary u ≤ max u.mtr.closedAt u.mtr.startedAt → Completes (.meteringPeriodClose dt) s fun t => t = u) ∧
    (max m.tickedAt u.mtr.startedAt < thermalTick u → isThermal m.record = true → meteringRuns u = true →
      (tickTemps m.thermal = some v ∧ k = (factorAt m ((v.1 + v.2) / 2)).1 ∨
        tickTemps m.thermal = none ∧ m.thermal.held = some (v.1, v.2, k)) → Completes (.thermalTick dt n) s fun t =>
          (mtrChan t n).thermal.ticks = m.thermal.ticks + 1 ∧ (mtrChan t n).thermal.theta = v ∧
          (mtrChan t n).thermal.heldTicks = (if (tickTemps m.thermal).isSome then 0 else m.thermal.heldTicks + 1) ∧
          (mtrChan t n).thermal.q = (flowWithin m.record (rawFlow u m.record (thermalTick u))).1 ∧
          (mtrChan t n).thermal.delta = tickDelta m.record v.1 v.2 ∧
          (mtrChan t n).thermal.sumP = m.thermal.sumP
            + k * (mtrChan t n).thermal.q * (mtrChan t n).thermal.delta ∧ (mtrChan t n).accs = m.accs) ∧
    ((thermalTick u ≤ max m.tickedAt u.mtr.startedAt ∨ isThermal m.record = false) →
      Completes (.thermalTick dt n) s fun t => t = u) ∧
    (max u.mtr.writtenAt u.mtr.startedAt < secondTick u → meteringRuns u = true →
      Completes (.accumulatorSecondWrite dt) s fun t =>
        (newerBank t.mtr.banks).map (·.accs) = some ((List.range 12).map (fun n => (mtrChan u n).accs)) ∧
        t.mtr.channels = u.mtr.channels) ∧
    (max u.mtr.writtenAt u.mtr.startedAt < secondTick u → meteringRuns u = false →
      Completes (.accumulatorSecondWrite dt) s fun t => t.mtr.banks = u.mtr.banks ∧ t.mtr.channels = u.mtr.channels) ∧
    (secondTick u ≤ max u.mtr.writtenAt u.mtr.startedAt → Completes (.accumulatorSecondWrite dt) s fun t => t = u) ∧
    (pd u 3 = true → (tget u.mtr.pulses n {}).pending ≠ 0 → (tget u.mtr.pulses n {}).idleAt ≤ now u →
      Completes (.pulseEmit dt n) s fun t =>
        (tget t.mtr.pulses n {}).pending = (tget u.mtr.pulses n {}).pending - 1 ∧
        (tget t.mtr.pulses n {}).residue = (tget u.mtr.pulses n {}).residue ∧
        (tget t.mtr.pulses n {}).idleAt = now u + 60 * tickMs ∧
        t.sent = (if remote u then u.sent else u.sent ++ [.pulse n])) ∧
    ((pd u 3 = false ∨ (tget u.mtr.pulses n {}).pending = 0 ∨ now u < (tget u.mtr.pulses n {}).idleAt) →
      Completes (.pulseEmit dt n) s fun t => t = u) ∧
    (m.dayRead < readDay u → meteringRuns u = true → isThermal m.record = true → readsChips u = true →
      (chipRecord (readAnswer tries) = none → Completes (.sensorIdentityRead dt n tries) s fun t =>
        (mtrChan t n).identity = 2 ∧ (mtrChan t n).accs = m.accs ∧ (mtrChan t n).dayRead = readDay u) ∧
      (chipRecord (readAnswer tries) = some b → m.serial = some (slice b 4 16) →
        Completes (.sensorIdentityRead dt n tries) s fun t =>
          (mtrChan t n).identity = (if (if u.tim.legal.valid then lifeEnded u (u32 b 20) (u16 b 24) else m.expired)
            then 4 else 1) ∧ (mtrChan t n).readType = u8 b 2 ∧ (mtrChan t n).accs = m.accs) ∧
      (chipRecord (readAnswer tries) = some b → m.serial ≠ some (slice b 4 16) →
        Completes (.sensorIdentityRead dt n tries) s fun t =>
          (mtrChan t n).identity = 3 ∧ (mtrChan t n).readType = u8 b 2 ∧ (mtrChan t n).accs = m.accs)) ∧
    ((readDay u ≤ m.dayRead ∨ meteringRuns u = false ∨ isThermal m.record = false ∨ readsChips u = false) →
      Completes (.sensorIdentityRead dt n tries) s fun t => t = u)) ∧
  (∀ (s u : State) (dt : Nat) (c : Cmd) (call : Call) (p q b : Bytes) (tries : List I2cTry) (m : MtrChan)
      (out : List Snapshot) (full : Nat) (expired : Bool), u = s.elapse dt → p = call.payload → q = p.drop 4 →
    m = mtrChan u (u8 p 0) →
    (Accepted rowMtrRead c u call → p.length = 1 → 144 ≤ call.cap →
      (u8 p 0 ≤ 11 → m.record.kind ≠ 0 → Completes (.mtrRead dt c) s fun t =>
        t.mtr = u.mtr ∧ Answered rowMtrRead c call u t stOk (mtrReadRecord u (u8 p 0))) ∧
      (u8 p 0 ≤ 11 → m.record.kind = 0 → Completes (.mtrRead dt c) s fun t =>
        t.mtr = u.mtr ∧ Failed rowMtrRead c u t stNotFound) ∧
      (11 < u8 p 0 → Completes (.mtrRead dt c) s fun t =>
        t.mtr = u.mtr ∧ Failed rowMtrRead c u t stOutOfRange)) ∧
    (Accepted rowMtrSnapRead c u call → p.length = 8 →
      out = (u.mtr.ring.filter (fun x => decide (u32 p 0 ≤ x.number))).take (u16 p 4) →
      full = 8 + (out.map (fun x => x.body.length + x.signatures.length)).sum
        + (u16 p 4 - out.length) * snapBytes u.mtr.signAlg →
      (1 ≤ u16 p 4 → full ≤ call.limit → full ≤ call.cap → u16 p 6 = 0 →
        (u.mtr.ring.any (fun x => decide (x.number = u32 p 0)) = true → Completes (.mtrSnapRead dt c) s fun t =>
          t.mtr = u.mtr ∧ Answered rowMtrSnapRead c call u t stOk
            (le32 (u32 p 0) ++ le16 out.length ++ [0, 0] ++ out.flatMap (fun x => x.body ++ x.signatures))) ∧
        (u.mtr.ring.any (fun x => decide (x.number = u32 p 0)) = false → Completes (.mtrSnapRead dt c) s fun t =>
          t.mtr = u.mtr ∧ Failed rowMtrSnapRead c u t stNotFound)) ∧
      ((u16 p 4 = 0 ∨ call.limit < full) → Completes (.mtrSnapRead dt c) s fun t =>
        t.mtr = u.mtr ∧ Failed rowMtrSnapRead c u t stReadCount)) ∧
    (Accepted rowMtrChanSet c u call → allZero (slice p 1 3) = true →
      (p.length = 36 → u8 p 0 ≤ 11 → mtrRecordOk (mtrFields q) = true → u32 q 28 = 0 →
        ((mtrFields q).kind = 0 ∨ roomFor u (mtrPoints (u8 p 0)) = true) → Completes (.mtrChanSet dt c) s fun t =>
          (mtrChan t (u8 p 0)).next = some (mtrFields q) ∧
          (mtrChan t (u8 p 0)).record = m.record ∧ Answered rowMtrChanSet c call u t stOk []) ∧
      (p.length = 36 → u8 p 0 ≤ 11 → mtrRecordOk (mtrFields q) = true → u32 q 28 = 0 → (mtrFields q).kind ≠ 0 →
        roomFor u (mtrPoints (u8 p 0)) = false → Completes (.mtrChanSet dt c) s fun t =>
          t.mtr = u.mtr ∧ Failed rowMtrChanSet c u t stNoSpace) ∧
      (p.length = 36 → u8 p 0 ≠ 255 → (11 < u8 p 0 ∨ mtrRecordOk (mtrFields q) = false ∨ u32 q 28 ≠ 0) →
        Completes (.mtrChanSet dt c) s fun t => t.mtr = u.mtr ∧ Failed rowMtrChanSet c u t stOutOfRange) ∧
      (p.length = 20 → u8 p 0 = 255 → u16 q 0 ≠ 0 → 1440 % u16 q 0 = 0 → 1 ≤ u8 q 3 → u8 q 3 ≤ 3 →
        allZero (slice q 4 12) = true →
        (meterSlotOk u (u8 q 2) = true → Completes (.mtrChanSet dt c) s fun t =>
          t.mtr.nextGlobal = some { snapMin := u16 q 0, signSlot := u8 q 2, signAlg := u8 q 3 }
            ∧ t.mtr.snapMin = u.mtr.snapMin ∧ Answered rowMtrChanSet c call u t stOk []) ∧
        (meterSlotOk u (u8 q 2) = false → Completes (.mtrChanSet dt c) s fun t =>
          t.mtr = u.mtr ∧ Failed rowMtrChanSet c u t stKeyPolicy)) ∧
      (p.length = 20 → u8 p 0 = 255 → (u16 q 0 = 0 ∨ 1440 % u16 q 0 ≠ 0 ∨ u8 q 3 = 0 ∨ 3 < u8 q 3 ∨
          allZero (slice q 4 12) = false) →
        Completes (.mtrChanSet dt c) s fun t => t.mtr = u.mtr ∧ Failed rowMtrChanSet c u t stOutOfRange)) ∧
    (Accepted rowMtrTcompSet c u call → p.length = 260 →
      (u8 p 0 ≤ 11 → allZero (slice p 1 3) = true → tableOk (comingKind m) (tablePoints q) = true →
        Completes (.mtrTcompSet dt c) s fun t =>
          (mtrChan t (u8 p 0)).nextTable = some (tablePoints q) ∧
          (mtrChan t (u8 p 0)).table = m.table ∧ Answered rowMtrTcompSet c call u t stOk []) ∧
      ((11 < u8 p 0 ∨ allZero (slice p 1 3) = false ∨ tableOk (comingKind m) (tablePoints q) = false) →
        Completes (.mtrTcompSet dt c) s fun t => t.mtr = u.mtr ∧ Failed rowMtrTcompSet c u t stOutOfRange)) ∧
    (Accepted rowMtrPulseSet c u call → p.length = 12 →
      (u8 p 0 ≤ 15 → u16 p 2 = 0 → 1 ≤ u64 p 4 → u64 p 4 ≤ 2 ^ 48 → mtrSourceOk u (u8 p 1) = true →
        Completes (.mtrPulseSet dt c) s fun t =>
          tfind t.mtr.pulses (u8 p 0) = some { source := u8 p 1, threshold := u64 p 4 } ∧
          Answered rowMtrPulseSet c call u t stOk []) ∧
      ((15 < u8 p 0 ∨ u16 p 2 ≠ 0 ∨ u64 p 4 = 0 ∨ 2 ^ 48 < u64 p 4 ∨ mtrSourceOk u (u8 p 1) = false) →
        Completes (.mtrPulseSet dt c) s fun t => t.mtr = u.mtr ∧ Failed rowMtrPulseSet c u t stOutOfRange)) ∧
    (Accepted rowMtrSensorAccept c u call → p.length = 20 →
      (u8 p 0 ≤ 11 → allZero (slice p 1 3) = true → isThermal m.record = true → readsChips u = true →
        (chipRecord (readAnswer tries) = some b →
          expired = (if u.tim.legal.valid then lifeEnded u (u32 b 20) (u16 b 24) else m.expired) →
          (slice b 4 16 = slice p 4 16 → expired = false → Completes (.mtrSensorAccept dt c tries) s fun t =>
            (mtrChan t (u8 p 0)).serial = some (slice p 4 16) ∧ (mtrChan t (u8 p 0)).identity = 1 ∧
            t.mtr.due.getLsbD 4 = true ∧ Answered rowMtrSensorAccept c call u t stOk []) ∧
          ((slice b 4 16 ≠ slice p 4 16 ∨ expired = true) → Completes (.mtrSensorAccept dt c tries) s fun t =>
            (mtrChan t (u8 p 0)).serial = m.serial ∧
            (mtrChan t (u8 p 0)).identity = identityOf m (some b) expired ∧
            Failed rowMtrSensorAccept c u t stSensorIdentity)) ∧
        (chipRecord (readAnswer tries) = none → Completes (.mtrSensorAccept dt c tries) s fun t =>
          (mtrChan t (u8 p 0)).serial = m.serial ∧ (mtrChan t (u8 p 0)).identity = 2 ∧
          Failed rowMtrSensorAccept c u t stSensorIdentity)) ∧
      (u8 p 0 ≤ 11 → allZero (slice p 1 3) = true → isThermal m.record = true → readsChips u = false →
        Completes (.mtrSensorAccept dt c tries) s fun t =>
          t.mtr = u.mtr ∧ Failed rowMtrSensorAccept c u t stSensorIdentity) ∧
      ((11 < u8 p 0 ∨ allZero (slice p 1 3) = false ∨ isThermal m.record = false) →
        Completes (.mtrSensorAccept dt c tries) s fun t =>
          t.mtr = u.mtr ∧ Failed rowMtrSensorAccept c u t stOutOfRange)))

/-- A datagram that the weir admits is charged and queued, in ingress or in the spill, an off-slot one as a violation,
the third in 600 s throttling the unit; one that it refuses changes no queue, point or sequence and is answered with
its code. The point engine applies the next datagram whole, ingress before spill. A slot window sets balance and
allowance, by counter time every 60 s while SERVO is not valid; throttling ends after 600 s; a unit whose
MISS_LIMIT-th window has ended without a report is SILENT. A ClientHello gets its cookie, then its handshake, fewer
than 64 at once, which opens the unit's association when its chain is known. What is not authentic or IPv4 is
counted, as is what comes on another port; while the collector re-initialises datagrams are dropped (R24, R79, R170,
R174 to R183, R188; the counter that counts those is the model's choice, log entry 84). -/
def Obligations.DatagramsAreAdmittedAndApplied : Prop :=
  ∀ (s u : State) (dt n x v code : Nat) (r : UppRecord) (h : UppHello) (d : Datagram) (ds : List Datagram) (off : Bool),
    u = s.elapse dt →
    (pd u 8 = true → uppBound u r.port = true →
      (r.ipv6 = true → r.authentic = true → u.pts.assocs.contains r.unit = true → collectorRuns u = true →
        (admission u r.unit r.bytes = .admitted d off → Completes (.uppDatagram dt r) s fun t =>
          (placeFor u d.bytes = some false →
            t.pts.ingress = u.pts.ingress ++ [d] ∧ t.pts.spill = u.pts.spill) ∧
          (placeFor u d.bytes ≠ some false →
            t.pts.spill = u.pts.spill ++ [d] ∧ t.pts.ingress = u.pts.ingress ∧ t.pts.spillActive = true) ∧
          (unitOf t r.unit).lastSeq = some d.seq ∧
          (unitOf t r.unit).admitted = (unitOf u r.unit).admitted + 1 ∧ t.pts.points = u.pts.points ∧
          (d.report = true → (unitOf t r.unit).balance = (unitOf u r.unit).balance - u16 r.bytes 6) ∧
          (d.report = false → (unitOf t r.unit).allowance = (unitOf u r.unit).allowance - u16 r.bytes 6) ∧
          (off = true → (recentViolations u (unitOf u r.unit)).length < 2 →
            (unitOf t r.unit).violations = recentViolations u (unitOf u r.unit) ++ [now u]) ∧
          (off = true → 2 ≤ (recentViolations u (unitOf u r.unit)).length →
            (unitOf t r.unit).throttled = some (now u) ∧ (unitOf t r.unit).violations = [])) ∧
        ((admission u r.unit r.bytes = .refused code ∨ admission u r.unit r.bytes = .malformed code) →
          Completes (.uppDatagram dt r) s fun t =>
            t.pts.ingress = u.pts.ingress ∧ t.pts.spill = u.pts.spill ∧ t.pts.points = u.pts.points ∧
            (unitOf t r.unit).lastSeq = (unitOf u r.unit).lastSeq ∧
            (unitOf t r.unit).refused = (unitOf u r.unit).refused + 1 ∧
            (admission u r.unit r.bytes = .malformed code → t.pts.flags.getLsbD 0 = true) ∧
            .uppAck r.unit (w32 r.bytes 8) code (unitState (unitOf u r.unit)) (unitOf u r.unit).balance 0 0
              (nextWindow r.unit (servoNs u)) ∈ sentSince u t)) ∧
      (r.ipv6 = true → r.authentic = true → u.pts.assocs.contains r.unit = true → collectorRuns u = false →
        Completes (.uppDatagram dt r) s fun t =>
          t.pts = { u.pts with refused := u.pts.refused + (if reinitRuns u 6 0 then 1 else 0) }) ∧
      ((r.ipv6 = false ∨ r.authentic = false ∨ u.pts.assocs.contains r.unit = false) →
        Completes (.uppDatagram dt r) s fun t =>
          t = { u with pts := { u.pts with authFail := u.pts.authFail + 1 } })) ∧
    (pd u 8 = true → uppBound u r.port = false → Completes (.uppDatagram dt r) s fun t =>
      (netPort t r.port).unbound = (netPort u r.port).unbound + 1 ∧ t.pts = u.pts) ∧
    (pd u 8 = false → Completes (.uppDatagram dt r) s fun t => t = u) ∧
    (collectorRuns u = true → u.pts.paused = false →
      (u.pts.ingress = d :: ds → Completes (.pointEngineApply dt) s fun t =>
        t.pts.ingress = ds ∧ t.pts.dgrams = u.pts.dgrams + 1 ∧
        t.pts.points = (d.records.foldl (applyOne d (now u)) (u.pts.points, 0, 0)).1 ∧ t.pts.spill = u.pts.spill) ∧
      (u.pts.ingress = [] → u.pts.spill = d :: ds → Completes (.pointEngineApply dt) s fun t =>
        t.pts.spill = ds ∧ t.pts.spillActive = !ds.isEmpty ∧ t.pts.dgrams = u.pts.dgrams + 1 ∧
        t.pts.points = (d.records.foldl (applyOne d (now u)) (u.pts.points, 0, 0)).1)) ∧
    ((collectorRuns u = false ∨ u.pts.paused = true ∨ u.pts.ingress = [] ∧ u.pts.spill = []) →
      Completes (.pointEngineApply dt) s fun t => t.pts = u.pts) ∧
    (collectorRuns u = true → 1 ≤ n → n ≤ 4095 →
      (windowDue u n = true → Completes (.slotWindowStart dt n) s fun t =>
        (unitOf t n).heard = false ∧ (unitOf t n).window = some (windowOf n (servoNs u), now u) ∧
        ((u.tim.servo.valid = true ∨ (unitOf u n).refills < refillsDue u) →
          (unitOf t n).balance = (unitOf u n).credits ∧
          (unitOf t n).allowance = (if (unitOf u n).exc then 64 else 0))) ∧
      (windowDue u n = false → u.tim.servo.valid = false → (unitOf u n).refills < refillsDue u →
        Completes (.slotWindowStart dt n) s fun t =>
          (unitOf t n).balance = (unitOf u n).credits ∧ (unitOf t n).allowance = (if (unitOf u n).exc then 64 else 0) ∧
          (unitOf t n).heard = (unitOf u n).heard) ∧
      (windowDue u n = false → (u.tim.servo.valid = true ∨ refillsDue u ≤ (unitOf u n).refills) →
        Completes (.slotWindowStart dt n) s fun t => t = u)) ∧
    ((collectorRuns u = false ∨ n = 0 ∨ 4095 < n) → Completes (.slotWindowStart dt n) s fun t => t = u) ∧
    ((unitOf u n).throttled = some x → passed u x (600 * tickS) = true → Completes (.throttleExpiry dt n) s fun t =>
      (unitOf t n).throttled = none ∧ (unitOf t n).balance = (unitOf u n).balance) ∧
    (((unitOf u n).throttled = none ∨ (unitOf u n).throttled = some x ∧ passed u x (600 * tickS) = false) →
      Completes (.throttleExpiry dt n) s fun t => t = u) ∧
    ((unitOf u n).enable = true → (unitOf u n).silent = false → windowMissed u (unitOf u n) = true →
      u.pts.missLimit ≤ (unitOf u n).missed + 1 → Completes (.unitSilent dt n) s fun t =>
        unitState (unitOf t n) = 3 ∧ t.pts.flags.getLsbD 4 = true) ∧
    (((unitOf u n).enable = false ∨ (unitOf u n).silent = true ∨ windowMissed u (unitOf u n) = false ∨
        (unitOf u n).missed + 1 < u.pts.missLimit) → Completes (.unitSilent dt n) s fun t => t = u) ∧
    (pd u 8 = true → u.pts.running = true → uppBound u h.port = true → h.ipv6 = true →
      (h.finished = false → h.cookie = false → Completes (.uppClientHello dt h) s fun t =>
        .helloRetry ∈ sentSince u t ∧ t.pts = u.pts) ∧
      (h.finished = false → h.cookie = true → u.pts.handshakes.contains h.client = false →
        u.pts.handshakes.length < 64 → Completes (.uppClientHello dt h) s fun t =>
          t = { u with pts := { u.pts with handshakes := u.pts.handshakes ++ [h.client] } }) ∧
      (h.finished = false → h.cookie = true →
        (u.pts.handshakes.contains h.client = true ∨ 64 ≤ u.pts.handshakes.length) →
        Completes (.uppClientHello dt h) s fun t => t = u) ∧
      (h.finished = true → u.pts.handshakes.contains h.client = true → h.unit = some v →
        (uppKnown u h = true → 1 ≤ v → v ≤ 4095 → Completes (.uppClientHello dt h) s fun t =>
          t.pts.assocs.contains v = true ∧ h.client ∉ t.pts.handshakes ∧ .uppHandshake v true ∈ sentSince u t) ∧
        ((uppKnown u h = false ∨ v = 0 ∨ 4095 < v) → Completes (.uppClientHello dt h) s fun t =>
          t.pts.assocs = u.pts.assocs ∧ h.client ∉ t.pts.handshakes ∧ .uppHandshake v false ∈ sentSince u t)) ∧
      (h.finished = true → u.pts.handshakes.contains h.client = false → Completes (.uppClientHello dt h) s fun t =>
        t = u)) ∧
    (pd u 8 = true → u.pts.running = true → uppBound u h.port = true → h.ipv6 = false →
      Completes (.uppClientHello dt h) s fun t => t = { u with pts := { u.pts with authFail := u.pts.authFail + 1 } }) ∧
    (pd u 8 = true → u.pts.running = true → uppBound u h.port = false → Completes (.uppClientHello dt h) s fun t =>
      (netPort t h.port).unbound = (netPort u h.port).unbound + 1 ∧ t.pts = u.pts) ∧
    ((pd u 8 = false ∨ u.pts.running = false) → Completes (.uppClientHello dt h) s fun t => t = u)

/-- PTS_DECLARE declares in order and returns the resident count, ST_NO_SPACE beyond the limit; PTS_READ returns point
records by identifier, PTS_SNAPSHOT those of consecutive positions, to host memory; PTS_WRITE writes host values of
resident points; PTS_UNIT_SET and PTS_UNIT_STATUS set and read a unit. A count of 0 gets ST_COUNT, values out of
range ST_OUT_OF_RANGE (R36, R167, R188 to R191). -/
def Obligations.PointsAreCommanded : Prop :=
  ∀ (s u : State) (dt n : Nat) (c : Cmd) (call : Call) (p : Bytes) (db : Table Point), u = s.elapse dt → p = call.payload →
    (Accepted rowPtsDeclare c u call → n = u32 p 0 → p.length = 4 + 16 * n →
      (1 ≤ n → 4 ≤ call.cap → (rowsOf p 4 16 n).all declOk = true →
        (declareAll u.pts.points (rowsOf p 4 16 n) = some db → Completes (.ptsDeclare dt c) s fun t =>
          t.pts.points = db ∧ Answered rowPtsDeclare c call u t stOk (le32 db.length)) ∧
        (declareAll u.pts.points (rowsOf p 4 16 n) = none → Completes (.ptsDeclare dt c) s fun t =>
          t.pts = u.pts ∧ Failed rowPtsDeclare c u t stNoSpace)) ∧
      (1 ≤ n → 4 ≤ call.cap → (rowsOf p 4 16 n).all declOk = false → Completes (.ptsDeclare dt c) s fun t =>
        t.pts = u.pts ∧ Failed rowPtsDeclare c u t stOutOfRange) ∧
      (n = 0 → Completes (.ptsDeclare dt c) s fun t => t.pts = u.pts ∧ Failed rowPtsDeclare c u t stCount)) ∧
    (Accepted rowPtsRead c u call → n = u32 p 0 → p.length = 4 + 4 * n →
      (1 ≤ n → 8 + 64 * n ≤ call.cap → (∀ b ∈ rowsOf p 4 4 n, u32 b 0 < 2 ^ 28) →
        Completes (.ptsRead dt c) s fun t => t.pts = u.pts ∧
          Answered rowPtsRead c call u t stOk (le32 n ++ le32 0 ++ ((rowsOf p 4 4 n).map (fun b => u32 b 0)).flatMap
            (fun i => pointRecord (servoNs u) i (findPoint u i)))) ∧
      (1 ≤ n → 8 + 64 * n ≤ call.cap → (∃ b ∈ rowsOf p 4 4 n, 2 ^ 28 ≤ u32 b 0) →
        Completes (.ptsRead dt c) s fun t => t.pts = u.pts ∧ Failed rowPtsRead c u t stOutOfRange) ∧
      (n = 0 → Completes (.ptsRead dt c) s fun t => t.pts = u.pts ∧ Failed rowPtsRead c u t stCount)) ∧
    (Accepted rowPtsWrite c u call → n = u32 p 0 → p.length = 4 + 16 * n →
      (1 ≤ n → (rowsOf p 4 16 n).all (writeOk u) = true → Completes (.ptsWrite dt c) s fun t =>
        t.pts.points = (rowsOf p 4 16 n).foldl (hostWrite (servo u) (now u)) u.pts.points ∧
        Answered rowPtsWrite c call u t stOk []) ∧
      (1 ≤ n → (rowsOf p 4 16 n).all (writeOk u) = false → Completes (.ptsWrite dt c) s fun t =>
        t.pts = u.pts ∧ Failed rowPtsWrite c u t stOutOfRange) ∧
      (n = 0 → Completes (.ptsWrite dt c) s fun t => t.pts = u.pts ∧ Failed rowPtsWrite c u t stCount)) ∧
    (Accepted rowPtsSnapshot c u call → p.length = 8 → n = u32 p 4 →
      (call.dmaOut = true → 1 ≤ n → u32 p 0 + n ≤ pointLimit → 64 * n ≤ call.cap → Completes (.ptsSnapshot dt c) s fun t =>
        t.pts = u.pts ∧ (∀ x ∈ scatter call.out ((List.range n).flatMap (fun i => positionRecord u (u32 p 0 + i))),
          x ∈ sentSince u t)) ∧
      (call.dmaOut = true → (n = 0 ∨ pointLimit < u32 p 0 + n) → Completes (.ptsSnapshot dt c) s fun t =>
        t.pts = u.pts ∧ Failed rowPtsSnapshot c u t stCount) ∧
      (call.dmaOut = false → Completes (.ptsSnapshot dt c) s fun t =>
        t.pts = u.pts ∧ Failed rowPtsSnapshot c u t stLength)) ∧
    (Accepted rowPtsUnitSet c u call → p.length = 8 →
      (1 ≤ u16 p 0 → u16 p 0 ≤ 4095 → u32 p 4 < 8 → Completes (.ptsUnitSet dt c) s fun t =>
        (unitOf t (u16 p 0)).credits = u16 p 2 ∧ (unitOf t (u16 p 0)).enable = (u32 p 4).testBit 0 ∧
        (unitOf t (u16 p 0)).exc = (u32 p 4).testBit 1 ∧ (unitOf t (u16 p 0)).anySlot = (u32 p 4).testBit 2 ∧
        (unitOf t (u16 p 0)).balance = (unitOf u (u16 p 0)).balance ∧ Answered rowPtsUnitSet c call u t stOk []) ∧
      ((u16 p 0 = 0 ∨ 4095 < u16 p 0 ∨ 8 ≤ u32 p 4) → Completes (.ptsUnitSet dt c) s fun t =>
        t.pts = u.pts ∧ Failed rowPtsUnitSet c u t stOutOfRange)) ∧
    (Accepted rowPtsUnitStatus c u call → p.length = 4 → 64 ≤ call.cap →
      (1 ≤ u16 p 0 → u16 p 0 ≤ 4095 → u16 p 2 = 0 → Completes (.ptsUnitStatus dt c) s fun t =>
        t.pts = u.pts ∧ Answered rowPtsUnitStatus c call u t stOk (unitRecord u (u16 p 0))) ∧
      ((u16 p 0 = 0 ∨ 4095 < u16 p 0 ∨ u16 p 2 ≠ 0) → Completes (.ptsUnitStatus dt c) s fun t =>
        t.pts = u.pts ∧ Failed rowPtsUnitStatus c u t stOutOfRange))

/-- CRS_BEGIN opens a load in place of the session's earlier one; CRS_DATA stages bytes and notes their blocks;
CRS_COMMIT whose checks pass makes the course pending; CRS_DROP empties the partition; CRS_INFO reports it. A load
of another session is ST_BUSY with its holder; a session without a load, fields out of range, data of another size,
no space, or a check of R210 refuse and change no course. A pending course becomes resident when no job of the
partition runs, the kept iterate is marked as the replaced course's, and on partition 1 another signature makes the
island policy stale; delta lists held for the partition follow it. Nothing else is swapped (R207 to R213). CRS_DELTA
applies its whole list to the resident course, and records a cost list of partition 1 for the replay; a wrong count,
a partition without a course, another signature or an entry out of range refuse the whole list. PART_SET gives the
partitions their reaches, unless a course would not fit. In ISLAND with the ring frozen, the recorded list that is
due first is applied again and counted, one of another structure only counted; nothing is done before (R214 to R216,
R223, R275). -/
def Obligations.CoursesAreLoadedAndDeltasApplied : Prop :=
  (∀ (s u : State) (dt n q own : Nat) (c : Cmd) (call : Call) (p : Bytes) (l : CourseLoad) (x : Course) (h : Word),
    u = s.elapse dt → p = call.payload → q = u8 p 0 → own = ((ownLoad u q call.sid).map (·.bytes)).getD 0 →
    (Accepted rowCrsBegin c u call → p.length = 24 →
      (q ≤ 1 → slice p 1 3 = zeros 3 → 1 ≤ u32 p 4 → u32 p 4 % 1048576 = 0 → u32 p 4 ≤ 2147483648 →
        (loadElsewhere u q call.sid = none → areaUsed u - own + u32 p 4 ≤ areaBytes → Completes (.crsBegin dt c) s fun t =>
          (coursesOf t q).load = some
            { sid := call.sid, bytes := u32 p 4, signature := slice p 8 16, image := [], blocks := [] } ∧
          (coursesOf t q).resident = (coursesOf u q).resident ∧ (coursesOf t q).coming = (coursesOf u q).coming ∧
          (∀ k, k ≠ q → coursesOf t k = coursesOf u k) ∧ ((ownLoad u q call.sid).isSome = true → Raised 45 t) ∧
          Answered rowCrsBegin c call u t stOk []) ∧
        (loadElsewhere u q call.sid = none → areaBytes < areaUsed u - own + u32 p 4 →
          Completes (.crsBegin dt c) s fun t => t.courses = u.courses ∧ Failed rowCrsBegin c u t stNoSpace) ∧
        (loadElsewhere u q call.sid = some h → Completes (.crsBegin dt c) s fun t =>
          t.courses = u.courses ∧ replyTo rowCrsBegin c stBusy (holderBytes u h) ∈ sentSince u t)) ∧
      ((1 < q ∨ slice p 1 3 ≠ zeros 3 ∨ u32 p 4 = 0 ∨ u32 p 4 % 1048576 ≠ 0 ∨ 2147483648 < u32 p 4) →
        Completes (.crsBegin dt c) s fun t => t.courses = u.courses ∧ Failed rowCrsBegin c u t stOutOfRange)) ∧
    (Accepted rowCrsData c u call →
      (4 < p.length → (p.length - 4) % 64 = 0 → loadPartition u call.sid = some n → (coursesOf u n).load = some l →
        (u32 p 0 % 64 = 0 → u32 p 0 + (p.length - 4) ≤ l.bytes → Completes (.crsData dt c) s fun t =>
          (coursesOf t n).load = some { l with
            image := memStore l.image (u32 p 0) (p.drop 4)
            blocks := (List.range ((p.length - 4) / 64)).foldl (fun t i => insertRising (u32 p 0 / 64 + i) t) l.blocks } ∧
          (coursesOf t n).resident = (coursesOf u n).resident ∧ Answered rowCrsData c call u t stOk []) ∧
        ((u32 p 0 % 64 ≠ 0 ∨ l.bytes < u32 p 0 + (p.length - 4)) → Completes (.crsData dt c) s fun t =>
          t.courses = u.courses ∧ Failed rowCrsData c u t stOutOfRange)) ∧
      (4 < p.length → (p.length - 4) % 64 = 0 → loadPartition u call.sid = none → Completes (.crsData dt c) s fun t =>
        t.courses = u.courses ∧ Failed rowCrsData c u t stNotFound) ∧
      ((p.length ≤ 4 ∨ (p.length - 4) % 64 ≠ 0) → Completes (.crsData dt c) s fun t =>
        t.courses = u.courses ∧ Failed rowCrsData c u t stLength)) ∧
    (Accepted rowCrsCommit c u call → p.length = 4 →
      (q ≤ 1 → slice p 1 3 = zeros 3 → loadElsewhere u q call.sid = none → ownLoad u q call.sid = some l →
        (commitCheck u q l = none → 4 ≤ call.cap → Completes (.crsCommit dt c) s fun t =>
          (coursesOf t q).coming = some { bytes := l.bytes, image := l.image } ∧
          (coursesOf t q).load = none ∧ (coursesOf t q).resident = (coursesOf u q).resident ∧
          Answered rowCrsCommit c call u t stOk (le32 (hSections l.image))) ∧
        (∀ st, commitCheck u q l = some st → Completes (.crsCommit dt c) s fun t =>
          t.courses = u.courses ∧ Failed rowCrsCommit c u t st)) ∧
      (q ≤ 1 → slice p 1 3 = zeros 3 → loadElsewhere u q call.sid = none → ownLoad u q call.sid = none →
        Completes (.crsCommit dt c) s fun t => t.courses = u.courses ∧ Failed rowCrsCommit c u t stNotFound) ∧
      (q ≤ 1 → slice p 1 3 = zeros 3 → loadElsewhere u q call.sid = some h → Completes (.crsCommit dt c) s fun t =>
        t.courses = u.courses ∧ replyTo rowCrsCommit c stBusy (holderBytes u h) ∈ sentSince u t) ∧
      ((1 < q ∨ slice p 1 3 ≠ zeros 3) → Completes (.crsCommit dt c) s fun t =>
        t.courses = u.courses ∧ Failed rowCrsCommit c u t stOutOfRange)) ∧
    (Accepted rowCrsDrop c u call → p.length = 4 →
      (q ≤ 1 → slice p 1 3 = zeros 3 → loadElsewhere u q call.sid = none → Completes (.crsDrop dt c) s fun t =>
        coursesOf t q = {} ∧ (∀ k, k ≠ q → coursesOf t k = coursesOf u k) ∧ Answered rowCrsDrop c call u t stOk []) ∧
      (q ≤ 1 → slice p 1 3 = zeros 3 → loadElsewhere u q call.sid = some h → Completes (.crsDrop dt c) s fun t =>
        t.courses = u.courses ∧ replyTo rowCrsDrop c stBusy (holderBytes u h) ∈ sentSince u t) ∧
      ((1 < q ∨ slice p 1 3 ≠ zeros 3) → Completes (.crsDrop dt c) s fun t =>
        t.courses = u.courses ∧ Failed rowCrsDrop c u t stOutOfRange)) ∧
    (Accepted rowCrsInfo c u call → p.length = 4 → 176 ≤ call.cap →
      (q ≤ 1 → slice p 1 3 = zeros 3 → Completes (.crsInfo dt c) s fun t =>
        t.courses = u.courses ∧ Answered rowCrsInfo c call u t stOk (courseInfo (coursesOf u q))) ∧
      ((1 < q ∨ slice p 1 3 ≠ zeros 3) → Completes (.crsInfo dt c) s fun t =>
        t.courses = u.courses ∧ Failed rowCrsInfo c u t stOutOfRange)) ∧
    (swapDue u n = true → (coursesOf u n).coming = some x → Completes (.courseSwap dt n) s fun t =>
      (coursesOf t n).coming = none ∧ (residentCourse t n).map (·.bytes) = some x.bytes ∧
      (u.brd.held = [] → residentCourse t n = some x) ∧ Raised 44 t ∧
      (tfind t.slv.kept n).map (·.replaced) = (tfind u.slv.kept n).map (fun _ => true) ∧
      (∀ o, n = 1 → residentCourse u 1 = some o → hSignature o.image ≠ hSignature x.image →
        t.policy = u.policy.map (fun y => { y with stale := true }))) ∧
    (swapDue u n = false → Completes (.courseSwap dt n) s fun t => t = flushBoth u)) ∧
  (∀ (s u : State) (dt q k i : Nat) (c : Cmd) (call : Call) (p : Bytes) (r : Course) (f : Forecast),
    u = s.elapse dt → p = call.payload → q = u8 p 0 → k = u32 p 20 →
    (Accepted rowCrsDelta c u call → 24 ≤ p.length → (p.length - 24) % 16 = 0 →
      (1 ≤ k → p.length = 24 + 16 * k → q ≤ 1 → u8 p 1 ≤ 5 → u16 p 2 = 0 →
        (residentCourse u q = some r → slice p 4 16 = hSignature r.image → k ≤ matrixEntries r.image (u8 p 1) →
          ((rowsOf p 24 16 k).all (deltaOk r.image (u8 p 1)) = true → Completes (.crsDelta dt c) s fun t =>
            (residentCourse t q).map (·.image) = some ((rowsOf p 24 16 k).foldl (applyDelta (u8 p 1)) r.image) ∧
            t.pln.ring = (if q = 1 ∧ u8 p 1 = 2 ∧ u.pln.frozen = false
              then dropOldest (dropAged u (u.pln.ring ++ [{ payload := p, time := servoNs u, days := 0 }]))
              else u.pln.ring) ∧ Answered rowCrsDelta c call u t stOk []) ∧
          ((rowsOf p 24 16 k).all (deltaOk r.image (u8 p 1)) = false → Completes (.crsDelta dt c) s fun t =>
            t.courses = u.courses ∧ Failed rowCrsDelta c u t stOutOfRange)) ∧
        (residentCourse u q = some r → slice p 4 16 = hSignature r.image → matrixEntries r.image (u8 p 1) < k →
          Completes (.crsDelta dt c) s fun t => t.courses = u.courses ∧ Failed rowCrsDelta c u t stDeltaCount) ∧
        (residentCourse u q = some r → slice p 4 16 ≠ hSignature r.image → Completes (.crsDelta dt c) s fun t =>
          t.courses = u.courses ∧ Failed rowCrsDelta c u t stStructure) ∧
        (residentCourse u q = none → Completes (.crsDelta dt c) s fun t =>
          t.courses = u.courses ∧ Failed rowCrsDelta c u t stNotFound)) ∧
      (1 ≤ k → p.length = 24 + 16 * k → (1 < q ∨ 5 < u8 p 1 ∨ u16 p 2 ≠ 0) → Completes (.crsDelta dt c) s fun t =>
        t.courses = u.courses ∧ Failed rowCrsDelta c u t stOutOfRange) ∧
      ((k = 0 ∨ k ≠ (p.length - 24) / 16) → Completes (.crsDelta dt c) s fun t =>
        t.courses = u.courses ∧ Failed rowCrsDelta c u t stDeltaCount)) ∧
    (Accepted rowPartSet c u call → p.length = 4 →
      (q ≤ 64 → slice p 1 3 = zeros 3 → reachesClash u q 0 = false → reachesClash u q 1 = false →
        Completes (.partSet dt c) s fun t =>
          t.slv.reaches = q ∧ t.courses = u.courses ∧ Answered rowPartSet c call u t stOk []) ∧
      ((64 < q ∨ slice p 1 3 ≠ zeros 3 ∨ reachesClash u q 0 = true ∨ reachesClash u q 1 = true) →
        Completes (.partSet dt c) s fun t => t.slv = u.slv ∧ Failed rowPartSet c u t stOutOfRange)) ∧
    (u.sys.mode = .island → u.pln.frozen = true → u.pln.ring[i]? = some f → replayAt f ≤ servoNs u →
      (∀ j g, u.pln.ring[j]? = some g → replayAt g ≤ servoNs u →
        replayAt f < replayAt g ∨ replayAt f = replayAt g ∧ i ≤ j) →
      (u8 f.payload 0 = 1 → residentCourse u 1 = some r → slice f.payload 4 16 = hSignature r.image →
        Completes (.forecastReplay dt) s fun t =>
          t.pln.ring = u.pln.ring.modify i (fun g => { g with days := g.days + 1 }) ∧
          (residentCourse t 1).map (·.image) =
            some ((rowsOf f.payload 24 16 (u32 f.payload 20)).foldl (applyDelta (u8 f.payload 1)) r.image)) ∧
      ((residentCourse u 1 = none ∨ residentCourse u 1 = some r ∧ slice f.payload 4 16 ≠ hSignature r.image) →
        Completes (.forecastReplay dt) s fun t =>
          t.pln.ring = u.pln.ring.modify i (fun g => { g with days := g.days + 1 }) ∧ t.courses = u.courses)) ∧
    ((u.sys.mode ≠ .island ∨ u.pln.frozen = false ∨ ∀ g ∈ u.pln.ring, servoNs u < replayAt g) →
      Completes (.forecastReplay dt) s fun t => t = u))

/-- JOB_SET takes a record, whose PERIOD instants count on from now; PLAN's makes the island policy stale. JOB_RUN, a
PERIOD instant and an EVENT condition each create a job with the next number on an idle partition, with its deadline
and T0; on a busy one a PERIOD trigger is skipped and counted, and the others wait, or merge into the job that
waits, with the earlier deadline. Without a resident course nothing starts, and no PLAN does without an estimate fit
for planning, which sets UNFIT; JOB_RUN gets ST_NOT_FOUND then. A waiting job starts on an idle partition, or a PLAN
without such an estimate is withdrawn. Fields out of range get ST_OUT_OF_RANGE; a trigger that is not due or that
the mode does not honour does nothing. A handover under way holds triggers back (R250 to R255, R274, R366). -/
def Obligations.JobsAreTriggered : Prop :=
  ∀ (s u v : State) (dt b n m num : Nat) (c : Cmd) (call : Call) (p : Bytes) (j w : Job) (plan : Bool) (x : Ts)
      (d : Option Nat), u = s.elapse dt → v = noteLow u → p = call.payload → n = partitionOf plan → x = tsField p 4 →
    d = (if x.valid = true then some (tsNs x) else none) →
    num = (if u.pln.next = 2 ^ 32 - 1 then 1 else u.pln.next + 1) →
    (Accepted rowJobSet c u call → p.length = 156 →
      (u8 p 0 = bit plan → slice p 1 3 = zeros 3 → recordOk plan (p.drop 4) = true → Completes (.jobSet dt c) s fun t =>
        recordOf t plan = p.drop 4 ∧ recordOf t (!plan) = recordOf u (!plan) ∧ effectOf t plan = effectOf u plan ∧
        (plan = true → t.policy = u.policy.map (fun y => { y with stale := true })) ∧
        Answered rowJobSet c call u t stOk []) ∧
      ((1 < u8 p 0 ∨ slice p 1 3 ≠ zeros 3 ∨ recordOk (decide (u8 p 0 = 1)) (p.drop 4) = false) →
        Completes (.jobSet dt c) s fun t => t.pln = u.pln ∧ Failed rowJobSet c u t stOutOfRange)) ∧
    (Accepted rowJobRun c u call → p.length = 20 →
      (u8 p 0 = bit plan → slice p 1 3 = zeros 3 → u8 p 19 ≤ 1 → (x.valid = true → x.view = 1) →
        ((residentCourse u n).isSome = true → (plan = true → fitNow u = true) → 4 ≤ call.cap →
          (tfind u.pln.waiting n = none → runningOf u n = none → Completes (.jobRun dt c) s fun t =>
            runningOf t n = some {
              job := ⟨u.pln.next, plan, .run, d, referenceTime u plan (servoNs u)⟩
              record := recordOf u plan, phase := 1 } ∧
            t.pln.next = num ∧ Answered rowJobRun c call u t stOk (le32 u.pln.next)) ∧
          (tfind u.pln.waiting n = none → (runningOf u n).isSome = true → Completes (.jobRun dt c) s fun t =>
            tfind t.pln.waiting n = some ⟨u.pln.next, plan, .run, d, referenceTime u plan (servoNs u)⟩ ∧
            t.slv.running = u.slv.running ∧
            t.pln.next = num ∧ Answered rowJobRun c call u t stOk (le32 u.pln.next)) ∧
          (tfind u.pln.waiting n = some w → Completes (.jobRun dt c) s fun t =>
            tfind t.pln.waiting n = some { w with deadline := earlier w.deadline d } ∧
            t.slv.running = u.slv.running ∧ t.pln.next = u.pln.next ∧
            Answered rowJobRun c call u t stOk (le32 w.number))) ∧
        ((residentCourse u n = none ∨ plan = true ∧ fitNow u = false) → Completes (.jobRun dt c) s fun t =>
          t.pln = u.pln ∧ t.slv = u.slv ∧ Failed rowJobRun c u t stNotFound)) ∧
      ((1 < u8 p 0 ∨ slice p 1 3 ≠ zeros 3 ∨ 1 < u8 p 19 ∨ x.valid = true ∧ x.view ≠ 1) →
        Completes (.jobRun dt c) s fun t => t.pln = u.pln ∧ t.slv = u.slv ∧ Failed rowJobRun c u t stOutOfRange)) ∧
    (honoursPeriod u.sys.mode plan = true → periodDue u plan = true →
      (residentCourse u n ≠ none → u.brd.givingUp = false → (plan = true → fitNow u = true) →
        (runningOf u n = none → tfind u.pln.waiting n = none → Completes (.periodTrigger dt n) s fun t =>
          runningOf t n = some {
            job := ⟨u.pln.next, plan, .period, some (periodInstant u plan + recDeadline (recordOf u plan) * 1000000),
              referenceTime u plan (periodInstant u plan)⟩
            record := recordOf u plan, phase := 1 } ∧
          t.pln.next = num ∧ t.pln.skipE = u.pln.skipE ∧ t.pln.skipP = u.pln.skipP ∧
          tfind t.pln.periods n = some (u.tim.servo.valid, periodIndex u plan)) ∧
        ((runningOf u n ≠ none ∨ tfind u.pln.waiting n ≠ none) → Completes (.periodTrigger dt n) s fun t =>
          t.slv.running = u.slv.running ∧ t.pln.next = u.pln.next ∧ t.pln.flags.getLsbD 2 = true ∧
          t.pln.skipP = (if plan then u.pln.skipP + 1 else u.pln.skipP) ∧
          t.pln.skipE = (if plan then u.pln.skipE else u.pln.skipE + 1) ∧
          tfind t.pln.periods n = some (u.tim.servo.valid, periodIndex u plan))) ∧
      ((residentCourse u n = none ∨ u.brd.givingUp = true) → Completes (.periodTrigger dt n) s fun t =>
        t.slv = u.slv ∧ t.pln.next = u.pln.next ∧ t.pln.flags = u.pln.flags ∧
        tfind t.pln.periods n = some (u.tim.servo.valid, periodIndex u plan)) ∧
      (residentCourse u n ≠ none → u.brd.givingUp = false → plan = true → fitNow u = false →
        Completes (.periodTrigger dt n) s fun t => t.slv = u.slv ∧ t.pln.next = u.pln.next ∧
          t.pln.flags.getLsbD 0 = true ∧ tfind t.pln.periods n = some (u.tim.servo.valid, periodIndex u plan))) ∧
    ((honoursPeriod u.sys.mode plan = false ∨ periodDue u plan = false) →
      Completes (.periodTrigger dt n) s fun t => t = u) ∧
    (2 ≤ m → Completes (.periodTrigger dt m) s fun t => t = u) ∧
    (v.pln.events.getLsbD b = true → honoursEvent u = true → gapOver u = true → u.brd.givingUp = false →
      (residentCourse u 1 ≠ none → fitNow u = true →
        (tfind u.pln.waiting 1 = none → runningOf u 1 = none → Completes (.eventTrigger dt b) s fun t =>
          runningOf t 1 = some {
            job := ⟨u.pln.next, true, .event, some (servoNs u + recDeadline (recordOf u true) * 1000000),
              referenceTime u true (servoNs u)⟩
            record := recordOf u true, phase := 1 } ∧
          t.pln.events = 0 ∧ t.pln.next = num) ∧
        (tfind u.pln.waiting 1 = none → runningOf u 1 ≠ none → Completes (.eventTrigger dt b) s fun t =>
          tfind t.pln.waiting 1 = some ⟨u.pln.next, true, .event,
            some (servoNs u + recDeadline (recordOf u true) * 1000000), referenceTime u true (servoNs u)⟩ ∧ t.slv = u.slv ∧ t.pln.events = 0 ∧ t.pln.next = num) ∧
        (tfind u.pln.waiting 1 = some w → Completes (.eventTrigger dt b) s fun t =>
          tfind t.pln.waiting 1 = some { w with
            deadline := earlier w.deadline (some (servoNs u + recDeadline (recordOf u true) * 1000000)) } ∧
          t.slv = u.slv ∧ t.pln.events = 0 ∧ t.pln.next = u.pln.next)) ∧
      (residentCourse u 1 = none → Completes (.eventTrigger dt b) s fun t =>
        t = { v with pln := { v.pln with events := 0 } }) ∧
      (residentCourse u 1 ≠ none → fitNow u = false → Completes (.eventTrigger dt b) s fun t =>
        t.slv = u.slv ∧ t.pln.events = 0 ∧ t.pln.next = u.pln.next ∧ t.pln.flags.getLsbD 0 = true)) ∧
    ((v.pln.events.getLsbD b = false ∨ honoursEvent u = false ∨ gapOver u = false ∨ u.brd.givingUp = true) →
      Completes (.eventTrigger dt b) s fun t => t = v) ∧
    (tfind u.pln.waiting n = some j → runningOf u n = none → swapDue u n = false → u.brd.givingUp = false →
      ((j.plan = true → fitNow u = true) → Completes (.pendingJobStart dt n) s fun t =>
        runningOf t n = some { job := j, record := recordOf u j.plan, phase := 1 } ∧ tfind t.pln.waiting n = none) ∧
      (j.plan = true → fitNow u = false → Completes (.pendingJobStart dt n) s fun t =>
        t.slv = u.slv ∧ tfind t.pln.waiting n = none ∧ t.pln.flags.getLsbD 0 = true ∧ Raised 57 t ∧
        t.pln.results.getLast? = some {
          job := j.number, plan := true, status := stNotFound, warm := 0, iterations := 0
          replaced := 0, pivots := [], hash := [], withdrawn := true })) ∧
    ((tfind u.pln.waiting n = none ∨ runningOf u n ≠ none ∨ swapDue u n = true ∨ u.brd.givingUp = true) →
      Completes (.pendingJobStart dt n) s fun t => t = u)

/-- A created job that nothing holds back starts on the woken fabric from the iterate that R264 gives it, with the
values resident then, when its work area is free; it waits for the area otherwise, ends where its deadline has
passed, and is refused with ST_NO_LINEAGE where R264 has no row. The end of an iteration lets every step of it that
can run do so: a completed one gives the next iterate, on which the tests of R246 are taken; a numeric fault or a
double-bit pool error ends the job. A deadline ends it with the status that where it stood gives, and a schedule
that can go no further with ST_NUMERIC and STALL. Where the job is not there, is not iterating, has ended or its
time has not come, nothing changes, but that delta lists which a pair's half holds back follow a start that is no
longer to come (R221, R225, R227, R230, R242, R244, R246, R264, R367). -/
def Obligations.JobsRunOnTheFabric : Prop :=
  ∀ (s u v y : State) (dt p : Nat) (m w : Memory) (r q : Running) (basis : Option Kept) (flags : Half) (h record : Bytes)
      (wide : Bool) (e : Option Estimate) (f : FabricNotes), u = s.elapse dt →
    v = endFaulty p (fabricSteps p (iterationSteps r) (fabricNotes f u)) →
    y = endFaulty p (fabricSteps p (iterationSteps r) u) →
    record = (if r.job.trigger = .partner then r.record else recordOf u r.job.plan) →
    wide = (!r.job.plan && (if r.job.trigger = .partner then r.wide else runsWide m record r.job.trigger)) →
    w = (if r.job.plan then (e.map (fun x => (initialise x m).1)).getD m else m) →
    (mayStart u p r = true → runningOf u p = some r → (residentCourse u p).map (·.image) = some m →
      (startRow m record (tfind u.slv.kept p) (tget u.slv.refused p false) = some (basis, flags, h) →
        (deadlinePassed u (r.job.deadline.map (counterAt u)) = false → workNeed m ≤ workFree u →
          e = estimateNumbered u (((startEstimate u r).map (fun x => x.job.toNat)).getD 0) →
          Completes (.jobStart dt p) s fun t =>
            pd t 6 = true ∧ t.pmu.lock.getLsbD 0 = true ∧
            ((runningOf t p).map (fun x => (x.job, x.record, x.wide, x.phase, x.since, x.mib))) =
              some (r.job, record, wide, 3, now u, workNeed m) ∧
            ((runningOf t p).map (fun x => (x.work, x.iterate, x.startHash))) =
              some (w, startFrom w r.job.plan r.job.t0 basis, h) ∧
            (∀ x, p = 0 → wide = true → runningOf u 1 = some x → x.phase = 3 → x.ended = none →
              (runningOf t 1).map (·.phase) = some 9)) ∧
        (deadlinePassed u (r.job.deadline.map (counterAt u)) = false → workFree u < workNeed m →
          Completes (.jobStart dt p) s fun t => t.slv.flags.getLsbD 2 = true ∧
            ((runningOf t p).map (fun x => (x.job, x.record, x.phase, x.basis, x.mib))) =
              some (r.job, record, 10, basis, r.mib)) ∧
        (deadlinePassed u (r.job.deadline.map (counterAt u)) = true → Completes (.jobStart dt p) s fun t =>
          ((runningOf t p).map (fun x => (x.job, x.phase, x.ended))) = some (r.job, 8, some stDeadlineBetween))) ∧
      (startRow m record (tfind u.slv.kept p) (tget u.slv.refused p false) = none → Completes (.jobStart dt p) s fun t =>
        runningOf t p = none ∧ t.slv.kept = u.slv.kept ∧ tget t.slv.refused p false = true ∧
        t.pln.flags.getLsbD (if r.job.plan then 1 else 0) = true ∧ Raised (if r.job.plan then 57 else 56) t ∧
        t.pln.results.getLast? = some {
          job := r.job.number, plan := r.job.plan, status := stNoLineage, warm := 0
          iterations := 0, replaced := 0, pivots := [], hash := zeros 48, withdrawn := false })) ∧
    ((runningOf u p = none ∨ residentCourse u p = none ∨ runningOf u p = some r ∧ mayStart u p r = false) →
      Completes (.jobStart dt p) s fun t => t = flushHeld p u) ∧
    (runningOf u p = some r → (residentCourse u p).map (·.image) = some m → r.phase = 10 → r.ended = none →
      u.pmu.fabBarred = false → workNeed m ≤ workFree u → e = estimateNumbered u r.estimate →
      Completes (.workAreaAvailable dt p) s fun t => pd t 6 = true ∧
        ((runningOf t p).map (fun x => (x.job, x.phase, x.mib, x.work, x.iterate))) =
          some (r.job, 3, workNeed m, w, startFrom w r.job.plan r.job.t0 r.basis)) ∧
    ((runningOf u p = none ∨ residentCourse u p = none ∨ runningOf u p = some r ∧ (r.phase ≠ 10 ∨ r.ended ≠ none ∨
        u.pmu.fabBarred = true ∨ (residentCourse u p).map (·.image) = some m ∧ workFree u < workNeed m)) →
      Completes (.workAreaAvailable dt p) s fun t => t = flushHeld p u) ∧
    (runningOf u p = some r → iterating u r = true → paced r = true → tooLate u r = false →
      (f.doubleEcc = false → runningOf v p = some q → q.ended = none → q.fab.stage = .done →
        Completes (.jobIterationEnd dt p f) s fun t =>
          ((runningOf t p).map (fun x => (x.iterations, x.iterate, x.prior, x.ended))) =
            some (q.iterations + 1, q.fab.next, q.iterate, testsOf v (settlePivots q) q.fab.next (q.iterations + 1))) ∧
      (f.doubleEcc = false → runningOf v p = some q → (q.ended ≠ none ∨ q.fab.stage ≠ .done) →
        Completes (.jobIterationEnd dt p f) s fun t => t = v ∧ (q.ended ≠ none → q.ended = some stNumeric)) ∧
      (f.doubleEcc = true → Completes (.jobIterationEnd dt p f) s fun t =>
        runningOf t p = some { settlePivots r with ended := some stNumeric, phase := 8 } ∧
        t.slv.flags.getLsbD 4 = true)) ∧
    ((runningOf u p = none ∨ runningOf u p = some r ∧ (iterating u r = false ∨ paced r = false ∨ tooLate u r = true)) →
      Completes (.jobIterationEnd dt p f) s fun t => t = u) ∧
    (runningOf u p = some r → r.phase ≠ 1 → r.ended = none → deadlinePassed u r.d = true →
      Completes (.jobDeadline dt p) s fun t => runningOf t p = some { settlePivots r with
        ended := some (if r.phase ≠ 10 ∧ inFactor r = true then stDeadlineInFactor else stDeadlineBetween), phase := 8 }) ∧
    ((runningOf u p = none ∨ runningOf u p = some r ∧ (r.phase = 1 ∨ r.ended ≠ none ∨ deadlinePassed u r.d = false)) →
      Completes (.jobDeadline dt p) s fun t => t = u) ∧
    (runningOf u p = some r → iterating u r = true → runningOf y p = some q →
      (q.ended = none → stuck q = true → Completes (.scheduleStall dt p) s fun t =>
        runningOf t p = some { settlePivots q with ended := some stNumeric, phase := 8 } ∧ t.slv.flags.getLsbD 0 = true) ∧
      ((q.ended ≠ none ∨ stuck q = false) → Completes (.scheduleStall dt p) s fun t => t = u)) ∧
    ((runningOf u p = none ∨ runningOf u p = some r ∧ iterating u r = false) →
      Completes (.scheduleStall dt p) s fun t => t = u)

/-- The end of a job keeps its iterate with its result hash, frees the partition, notes its result and raises its event;
an ESTIMATE or a PLAN of this half that meets R267 or R268 is published, and another sets UNFIT or NOPUB. JOB_ABORT
stops a running job, ends one that has not started at once with no iterations, and has nothing left to do with one
that has ended; JOB_RESULT returns a result, or ST_RUNNING while the job runs or waits (what stands beside it is not
stated, log entry 1); LEDGER_READ returns values of the ledger or of the published estimate. Numbers that are not
known get ST_NOT_FOUND, fields out of range ST_OUT_OF_RANGE, and a count that no response holds ST_READ_COUNT (R225,
R242, R243, R247, R256, R267, R268, R271). A fallback write that ends leaves its ledger's schedule as the one kept,
and the write of a later ledger that waited begins; without a write it does nothing. The transient hold is what its
intervals say now, and its flag is raised as it is raised; nothing else changes (R272, R273). -/
def Obligations.JobsEndAndFallbackFollows : Prop :=
  (∀ (s u : State) (dt n k : Nat) (c : Cmd) (call : Call) (p h sig : Bytes) (r : Running) (st : Half) (j : Job)
      (y : JobResult) (l : Ledger) (e : Estimate) (known : Bool), u = s.elapse dt → p = call.payload → k = u32 p 0 →
    known = u.pln.results.any (fun x => decide (x.job = k ∧ ¬x.withdrawn)) →
    (runningOf u n = some r → r.ended = some st →
      sig = hSignature (((residentCourse u n).map (·.image)).getD r.work) →
      h = resultHash sig r.wide r.iterations r.iterate →
      Completes (.jobEnd dt n) s fun t =>
        runningOf t n = none ∧ Raised (if r.job.plan then 57 else 56) t ∧
        tfind t.slv.kept n = some {
          iterate := r.iterate, signature := sig, job := r.job.number, status := st
          t0 := r.job.t0, hash := h, replaced := false } ∧
        ((t.pln.results.getLast?).map (fun z => (z.job, z.status, z.iterations, z.replaced, z.pivots, z.hash))) =
          some (r.job.number, st, r.iterations, r.replaced, r.pivots, h) ∧
        (r.job.trigger ≠ .partner → r.job.plan = false →
          if publishable st = true ∧ 1 ≤ r.iterations ∧ r.feasible = true then t.pln.estimate = some (estimateOf r st)
          else t.pln.estimate = u.pln.estimate ∧ t.pln.flags.getLsbD 0 = true) ∧
        (r.job.trigger ≠ .partner → r.job.plan = true →
          if u.sys.token = true ∧ publishes u.sys.mode = true ∧ publishable st = true ∧ 1 ≤ r.iterations ∧
              r.feasible = true ∧ servoNs u < ledgerEnd (ledgerOf u r) * 1000000000 then
            t.pln.ledger = some (ledgerOf u r) ∧ Raised 58 t
          else t.pln.ledger = u.pln.ledger ∧ t.pln.flags.getLsbD 1 = true)) ∧
    ((runningOf u n = none ∨ runningOf u n = some r ∧ r.ended = none) → Completes (.jobEnd dt n) s fun t => t = u) ∧
    (Accepted rowJobAbort c u call → p.length = 4 →
      (runningOf u n = some r → r.job.number = k → n ≤ 1 →
        (n = 1 → (runningOf u 0).map (fun x => x.job.number) ≠ some k) →
        (r.ended = none → r.phase ≠ 1 → Completes (.jobAbort dt c) s fun t =>
          runningOf t n = some { settlePivots r with ended := some stAborted, phase := 8 } ∧
          Answered rowJobAbort c call u t stOk []) ∧
        (r.ended = none → r.phase = 1 → Completes (.jobAbort dt c) s fun t =>
          runningOf t n = none ∧
          ((t.pln.results.getLast?).map (fun z => (z.job, z.status, z.iterations))) = some (k, stAborted, 0) ∧
          Raised (if r.job.plan then 57 else 56) t ∧ Answered rowJobAbort c call u t stOk []) ∧
        (r.ended ≠ none → Completes (.jobAbort dt c) s fun t =>
          t.slv = u.slv ∧ t.pln = u.pln ∧ Answered rowJobAbort c call u t stOk [])) ∧
      ((runningOf u 0).map (fun x => x.job.number) ≠ some k → (runningOf u 1).map (fun x => x.job.number) ≠ some k →
        (tfind u.pln.waiting n = some j → j.number = k → n ≤ 1 →
          (n = 1 → (tfind u.pln.waiting 0).map (fun x => x.number) ≠ some k) → Completes (.jobAbort dt c) s fun t =>
            tfind t.pln.waiting n = none ∧ t.slv = u.slv ∧
            ((t.pln.results.getLast?).map (fun z => (z.job, z.status, z.iterations))) = some (k, stAborted, 0) ∧
            Answered rowJobAbort c call u t stOk []) ∧
        ((tfind u.pln.waiting 0).map (fun x => x.number) ≠ some k →
          (tfind u.pln.waiting 1).map (fun x => x.number) ≠ some k →
          (k ≠ 0 → known = true → Completes (.jobAbort dt c) s fun t =>
            t.slv = u.slv ∧ t.pln = u.pln ∧ Answered rowJobAbort c call u t stOk []) ∧
          ((k = 0 ∨ known = false) → Completes (.jobAbort dt c) s fun t =>
            t.slv = u.slv ∧ t.pln = u.pln ∧ Failed rowJobAbort c u t stNotFound)))) ∧
    (Accepted rowJobResult c u call → p.length = 4 → 316 ≤ call.cap →
      (k ≠ 0 → jobLive u k = false → u.pln.results.find? (fun z => decide (z.job = k ∧ ¬z.withdrawn)) = some y →
        Completes (.jobResult dt c) s fun t =>
          t.pln = u.pln ∧ Answered rowJobResult c call u t stOk (resultBytes y)) ∧
      (k ≠ 0 → jobLive u k = true → Completes (.jobResult dt c) s fun t =>
        t.pln = u.pln ∧ ∃ b, b.length = 314 ∧ Answered rowJobResult c call u t stOk (le16 stRunning.toNat ++ b)) ∧
      ((k = 0 ∨ jobLive u k = false ∧ known = false) → Completes (.jobResult dt c) s fun t =>
        t.pln = u.pln ∧ Failed rowJobResult c u t stNotFound)) ∧
    (Accepted rowLedgerRead c u call → p.length = 8 →
      (1 ≤ u16 p 6 → 32 + u16 p 6 * (if 2 ^ 31 ≤ k then 16 else 8) ≤ call.limit →
        32 + u16 p 6 * (if 2 ^ 31 ≤ k then 16 else 8) ≤ call.cap →
        (k ≤ 65535 → u.pln.ledger = some l → (tfind l.values k).isSome = true → u16 p 4 < l.horizon →
          Completes (.ledgerRead dt c) s fun t =>
            t.pln = u.pln ∧ Answered rowLedgerRead c call u t stOk (readQuantity l k (u16 p 4) (u16 p 6))) ∧
        (k ≤ 65535 → u.pln.ledger = some l → (tfind l.values k).isSome = true → l.horizon ≤ u16 p 4 →
          Completes (.ledgerRead dt c) s fun t => t.pln = u.pln ∧ Failed rowLedgerRead c u t stOutOfRange) ∧
        (k ≤ 65535 → (u.pln.ledger = none ∨ u.pln.ledger = some l ∧ tfind l.values k = none) →
          Completes (.ledgerRead dt c) s fun t => t.pln = u.pln ∧ Failed rowLedgerRead c u t stNotFound) ∧
        (2 ^ 31 ≤ k → k ≤ 2 ^ 31 + 15 → u.pln.estimate = some e →
          ((k - 2 ^ 31) * 65536 + u16 p 4 < e.states.length → Completes (.ledgerRead dt c) s fun t =>
            t.pln = u.pln ∧ Answered rowLedgerRead c call u t stOk
              (readStates u e k ((k - 2 ^ 31) * 65536 + u16 p 4) (u16 p 6))) ∧
          (e.states.length ≤ (k - 2 ^ 31) * 65536 + u16 p 4 → Completes (.ledgerRead dt c) s fun t =>
            t.pln = u.pln ∧ Failed rowLedgerRead c u t stOutOfRange)) ∧
        (2 ^ 31 ≤ k → k ≤ 2 ^ 31 + 15 → u.pln.estimate = none → Completes (.ledgerRead dt c) s fun t =>
          t.pln = u.pln ∧ Failed rowLedgerRead c u t stNotFound) ∧
        (65535 < k → (k < 2 ^ 31 ∨ 2 ^ 31 + 15 < k) → Completes (.ledgerRead dt c) s fun t =>
          t.pln = u.pln ∧ Failed rowLedgerRead c u t stOutOfRange)) ∧
      ((u16 p 6 = 0 ∨ call.limit < 32 + u16 p 6 * (if 2 ^ 31 ≤ k then 16 else 8)) →
        Completes (.ledgerRead dt c) s fun t => t.pln = u.pln ∧ Failed rowLedgerRead c u t stReadCount))) ∧
  (∀ (s u : State) (dt : Nat) (second : Bool) (l k : Ledger) (i : Instr), u = s.elapse dt →
    (u.pln.writing = some (second, l) → Completes (.fallbackWriteDone dt) s fun t =>
      ((fallbackKept t).map (fun b => (b.ledger, b.t0, b.rows))) = some (l.number.toNat, l.t0, fallbackRows l) ∧
      t.pln.writeNext = none ∧ (u.pln.writeNext = none → t.pln.writing = none) ∧
      (u.pln.writeNext = some k → (t.pln.writing).map (·.2) = some k)) ∧
    (u.pln.writing = none → Completes (.fallbackWriteDone dt) s fun t => t = u) ∧
    ((i = .transientHoldRaise dt ∨ i = .transientHoldEnd dt) →
      (u.pln.hold = none → (holdNow u).isSome = true → Completes i s fun t =>
        t.pln.hold = holdNow u ∧ t.pln.flags.getLsbD 4 = true ∧ t.pln.ledger = u.pln.ledger) ∧
      ((u.pln.hold ≠ none ∨ holdNow u = none) → Completes i s fun t =>
        t = { u with pln := { u.pln with hold := holdNow u } })))

/-- LOOP_SET gives a slot its record: no slot is evaluated in the modes that allow the command, and the slot's next
evaluation, at an instant of the record's own grid, is under it (log entry 89). LOOP_GAIN_SET gives the table.
LOOP_ENABLE starts a slot afresh, clears a latched following error of an enabled one, or disables it. LOOP_READ
reports a slot. TRACE_ARM arms a buffer unless another session holds it, TRACE_READ returns a complete one. A slot
without a record, an express slot that no channel names and a trace not complete get ST_NOT_FOUND, no room for the
slot's points ST_NO_SPACE, a count that no response holds ST_READ_COUNT, and fields out of range ST_OUT_OF_RANGE,
with nothing changed (R168, R280, R282, R284, R292, R307, R308, R310). -/
def Obligations.LoopsAreCommanded : Prop :=
  ∀ (s u : State) (dt k on : Nat) (c : Cmd) (call : Call) (p r : Bytes) (x : Slot) (y : Trace) (h : Word),
    u = s.elapse dt → p = call.payload → r = p.drop 4 → x = slotState u k → on = u16 p 2 →
    (Accepted rowLoopSet c u call → p.length = 100 → k = u16 p 0 →
      (k ≤ 1023 → on = 0 → slotRecordOk k r = true →
        (roomFor u (slotPoints k) = true → Completes (.loopSet dt c) s fun t =>
          slotState t k = { x with
            record := r, next := none
            instant := if x.enabled = true then some (sampleInstantOf r (now u)) else x.instant } ∧
          (∀ j, j ≠ k → slotState t j = slotState u j) ∧ Answered rowLoopSet c call u t stOk []) ∧
        (roomFor u (slotPoints k) = false → Completes (.loopSet dt c) s fun t =>
          t.lpe = u.lpe ∧ Failed rowLoopSet c u t stNoSpace)) ∧
      ((1023 < k ∨ on ≠ 0 ∨ slotRecordOk k r = false) → Completes (.loopSet dt c) s fun t =>
        t.lpe = u.lpe ∧ Failed rowLoopSet c u t stOutOfRange)) ∧
    (∀ g, Accepted rowLoopGainSet c u call → p.length = 516 → k = u16 p 0 →
      g = (rowsOf p 4 8 64).map (fun b => (w32 b 0, w32 b 4)) →
      (k ≤ 1023 → on = 0 → tableOkay g = true → Completes (.loopGainSet dt c) s fun t =>
        slotState t k = { x with table := g } ∧ (∀ j, j ≠ k → slotState t j = slotState u j) ∧
        Answered rowLoopGainSet c call u t stOk []) ∧
      ((1023 < k ∨ on ≠ 0 ∨ tableOkay g = false) → Completes (.loopGainSet dt c) s fun t =>
        t.lpe = u.lpe ∧ Failed rowLoopGainSet c u t stOutOfRange)) ∧
    (Accepted rowLoopRead c u call → p.length = 4 → 20 ≤ call.cap → k = u16 p 0 →
      (k ≤ 1023 → on = 0 → hasRecord x = true → Completes (.loopRead dt c) s fun t => t.lpe = u.lpe ∧
        Answered rowLoopRead c call u t stOk (f32Bytes (x.sp.getD 0) ++ f32Bytes x.feedback ++ f32Bytes x.u
          ++ f32Bytes x.i ++ le32 (slotWord x).toNat)) ∧
      (k ≤ 1023 → on = 0 → hasRecord x = false → Completes (.loopRead dt c) s fun t =>
        t.lpe = u.lpe ∧ Failed rowLoopRead c u t stNotFound) ∧
      ((1023 < k ∨ on ≠ 0) → Completes (.loopRead dt c) s fun t =>
        t.lpe = u.lpe ∧ Failed rowLoopRead c u t stOutOfRange)) ∧
    (Accepted rowLoopEnable c u call → p.length = 4 → k = u16 p 0 →
      (k ≤ 1023 → hasRecord x = true →
        (on = 1 → expressUnnamed u k = false → x.enabled = false → Completes (.loopEnable dt c) s fun t =>
          (slotState t k).enabled = true ∧ (slotState t k).evaluated = false ∧ (slotState t k).fresh = true ∧
          (slotState t k).acting = none ∧ (slotState t k).fe = false ∧ (slotState t k).resume = none ∧
          (slotState t k).instant = some (sampleInstantOf (comingRecord x) (now u)) ∧
          (slotState t k).record = x.record ∧ (slotState t k).i = x.i ∧
          (∀ j, j ≠ k → slotState t j = slotState u j) ∧ Answered rowLoopEnable c call u t stOk []) ∧
        (on = 1 → expressUnnamed u k = false → x.enabled = true → latchedError x = true →
          Completes (.loopEnable dt c) s fun t =>
            slotState t k = { x with
              fe := false, feTimer := 0, resume := outputInForce u k, bits := bclr x.bits sbFe } ∧
            Answered rowLoopEnable c call u t stOk []) ∧
        (on = 1 → expressUnnamed u k = false → x.enabled = true → latchedError x = false →
          Completes (.loopEnable dt c) s fun t => t.lpe = u.lpe ∧ Answered rowLoopEnable c call u t stOk []) ∧
        (on = 1 → expressUnnamed u k = true → Completes (.loopEnable dt c) s fun t =>
          t.lpe = u.lpe ∧ Failed rowLoopEnable c u t stNotFound) ∧
        (on = 0 → Completes (.loopEnable dt c) s fun t =>
          slotState t k = { x with enabled := false, evaluated := false, express := none } ∧
          (∀ j, j ≠ k → slotState t j = slotState u j) ∧ Answered rowLoopEnable c call u t stOk [])) ∧
      (k ≤ 1023 → on ≤ 1 → hasRecord x = false → Completes (.loopEnable dt c) s fun t =>
        t.lpe = u.lpe ∧ Failed rowLoopEnable c u t stNotFound) ∧
      ((1023 < k ∨ 1 < on) → Completes (.loopEnable dt c) s fun t =>
        t.lpe = u.lpe ∧ Failed rowLoopEnable c u t stOutOfRange)) ∧
    (Accepted rowTraceArm c u call → p.length = 20 → k = u8 p 0 →
      (k ≤ 7 → slice p 1 3 = zeros 3 → traceElsewhere u k call.sid = none →
        (u16 r 0 ≤ 1023 → u8 r 2 ≤ 4 → u8 r 3 ≤ 5 → sfinite (w32 r 8) = true → u32 r 12 = 0 →
          Completes (.traceArm dt c) s fun t =>
            tfind t.lpe.traces k = some (traceOf call.sid (slotWord (slotState u (u16 r 0))) r) ∧
            (∀ j, j ≠ k → tfind t.lpe.traces j = tfind u.lpe.traces j) ∧ t.lpe.slots = u.lpe.slots ∧
            Answered rowTraceArm c call u t stOk []) ∧
        ((1023 < u16 r 0 ∨ 4 < u8 r 2 ∨ 5 < u8 r 3 ∨ sfinite (w32 r 8) = false ∨ u32 r 12 ≠ 0) →
          Completes (.traceArm dt c) s fun t => t.lpe = u.lpe ∧ Failed rowTraceArm c u t stOutOfRange)) ∧
      (k ≤ 7 → slice p 1 3 = zeros 3 → traceElsewhere u k call.sid = some h → Completes (.traceArm dt c) s fun t =>
        t.lpe = u.lpe ∧ replyTo rowTraceArm c stBusy (holderBytes u h) ∈ sentSince u t) ∧
      ((7 < k ∨ slice p 1 3 ≠ zeros 3) → Completes (.traceArm dt c) s fun t =>
        t.lpe = u.lpe ∧ Failed rowTraceArm c u t stOutOfRange)) ∧
    (Accepted rowTraceRead c u call → p.length = 8 → k = u8 p 0 →
      (1 ≤ on → 8 + 4 * on ≤ call.limit → 8 + 4 * on ≤ call.cap →
        (k ≤ 7 → u8 p 1 = 0 → u32 p 4 ≤ 65535 →
          (tfind u.lpe.traces k = some y → y.state = 3 → Completes (.traceRead dt c) s fun t => t.lpe = u.lpe ∧
            Answered rowTraceRead c call u t stOk (le32 (u32 p 4) ++ le32 ((y.samples.drop (u32 p 4)).take on).length
              ++ ((y.samples.drop (u32 p 4)).take on).flatMap f32Bytes)) ∧
          ((tfind u.lpe.traces k = none ∨ tfind u.lpe.traces k = some y ∧ y.state ≠ 3) →
            Completes (.traceRead dt c) s fun t => t.lpe = u.lpe ∧ Failed rowTraceRead c u t stNotFound)) ∧
        ((7 < k ∨ u8 p 1 ≠ 0 ∨ 65535 < u32 p 4) → Completes (.traceRead dt c) s fun t =>
          t.lpe = u.lpe ∧ Failed rowTraceRead c u t stOutOfRange)) ∧
      ((on = 0 ∨ call.limit < 8 + 4 * on) → Completes (.traceRead dt c) s fun t =>
        t.lpe = u.lpe ∧ Failed rowTraceRead c u t stReadCount))

/-- A slot that is due is evaluated after those due ahead of it: it takes up its record, forms setpoint and feed-
forward, and reads its source; an express slot asks for its injection instead and is evaluated on the urgent result.
A lost source, then a frozen one, then its recovery decide which policy acts. The law runs on the primary or on a
healthy backup and gives its limited result, or the value that it must go on from; HOLD, a latched following error
of FE_ACTION 1, a failed backup and the first detection of an express slot hold the output; RAMP_SAFE and FE_ACTION
2 ramp it. Behind an output that rows 2 to 5 of R278 drive, the slot tracks the value in force. The integrators are
copied every 10 ms and ALIVE turns every 1 ms while loops run; where an instant has not come, nothing changes (R280,
R281, R283, R285 to R289, R292, R294, R305). -/
def Obligations.LoopsAreEvaluated : Prop :=
  ∀ (s u b v w : State) (dt k j code n t0 bad : Nat) (r : Bytes) (f : State × Word × Word × Bool) (cmp : Comparators)
      (q : Urgent) (y : Sample) (src bk : Source) (sp ff val fb : Word) (held ex lost froz rec first : Bool) (x : Slot)
      (act : Option Bool) (tr keep : Option Word) (latch pol : Nat) (i : Instr), u = s.elapse dt →
    (slotDue u k = true → b = applyAll evaluateSlot (dueBefore u k) u → v = takeRecord k b →
        r = (slotState v k).record → t0 = sampleInstantOf r (now v) → f = formSetpoint k (tsNs (servoAt v t0)) v →
        w = modSlot k (fun z => { z with instant := some t0 }) f.1 → lrFbSrc r = 2 →
      (expressChannel w k = none → Completes (.loopEvaluation dt k) s fun t => t = w) ∧
      (expressChannel w k = some n → w.adc.running = true → pd w 2 = true → Completes (.loopEvaluation dt k) s fun t =>
        slotState t k = { slotState w k with express := some (f.2.1, f.2.2.1, f.2.2.2, t0) } ∧
        ⟨k, n, now u⟩ ∈ (sarOf t (converterOf n)).urgent) ∧
      (expressChannel w k = some n → (w.adc.running = false ∨ pd w 2 = false) →
        Completes (.loopEvaluation dt k) s fun t =>
          t = modSlot k (fun z => { z with express := some (f.2.1, f.2.2.1, f.2.2.2, t0) }) w)) ∧
    ((i = .loopEvaluation dt k ∧ slotDue u k = true ∧ b = applyAll evaluateSlot (dueBefore u k) u ∧ v = takeRecord k b ∧
          t0 = sampleInstantOf (slotState v k).record (now v) ∧ f = formSetpoint k (tsNs (servoAt v t0)) v ∧
          w = modSlot k (fun z => { z with instant := some t0 }) f.1 ∧ lrFbSrc (slotState v k).record ≠ 2 ∧ sp = f.2.1 ∧
          ff = f.2.2.1 ∧ ex = false ∧ r = (slotState w k).record ∧ src = readSource w r (lrFbSrc r) (lrFbRef r) t0 ∨
        i = .urgentConversionDone dt j code cmp ∧ urgentHead u j = some q ∧ k = q.slot ∧ v = urgentStore j q code cmp u ∧
          (slotState v k).express = some (sp, ff, held, t0) ∧ tfind v.adc.samples q.channel = some y ∧
          loopsRun v = true ∧ (slotState v k).enabled = true ∧ w = modSlot k (fun z => { z with express := none }) v ∧
          ex = true ∧ r = (slotState w k).record ∧ src = sampleSource (ageLimit r) t0 y) →
      x = slotState w k → lost = src.lost → froz = (isFrozen r (freezeNext src x.primary) && !lost) →
      rec = decide (lost = false ∧ froz = false ∧ x.acting ≠ none ∧ lrRecoverN r ≤ x.good + 1) →
      act = (if lost then some true else if froz then some false else if rec then none else x.acting) →
      first = (ex && act.isSome && decide (x.acting ≠ act)) → latch = (if x.fe then lrFeAction r else 0) →
      pol = (if act = some true then lrLostPol r else lrFrozenPol r) → bk = readSource w r (lrBkSrc r) (lrBkRef r) t0 →
      bad = bit (decide (lrBkSrc r = 0xFF) || (x.backupGone && decide (x.acting = act)) || bk.lost ||
        isFrozen r (freezeNext bk x.backup)) →
      tr = (primaryOutput w k).bind (fun o => if 2 ≤ rowOf w o ∧ rowOf w o ≤ 5 then outputInForce w k else none) →
      (first = false → latch ≠ 1 → latch ≠ 2 →
          (act = none ∧ fb = src.y ∧ keep = (if x.resume = none ∧ rec = true then some x.u else x.resume) ∨
            act ≠ none ∧ pol = 2 ∧ bad = 0 ∧ fb = bk.y ∧
              keep = (if x.onBackup = true ∧ x.acting = act then x.resume else some (x.resume.getD x.u))) →
          val = keep.getD (limited r x.u (lawOf x sp ff fb).u0) → Completes i s fun t =>
        (slotState t k).u = tr.getD val ∧ (slotState t k).error = errorOf r sp fb ∧ (slotState t k).feedback = fb ∧
        (slotState t k).acting = act ∧ (act ≠ none → (slotState t k).onBackup = true) ∧
        (rec = true → (slotState t k).onBackup = false) ∧ (slotState t k).evaluated = true ∧ (slotState t k).record = r ∧ t.lpe.evals = w.lpe.evals + 1) ∧
      ((first = true ∨ latch = 1 ∨ latch ≠ 2 ∧ act ≠ none ∧ pol ≠ 1 ∧ (pol = 2 → bad = 1)) → Completes i s fun t =>
        (slotState t k).u = tr.getD (x.resume.getD x.u) ∧ (slotState t k).acting = act ∧
        (slotState t k).feedback = (if lost then x.feedback else src.y) ∧ (slotState t k).evaluated = true ∧
        t.lpe.evals = w.lpe.evals + 1) ∧
      (first = false → latch ≠ 1 → (latch = 2 ∨ act ≠ none ∧ pol = 1) → Completes i s fun t =>
        (slotState t k).u = tr.getD (rampStep r (safeTarget w k) (x.resume.getD x.u)) ∧ (slotState t k).acting = act ∧
        (slotState t k).feedback = (if lost then x.feedback else src.y) ∧ (slotState t k).evaluated = true ∧
        t.lpe.evals = w.lpe.evals + 1)) ∧
    (slotDue u k = false → Completes (.loopEvaluation dt k) s fun t => t = u) ∧
    (loopsRun u = true → everyDue u u.lpe.snapAt (10 * tickMs) = true → Completes (.integratorSnapshot dt) s fun t =>
      t.lpe = { u.lpe with snapshot := snapshotNow u, snapAt := some (now u) }) ∧
    ((loopsRun u = false ∨ everyDue u u.lpe.snapAt (10 * tickMs) = false) →
      Completes (.integratorSnapshot dt) s fun t => t = u) ∧
    (loopsRun u = true → everyDue u u.lpe.aliveAt tickMs = true → Completes (.loopAliveToggle dt) s fun t =>
      t = { u with lpe := { u.lpe with alive := !u.lpe.alive, aliveAt := some (now u) } }) ∧
    ((loopsRun u = false ∨ everyDue u u.lpe.aliveAt tickMs = false) →
      Completes (.loopAliveToggle dt) s fun t => t = u)

/-- OUT_SET sets a manual value for the session in control of MANUAL's outputs, OUT_BIND an output's source,
SLC_SAFE_SET a safe value; OUT_READ returns what stands at the balls. OUT_SET of another session is ST_BUSY with the
holder; fields out of range get ST_OUT_OF_RANGE, a range past output 127 ST_COUNT, with nothing changed (R41, R296
to R298). -/
def Obligations.OutputsAreCommanded : Prop :=
  ∀ (s u : State) (dt o n : Nat) (c : Cmd) (call : Call) (p : Bytes) (x h : Word),
    u = s.elapse dt → p = call.payload → o = u16 p 0 → n = u16 p 2 → x = w32 p 4 →
    (Accepted rowOutSet c u call → p.length = 8 →
      (manualElsewhere u call.sid = none → o ≤ 111 → n = 0 → outputValueOk o x = true → Completes (.outSet dt c) s fun t =>
        tget t.out.manual o sHighZ = x ∧ (∀ k, k ≠ o → tget t.out.manual k sHighZ = tget u.out.manual k sHighZ) ∧
        t.sys.manual = some call.sid ∧ t.out.binding = u.out.binding ∧ Answered rowOutSet c call u t stOk []) ∧
      (manualElsewhere u call.sid = none → (111 < o ∨ n ≠ 0 ∨ outputValueOk o x = false) →
        Completes (.outSet dt c) s fun t => t.out = u.out ∧ Failed rowOutSet c u t stOutOfRange) ∧
      (manualElsewhere u call.sid = some h → Completes (.outSet dt c) s fun t =>
        t.out = u.out ∧ replyTo rowOutSet c stBusy (holderBytes u h) ∈ sentSince u t)) ∧
    (Accepted rowOutBind c u call → p.length = 4 →
      (o ≤ 111 → gpioInput u o = false → (n ≤ 1023 ∨ n = 0xFFFF) → Completes (.outBind dt c) s fun t =>
        tget t.out.binding o 0xFFFF = n ∧
        (∀ k, k ≠ o → tget t.out.binding k 0xFFFF = tget u.out.binding k 0xFFFF) ∧
        t.out.manual = u.out.manual ∧ Answered rowOutBind c call u t stOk []) ∧
      ((111 < o ∨ gpioInput u o = true ∨ 1023 < n ∧ n ≠ 0xFFFF) → Completes (.outBind dt c) s fun t =>
        t.out = u.out ∧ Failed rowOutBind c u t stOutOfRange)) ∧
    (Accepted rowSlcSafeSet c u call → p.length = 8 →
      (o ≤ 127 → n = 0 → (x = sHighZ ∨ outputValueOk o x = true) → Completes (.slcSafeSet dt c) s fun t =>
        safeValue t o = x ∧ (∀ k, k ≠ o → safeValue t k = safeValue u k) ∧
        t.slc.latch = u.slc.latch ∧ Answered rowSlcSafeSet c call u t stOk []) ∧
      ((127 < o ∨ n ≠ 0 ∨ x ≠ sHighZ ∧ outputValueOk o x = false) → Completes (.slcSafeSet dt c) s fun t =>
        t.slc = u.slc ∧ Failed rowSlcSafeSet c u t stOutOfRange)) ∧
    (Accepted rowOutRead c u call → p.length = 4 →
      (1 ≤ n → n ≤ 128 → o + n ≤ 128 → 4 * n ≤ call.cap → Completes (.outRead dt c) s fun t =>
        t.out = u.out ∧ t.slc = u.slc ∧
        Answered rowOutRead c call u t stOk ((List.range n).flatMap (fun i => f32Bytes (ballOf u (o + i))))) ∧
      ((n = 0 ∨ 128 < n ∨ 128 < o + n) → Completes (.outRead dt c) s fun t =>
        t.out = u.out ∧ t.slc = u.slc ∧ Failed rowOutRead c u t stCount))

/-- CAN_CHAN_SET sets a channel's timing and starts it anew, which in bus-off does not hasten the recovery; CAN_OBJ_SET
sets an object, whose pending request is cancelled; CAN_SEND places data as the rows of R328 let it, and a free bus
takes the frame; CAN_CANCEL takes back what has not won arbitration, late once it has, and waits in between;
CAN_STATUS reports. Fields out of range get ST_OUT_OF_RANGE, a data length that the object's format does not have
ST_DLC, with nothing changed (R313, R314, R316, R317, R320, R324, R325, R328, R331). -/
def Obligations.FieldBusesAreCommanded : Prop :=
  ∀ (s u : State) (dt n o : Nat) (c : Cmd) (call : Call) (p r : Bytes) (x : CanObj) (f : CanFrame) (off won : Bool),
    u = s.elapse dt → p = call.payload → r = p.drop 4 → n = u8 p 0 →
    (Accepted rowCanChanSet c u call → p.length = 20 → off = ((canOf u n).busOff || decide (255 < (canOf u n).tecount)) →
      (n ≤ 15 → allZero (slice p 1 3) = true → timingOk r = true → Completes (.canChanSet dt c) s fun t =>
        (canOf t n).record = r ∧ (canOf t n).tecount = 0 ∧ (canOf t n).recount = 0 ∧ (canOf t n).busOff = off ∧
        (canOf t n).integrating = !off ∧ (canOf t n).active = none ∧ (∀ k, (objOf t n k).state = 0) ∧
        (∀ k, k ≠ n → canOf t k = canOf u k) ∧ Answered rowCanChanSet c call u t stOk []) ∧
      ((15 < n ∨ allZero (slice p 1 3) = false ∨ timingOk r = false) → Completes (.canChanSet dt c) s fun t =>
        t.can = u.can ∧ Failed rowCanChanSet c u t stOutOfRange)) ∧
    (Accepted rowCanObjSet c u call → p.length = 116 → o = u8 p 1 → x = objOf u n o →
      (n ≤ 15 → o ≤ 127 → u16 p 2 = 0 → objectOk (ctFd (canOf u n).record) r = true →
        Completes (.canObjSet dt c) s fun t =>
          (objOf t n o).record = (if u8 r 0 = 0 then [] else r) ∧ (objOf t n o).state = 0 ∧
          (objOf t n o).result = (if x.state = 0 then 0 else 4) ∧ (objOf t n o).data = none ∧
          (objOf t n o).stamp = x.stamp ∧ (objOf t n o).count = x.count ∧ (∀ k, k ≠ o → objOf t n k = objOf u n k) ∧
          (canOf t n).active =
            (canOf u n).active.map (fun a => if a.object = o then { a with live := false } else a) ∧
          Answered rowCanObjSet c call u t stOk []) ∧
      ((15 < n ∨ 127 < o ∨ u16 p 2 ≠ 0 ∨ objectOk (ctFd (canOf u n).record) r = false) →
        Completes (.canObjSet dt c) s fun t => t.can = u.can ∧ Failed rowCanObjSet c u t stOutOfRange)) ∧
    (Accepted rowCanSend c u call → p.length = 4 + u8 p 3 → o = u8 p 1 → x = objOf u n o →
      (u8 p 2 ≤ 15 → u8 p 3 = dlcBytes (decide (x.record ≠ [] ∧ coFormat x.record = 0)) (u8 p 2) →
        (u8 p 2 ≤ 8 ∨ coFormat x.record = 0 ∨ ctFd (canOf u n).record = true) →
        (n ≤ 15 → o ≤ 127 → transmits x = true → coSrc x.record = 0 → f = frameOf (ctFd (canOf u n).record) x.record r →
          Completes (.canSend dt c) s fun t =>
            (canDrops u n x = false → x.state < 2 → (objOf t n o).data = some f ∧ (objOf t n o).state ≠ 0) ∧
            (canDrops u n x = false → 2 ≤ x.state → (objOf t n o).data = x.data ∧ (objOf t n o).queued = some f) ∧
            (canDrops u n x = true → x.state < 2 → (objOf t n o).state = 0 ∧ (objOf t n o).result = 4) ∧
            (canDrops u n x = true → 2 ≤ x.state → (objOf t n o).state = x.state ∧ (objOf t n o).queued = none) ∧
            (canMay u n x = true → x.state = 0 → (canState u n = 1 ∨ canState u n = 2) → (canOf u n).active = none →
              (canOf u n).busy = false → firstPending u n = none →
              Sent.can n { f with esi := f.fd && canPassive (canOf u n) } ∈ sentSince u t ∧ (objOf t n o).state = 2) ∧
            Answered rowCanSend c call u t stOk []) ∧
        ((15 < n ∨ 127 < o ∨ transmits x = false ∨ coSrc x.record ≠ 0) → Completes (.canSend dt c) s fun t =>
          t.can = u.can ∧ Failed rowCanSend c u t stOutOfRange)) ∧
      ((15 < u8 p 2 ∨ u8 p 3 ≠ dlcBytes (decide (x.record ≠ [] ∧ coFormat x.record = 0)) (u8 p 2) ∨
          8 < u8 p 2 ∧ coFormat x.record ≠ 0 ∧ ctFd (canOf u n).record = false) → Completes (.canSend dt c) s fun t =>
        t.can = u.can ∧ Failed rowCanSend c u t stDlc)) ∧
    (Accepted rowCanCancel c u call → p.length = 4 → o = u8 p 1 → x = objOf u n o →
      won = ((canOf u n).active.map (·.won)).getD false →
      (n ≤ 15 → o ≤ 127 → u16 p 2 = 0 → transmits x = true →
        (x.state = 0 → Completes (.canCancel dt c) s fun t =>
          t.can = u.can ∧ Answered rowCanCancel c call u t stOk []) ∧
        (x.state = 1 → Completes (.canCancel dt c) s fun t =>
          (objOf t n o).state = 0 ∧ (objOf t n o).result = 4 ∧ (objOf t n o).data = none ∧ (objOf t n o).queued = none ∧
          (∀ k, k ≠ o → objOf t n k = objOf u n k) ∧ Answered rowCanCancel c call u t stOk []) ∧
        (2 ≤ x.state → won = true → Completes (.canCancel dt c) s fun t =>
          objOf t n o = { x with cancelLate := true, queued := none } ∧ Failed rowCanCancel c u t stCancelLate) ∧
        (2 ≤ x.state → won = false → Completes (.canCancel dt c) s fun t =>
          objOf t n o = { x with cancelReq := true } ∧
          ∃ d ∈ t.vcp.deferred, d.seq = call.seq ∧ d.sid = call.sid ∧ d.channel = n ∧ d.object = o)) ∧
      ((15 < n ∨ 127 < o ∨ u16 p 2 ≠ 0 ∨ transmits x = false) → Completes (.canCancel dt c) s fun t =>
        t.can = u.can ∧ Failed rowCanCancel c u t stOutOfRange)) ∧
    (Accepted rowCanStatus c u call → p.length = 4 → 20 ≤ call.cap →
      (n ≤ 15 → allZero (slice p 1 3) = true → Completes (.canStatus dt c) s fun t =>
        t.can = u.can ∧ Answered rowCanStatus c call u t stOk
          (le 1 (min (canOf u n).tecount 255) ++ le 1 (canOf u n).recount ++ le 1 (canState u n) ++ [0]
            ++ (List.range 4).flatMap (fun w => le32 (busyWord (canOf u n) w)))) ∧
      ((15 < n ∨ allZero (slice p 1 3) = false) → Completes (.canStatus dt c) s fun t =>
        t.can = u.can ∧ Failed rowCanStatus c u t stOutOfRange))

/-- A due instant encodes its value, SAFE_VALUE on row 3, and places the frame, but on row 2 and where row 3 silences
the object; a value that is held sends the last field again, and before any an open one (log entry 51). Arbitration
won or lost and a frame's end act on channel, object, queued frame and waiting cancel; a failed attempt is tried
again until RETRY runs out. Received frames are counted and their field written to the point unless they are remote,
short, matched by nothing or the point is pinned. Errors count; TEC past 255 is bus-off, left with the counters at
0; integration ends. Without such an occasion nothing changes (R314, R318 to R328, R331). -/
def Obligations.FieldBusesRun : Prop :=
  ∀ (s u w : State) (dt n o t0 age amount : Nat) (won : Bool) (x : CanObj) (a : CanActive) (e : CanError) (f g : CanFrame)
      (error : Option CanError) (v z : Option Dword) (d : Dword) (y : Point) (tec : Nat), u = s.elapse dt →
    (canDueNow u n o = true → x = objOf u n o → t0 = (dueInstant x.record (now u)).getD 0 →
      w = modObj n o (fun y => { y with instant := some t0 }) u →
      (canRow u n x = 3 → coSafeAct x.record = 1 → Completes (.canDueInstant dt n o) s fun t => t = w) ∧
      ((canRow u n x ≠ 3 ∨ coSafeAct x.record ≠ 1) →
        v = (if canRow u n x = 3 ∧ coSafeAct x.record = 0 then some (widen (coSafeValue x.record))
          else (canValue x.record (tsNs (servoAt w t0)) w).2) → z = v.bind (scaled x.record) →
        Completes (.canDueInstant dt n o) s fun t => (objOf t n o).instant = some t0 ∧
          (z = some d → (objOf t n o).held = false ∧ (objOf t n o).clamp = (rawField x.record d).2 ∧
            (objOf t n o).last = some (fieldBytes x.record (rawField x.record d).1)) ∧
          (z = none → (objOf t n o).held = true ∧ (x.last ≠ none → (objOf t n o).last = x.last)) ∧
          ∃ b, (objOf t n o).last = some b ∧
            (canRow u n x = 2 → (objOf t n o).state = x.state ∧ (objOf t n o).data = x.data) ∧
            (canRow u n x ≠ 2 → x.state < 2 → (objOf t n o).state ≠ 0 ∧
              (objOf t n o).data = some (frameWith (ctFd (canOf u n).record) x.record b)) ∧
            (canRow u n x ≠ 2 → 2 ≤ x.state →
              (objOf t n o).queued = some (frameWith (ctFd (canOf u n).record) x.record b)) ∧
            (canOf t n).skipped = (canOf u n).skipped + (if canRow u n x ≠ 2 ∧ x.state = 1 then 1 else 0))) ∧
    (canDueNow u n o = false → Completes (.canDueInstant dt n o) s fun t => t = u) ∧
    ((canOf u n).active = some a → a.won = false → x = objOf u n a.object →
      (a.live = true → x.cancelReq = true → Completes (.canArbitrationEnd dt n true) s fun t =>
        (canOf t n).active = some { a with won := true } ∧ (objOf t n a.object).cancelLate = true ∧
        (objOf t n a.object).cancelReq = false ∧ (objOf t n a.object).queued = none ∧
        ∀ y ∈ t.vcp.deferred, ¬(y.opcode = 0x0904 ∧ y.channel = n ∧ y.object = a.object)) ∧
      ((a.live = false ∨ x.cancelReq = false) → Completes (.canArbitrationEnd dt n true) s fun t =>
        (canOf t n).active = some { a with won := true } ∧ objOf t n a.object = x) ∧
      (a.live = true → x.cancelReq = true → Completes (.canArbitrationEnd dt n false) s fun t =>
        (canOf t n).active = none ∧ (canOf t n).busy = true ∧ (objOf t n a.object).state = 0 ∧
        (objOf t n a.object).result = 4 ∧
        ∀ y ∈ t.vcp.deferred, ¬(y.opcode = 0x0904 ∧ y.channel = n ∧ y.object = a.object)) ∧
      (a.live = true → x.cancelReq = false → Completes (.canArbitrationEnd dt n false) s fun t =>
        (canOf t n).active = none ∧ (canOf t n).busy = true ∧
        (transmits x = true → canDrops u n x = true → (objOf t n a.object).state = 0 ∧ (objOf t n a.object).result = 4) ∧
        (canDrops u n x = false → (objOf t n a.object).state = 1 ∧ (objOf t n a.object).data = x.data)) ∧
      (a.live = false → Completes (.canArbitrationEnd dt n false) s fun t =>
        (canOf t n).active = none ∧ (canOf t n).busy = true ∧ objOf t n a.object = x)) ∧
    (((canOf u n).active = none ∨ (canOf u n).active = some a ∧ a.won = true) →
      Completes (.canArbitrationEnd dt n won) s fun t => t = u) ∧
    ((canOf u n).active = some a → (canOf u n).tecount ≤ 255 → x = objOf u n a.object →
      (Completes (.canFrameEnd dt n none) s fun t =>
        (canOf t n).txOk = (canOf u n).txOk + 1 ∧ (canOf t n).tecount = (canOf u n).tecount - 1 ∧
        (a.live = true → (objOf t n a.object).stamp = a.start ∧ (objOf t n a.object).count = x.count + 1) ∧
        (a.live = true → (x.queued = none ∨ x.cancelReq = true) → (objOf t n a.object).state = 0 ∧
          (objOf t n a.object).result = (if x.cancelReq || x.cancelLate then 6 else 1)) ∧
        (a.live = true → x.queued = some g → x.cancelReq = false → canDrops u n x = false →
          (objOf t n a.object).data = some g ∧ (objOf t n a.object).state ≠ 0)) ∧
      (tec = (if tecExempt (canOf u n) a e then (canOf u n).tecount else (canOf u n).tecount + 8) →
        Completes (.canFrameEnd dt n (some e)) s fun t =>
          (canOf t n).errors = (canOf u n).errors + 1 ∧ (canOf t n).lec = lecOf e ∧ (canOf t n).tecount = tec ∧
          (255 < tec → (canOf t n).active = some a ∧ (objOf t n a.object).state = x.state) ∧
          (tec ≤ 255 → a.live = true → (x.cancelReq = true ∨ x.cancelLate = true) →
            (objOf t n a.object).state = 0 ∧ (objOf t n a.object).result = 4) ∧
          (tec ≤ 255 → a.live = true → x.cancelReq = false → x.cancelLate = false → x.queued = none →
            coRetry x.record < 15 → coRetry x.record ≤ x.attempts →
            (objOf t n a.object).state = 0 ∧ (objOf t n a.object).attempts = x.attempts + 1 ∧
            (objOf t n a.object).result = (if e = .ack then 2 else 3)) ∧
          (tec ≤ 255 → a.live = true → x.cancelReq = false → x.cancelLate = false →
            (15 ≤ coRetry x.record ∨ x.attempts < coRetry x.record) → canDrops u n x = false →
            (objOf t n a.object).state ≠ 0 ∧ (objOf t n a.object).data = x.data ∧
            (objOf t n a.object).attempts = x.attempts + 1))) ∧
    (((canOf u n).active = none ∨ 255 < (canOf u n).tecount) →
      Completes (.canFrameEnd dt n error) s fun t => t = u) ∧
    (canHears u n = true → (f.fd = false ∨ ctFd (canOf u n).record = true) →
      Completes (.canFrameReceived dt n age f) s fun t => (canOf t n).rxOk = (canOf u n).rxOk + 1 ∧
        (u.sys.token = false → (canOf t n).recount = (canOf u n).recount) ∧
        (u.sys.token = true → (canOf u n).recount ≤ 127 → (canOf t n).recount = (canOf u n).recount - 1) ∧
        (matchObject (canOf u n) f = none → (canOf t n).unmatched = (canOf u n).unmatched + 1 ∧ t.pts = u.pts) ∧
        (matchObject (canOf u n) f = some (o, x) →
          (f.remote = false → (objOf t n o).stamp = now u - age ∧ (objOf t n o).count = (objOf u n o).count + 1) ∧
          (f.remote = true → (canOf t n).unmatched = (canOf u n).unmatched + 1 ∧ t.pts = u.pts) ∧
          (f.remote = false → f.data.length < coPos x.record + coWidth x.record →
            (objOf t n o).short = true ∧ (canOf t n).flags.getLsbD 4 = true ∧ t.pts = u.pts) ∧
          (f.remote = false → coPos x.record + coWidth x.record ≤ f.data.length →
            (objOf t n o).short = false ∧
            (findPoint u (coRef x.record) = none → (canOf t n).unmatched = (canOf u n).unmatched + 1) ∧
            (findPoint u (coRef x.record) = some y →
              (findPoint t (coRef x.record)).map (fun q => (q.value, q.updates, q.arrival)) =
                some (if y.pinned then y.value else decodedValue x.record f.data, y.updates + 1, now u))))) ∧
    ((canHears u n = false ∨ f.fd = true ∧ ctFd (canOf u n).record = false) →
      Completes (.canFrameReceived dt n age f) s fun t => t = u) ∧
    (canHears u n = true → Completes (.canReceiveError dt n e amount) s fun t =>
      (canOf t n).errors = (canOf u n).errors + 1 ∧ (canOf t n).lec = lecOf e ∧
      (canOf t n).recount = (if u.sys.token then min ((canOf u n).recount + amount) 255 else (canOf u n).recount) ∧
      (canOf t n).tecount = (canOf u n).tecount) ∧
    (canHears u n = false → Completes (.canReceiveError dt n e amount) s fun t => t = u) ∧
    ((canOf u n).busOff = false → 255 < (canOf u n).tecount → Completes (.canBusOff dt n) s fun t =>
      (canOf t n).busOff = true ∧ (canOf t n).busOffs = (canOf u n).busOffs + 1 ∧ (canOf t n).active = none ∧
      (canOf t n).flags.getLsbD 2 = true ∧ (canOf t n).tecount = (canOf u n).tecount ∧
      ((canOf u n).active = some a → a.live = true → (objOf t n a.object).result = 5)) ∧
    (((canOf u n).busOff = true ∨ (canOf u n).tecount ≤ 255) → Completes (.canBusOff dt n) s fun t => t = u) ∧
    ((canOf u n).busOff = true → Completes (.canBusOffRecovery dt n) s fun t =>
      (canOf t n).busOff = false ∧ (canOf t n).tecount = 0 ∧ (canOf t n).recount = 0) ∧
    ((canOf u n).busOff = false → Completes (.canBusOffRecovery dt n) s fun t => t = u) ∧
    (canOn u n = true → (canOf u n).integrating = true → Completes (.canBusIntegration dt n) s fun t =>
      (canOf t n).integrating = false ∧ (canOf t n).record = (canOf u n).record) ∧
    ((canOn u n = false ∨ (canOf u n).integrating = false) → Completes (.canBusIntegration dt n) s fun t => t = u)

/-- PAIR_SET puts a record in force: in a pair the lane trains again, alone the half takes the token and the lane is
down; a record out of range gets ST_OUT_OF_RANGE. PAIR_STATUS reports the record and the status block. PAIR_HANDOVER
passes the token: the holder of a healthy shadow begins a handover, a healthy shadow asks for one, and either is
answered later; a partner that is not healthy gets ST_PARTNER, a half alone ST_MODE, another word ST_OUT_OF_RANGE.
ST_MODE on a shadow whose holder has no transition to SHADOW is the model's (log entry 141), and so are the bulk
bytes of a rebuild (log entry 1). PAIR_COMPARE reports a compare, or gets ST_NOT_FOUND (R352, R353, R366, R368). -/
def Obligations.PairIsCommanded : Prop :=
  ∀ (s u : State) (dt : Nat) (c : Cmd) (call : Call) (p : Bytes) (x : Compare), u = s.elapse dt → p = call.payload →
    (Accepted rowPairSet c u call → p.length = 16 →
      (pairOk p = true → u8 p 0 = 1 → Completes (.pairSet dt c) s fun t =>
        t.brd.record = pairOf p ∧ t.brd.link = 1 ∧ t.brd.pmode = none ∧ t.sys.token = u.sys.token ∧
        (u.brd.link = 2 → t.brd.flags.getLsbD 0 = true) ∧ Answered rowPairSet c call u t stOk []) ∧
      (pairOk p = true → u8 p 0 = 0 → Completes (.pairSet dt c) s fun t =>
        t.brd.record = pairOf p ∧ t.brd.link = 0 ∧ t.brd.pmode = none ∧ t.sys.token = true ∧
        Answered rowPairSet c call u t stOk []) ∧
      (pairOk p = false → Completes (.pairSet dt c) s fun t =>
        t.brd = u.brd ∧ t.sys.token = u.sys.token ∧ Failed rowPairSet c u t stOutOfRange)) ∧
    (Accepted rowPairStatus c u call → p.length = 0 → 64 ≤ call.cap → Completes (.pairStatus dt c) s fun t =>
      t.brd = u.brd ∧ ∃ w : Word, (u.brd.rebuild = [] → w = BitVec.ofNat 32 (bulkToSend u)) ∧
        Answered rowPairStatus c call u t stOk (pairBytes u.brd.record ++ le 1 u.brd.link ++ le 1 (tokenCode u)
          ++ le 1 (u.brd.pmode.getD 255) ++ le 1 (min u.brd.missed 255) ++ le32 (shadowHealth u)
          ++ le32 u.brd.partnerFirmware.toNat ++ le32 u.brd.partnerLedger.toNat ++ le32 w.toNat
          ++ le32 u.brd.mismatches.toNat ++ tsBytes u.brd.tokenAt
          ++ le32 (twos 32 (clampI (-2147483648) 2147483647 u.brd.offset)) ++ le32 0)) ∧
    (Accepted rowPairHandover c u call → p.length = 4 →
      (u32 p 0 = 0x5A560B03 → u.brd.record.paired = true →
        (u.sys.token = true → partnerHealthy u = true → Completes (.pairHandover dt c) s fun t =>
          t.brd.givingUp = true ∧ t.sys.token = true ∧ t.sys.mode = u.sys.mode ∧
          (u.brd.givingUp = false →
            Sent.braid 0 u.brd.seqIn untagged (.notice (.handover (balls u) (snapshotNow u))) ∈ sentSince u t) ∧
          ∃ d ∈ t.vcp.deferred, d.seq = call.seq ∧ d.sid = call.sid ∧ d.opcode = 0x0B03) ∧
        (u.sys.token = true → partnerHealthy u = false → Completes (.pairHandover dt c) s fun t =>
          t.brd = u.brd ∧ Failed rowPairHandover c u t stPartner) ∧
        (u.sys.token = false → u.sys.mode = .shadow → partnerHas u = true → healthOf u = 0 →
          (u.brd.former = modeCode .steer ∨ u.brd.former = modeCode .hold ∨ u.brd.former = modeCode .island) →
          Completes (.pairHandover dt c) s fun t => t.sys.token = false ∧ t.sys.mode = .shadow ∧
            Sent.braid 0 u.brd.seqIn untagged (.notice (.handover [] [])) ∈ sentSince u t ∧
            ∃ d ∈ t.vcp.deferred, d.seq = call.seq ∧ d.sid = call.sid ∧ d.opcode = 0x0B03) ∧
        (u.sys.token = false → u.sys.mode = .shadow → partnerHas u = true → healthOf u = 0 →
          u.brd.former ≠ modeCode .steer → u.brd.former ≠ modeCode .hold → u.brd.former ≠ modeCode .island →
          Completes (.pairHandover dt c) s fun t => t.brd = u.brd ∧ Failed rowPairHandover c u t stMode) ∧
        (u.sys.token = false → (u.sys.mode ≠ .shadow ∨ partnerHas u = false ∨ healthOf u ≠ 0) →
          Completes (.pairHandover dt c) s fun t => t.brd = u.brd ∧ Failed rowPairHandover c u t stPartner)) ∧
      (u32 p 0 = 0x5A560B03 → u.brd.record.paired = false → Completes (.pairHandover dt c) s fun t =>
        t.brd = u.brd ∧ Failed rowPairHandover c u t stMode) ∧
      (u32 p 0 ≠ 0x5A560B03 → Completes (.pairHandover dt c) s fun t =>
        t.brd = u.brd ∧ Failed rowPairHandover c u t stOutOfRange)) ∧
    (Accepted rowPairCompare c u call → p.length = 4 → 100 ≤ call.cap →
      (u.brd.record.paired = true → compareOf u (u32 p 0) = some x → Completes (.pairCompare dt c) s fun t =>
        t.brd = u.brd ∧ Answered rowPairCompare c call u t stOk
          ((x.own ++ zeros 48).take 48 ++ (x.partner ++ zeros 48).take 48 ++ le 1 x.outcome ++ zeros 3)) ∧
      ((u.brd.record.paired = false ∨ compareOf u (u32 p 0) = none) → Completes (.pairCompare dt c) s fun t =>
        t.brd = u.brd ∧ Failed rowPairCompare c u t stNotFound))

/-- The lane of a pair trains when its HELLO names the pair and the other side, numbers its waiting frames afresh and
asks for the next transfer of a rebuild; another HELLO, or no pair key, refuses it; no HELLO leaves it down. A lane
that goes down says so. A discarded frame is counted, and the same sequenced one a third time trains the lane again.
100 us after the first frame not acknowledged was sent, the frames from it on go again. A frame in order counts,
moves the acknowledged number and frees what it acknowledges; one out of order changes nothing. Heartbeats go out
every HB_MS, tell what is in force and renew the holder's lease; they are taken and missed, and the MISS-th miss, or
30 s after an announced reset the next one, makes a shadow ask for the token or take it (R355, R356, R358, R360,
R362, R364, R370). -/
def Obligations.BraidLaneRuns : Prop :=
  ∀ (s u : State) (dt m : Nat) (seq : Word) (h : BraidHead) (b : Beat) (x : Hello) (y : Option Hello)
      (core : Unacked → Word × Half × Frame) (q w : List (Half × Frame)) (rest : List Unacked), u = s.elapse dt →
    core = (fun z => (z.seq, z.tagged, z.frame)) →
    (u.brd.record.paired = true → pd u 11 = true → reinitRuns u 7 0 = false →
      ((braidSlot u).isSome = true →
        (x.pairId.toNat = u.brd.record.pairId → x.side ≠ u.brd.record.side →
          q = u.brd.unacked.map (fun z => (z.tagged, z.frame)) →
          w = ((u.brd.rebuild.head?).toList.filter (fun i => !u.brd.unacked.any (fun z => decide (z.frame = .request i)))).map
            (fun i => (untagged, .request i)) → Completes (.braidLinkTrain dt (some x)) s fun t =>
          t.brd.link = 2 ∧ t.brd.seqIn = 0 ∧ t.brd.unacked.map (fun z => (z.tagged, z.frame)) = q ++ w ∧
          t.brd.unacked.map (·.seq) = (List.range (q ++ w).length).map (fun k => BitVec.ofNat 32 (k + 1)) ∧
          t.brd.seqOut = BitVec.ofNat 32 (q ++ w).length ∧
          Sent.braid 0 0 untagged (.hello u.brd.record.pairId u.brd.record.side) ∈ sentSince u t ∧
          ∀ z ∈ t.brd.unacked.take 256, Sent.braid z.seq 0 z.tagged z.frame ∈ sentSince u t) ∧
        ((x.pairId.toNat ≠ u.brd.record.pairId ∨ x.side = u.brd.record.side) →
          Completes (.braidLinkTrain dt (some x)) s fun t => t.brd.link = 3 ∧ t.brd.flags.getLsbD 0 = true) ∧
        (Completes (.braidLinkTrain dt none) s fun t =>
          t.brd.link = 0 ∧ t.brd.pmode = none ∧ (u.brd.link = 2 → t.brd.flags.getLsbD 0 = true))) ∧
      (braidSlot u = none → Completes (.braidLinkTrain dt y) s fun t =>
        t.brd.link = 3 ∧ t.brd.flags.getLsbD 0 = true)) ∧
    ((u.brd.record.paired = false ∨ pd u 11 = false ∨ reinitRuns u 7 0 = true) →
      Completes (.braidLinkTrain dt y) s fun t => t = u) ∧
    (u.brd.link ≠ 0 → Completes (.braidLaneDown dt) s fun t => t.brd.link = 0 ∧ t.brd.pmode = none ∧
      (u.brd.link = 2 → t.brd.flags.getLsbD 0 = true ∧ (u.brd.flags.getLsbD 0 = false → Raised 96 t))) ∧
    (u.brd.link = 0 → Completes (.braidLaneDown dt) s fun t => t = u) ∧
    (linkUp u = true → everyDue u (u.brd.unacked.head?.bind (·.sentAt)) (100 * tickUs) = true →
      Completes (.braidResendTimeout dt) s fun t => t.brd.unacked.map core = u.brd.unacked.map core ∧
        t.brd.resent = u.brd.resent + BitVec.ofNat 32 (u.brd.unacked.take 256).length ∧
        ∀ z ∈ t.brd.unacked.take 256,
          z.sentAt = some (now u) ∧ Sent.braid z.seq u.brd.seqIn z.tagged z.frame ∈ sentSince u t) ∧
    ((linkUp u = false ∨ everyDue u (u.brd.unacked.head?.bind (·.sentAt)) (100 * tickUs) = false) →
      Completes (.braidResendTimeout dt) s fun t => t = u) ∧
    (linkUp u = true → m = (if seq ≠ 0 ∧ u.brd.discarded.1 = seq then u.brd.discarded.2 + 1 else 1) →
      (seq ≠ 0 → m < 3 → Completes (.braidFrameDiscard dt seq) s fun t =>
        t = { u with brd := { u.brd with bad := u.brd.bad + 1, discarded := (seq, m) } }) ∧
      (seq ≠ 0 → 3 ≤ m → Completes (.braidFrameDiscard dt seq) s fun t =>
        t.brd.bad = u.brd.bad + 1 ∧ t.brd.link = 1 ∧ t.brd.flags.getLsbD 0 = true) ∧
      (seq = 0 → Completes (.braidFrameDiscard dt seq) s fun t =>
        t = { u with brd := { u.brd with bad := u.brd.bad + 1 } })) ∧
    (linkUp u = false → Completes (.braidFrameDiscard dt seq) s fun t => t = u) ∧
    (inOrder h u = true → rest = u.brd.unacked.filter (fun z => decide (2 ^ 31 ≤ (h.ack - z.seq).toNat)) →
      Completes (.braidAckFrame dt h) s fun t =>
        t.brd.rx = u.brd.rx + 1 ∧ t.brd.seqIn = (if h.seq = 0 then u.brd.seqIn else h.seq) ∧
        t.brd.unacked.map core = rest.map core ∧
        (h.seq ≠ 0 → Sent.braid 0 h.seq untagged .ackOnly ∈ sentSince u t) ∧
        ∀ z ∈ (rest.take 256).drop (min 256 u.brd.unacked.length - (u.brd.unacked.length - rest.length)),
          Sent.braid z.seq t.brd.seqIn z.tagged z.frame ∈ sentSince u t) ∧
    (inOrder h u = false → Completes (.braidAckFrame dt h) s fun t => t = u) ∧
    (u.brd.record.paired = true → pd u 11 = true → u.sys.mode.live = true →
      everyDue u u.brd.beatSent (u.brd.record.hbMs * tickMs) = true → Completes (.heartbeatSend dt) s fun t =>
        t.brd.beatSent = some (now u) ∧ t.brd.health = healthOf u ∧
        (u.sys.token = true → t.brd.lease = some (now u + 2 * u.brd.record.hbMs * tickMs)) ∧
        (u.sys.token = false → t.brd.lease = u.brd.lease) ∧
        (linkUp u = true → ∃ p, Sent.braid 0 u.brd.seqIn untagged (.heartbeat p) ∈ sentSince u t ∧
          p.take 24 = le 1 (modeCode u.sys.mode) ++ le 1 (bit u.sys.token)
            ++ le 1 (bit (leaseValid t) + 2 * bit (decide (u.upd.stage = 5)) + 4 * bit (plantLatched u)) ++ [0]
            ++ le32 u.sys.firmware.toNat ++ le32 (ledgerInForce u).toNat
            ++ le32 (max (u.pln.next - 1) u.brd.topJob)
            ++ le32 (if u.sys.mode = .shadow then (healthOf u).toNat else 0) ++ le32 (configSequence u) ∧
          p.drop 24 = configDigest u ++ partSignature u 0 ++ partSignature u 1)) ∧
    ((u.brd.record.paired = false ∨ pd u 11 = false ∨ u.sys.mode.live = false ∨
        everyDue u u.brd.beatSent (u.brd.record.hbMs * tickMs) = false) →
      Completes (.heartbeatSend dt) s fun t => t = u) ∧
    (inOrder h u = true → Completes (.heartbeat dt h b) s fun t =>
      t.brd.beat = some b ∧ t.brd.lastBeat = some (now u) ∧ t.brd.missed = 0 ∧ t.brd.pmode = some b.mode ∧
      t.brd.partnerHolds = b.holds ∧ t.brd.partnerHealth = b.health ∧ t.brd.partnerFirmware = b.firmware ∧
      t.brd.partnerLedger = b.ledger ∧ t.brd.offset = b.offsetNs ∧ t.brd.announced = none ∧
      t.brd.topJob = max u.brd.topJob b.topJob.toNat ∧ t.brd.former = (if b.holds then b.mode else u.brd.former) ∧
      t.brd.offsetHigh = (if 100000 < b.offsetNs.natAbs then some (u.brd.offsetHigh.getD (now u)) else none) ∧
      t.brd.ledgerDiffers =
        (if b.ledger ≠ ledgerInForce u then some (u.brd.ledgerDiffers.getD (now u)) else none) ∧
      (u.brd.beat.isSome = true → u.brd.partnerHealth = 0 → b.health ≠ 0 → t.brd.flags.getLsbD 5 = true) ∧
      (u.brd.record.paired = true → u.sys.mode = .shadow → u.sys.token = false → u.board.ownIn = false →
        b.holds = true → u.brd.requesting = none → t.brd.flags.getLsbD 3 = true) ∧ t.sys = u.sys) ∧
    (inOrder h u = false → Completes (.heartbeat dt h b) s fun t => t = u) ∧
    (u.brd.record.paired = true → u.sys.mode = .shadow → m = u.brd.missed + 1 →
      passed u (missBase u) (m * u.brd.record.hbMs * tickMs) = true →
      (requestDue u m = false → Completes (.heartbeatMiss dt) s fun t => t = { u with brd := { u.brd with
        missed := m, hbMiss := u.brd.hbMiss + 1, lastMiss := some (now u) } }) ∧
      (requestDue u m = true → u.sys.token = false → u.board.ownIn = true → Completes (.heartbeatMiss dt) s fun t =>
        t = { u with brd := { u.brd with
          missed := m, hbMiss := u.brd.hbMiss + 1, lastMiss := some (now u), announced := none
          requesting := some (u.brd.requesting.getD (now u)), taking := 0x0007 } }) ∧
      (requestDue u m = true → u.sys.token = false → u.board.ownIn = false →
        Completes (.heartbeatMiss dt) s fun t => TookOver 0x0007 u t) ∧
      (requestDue u m = true → u.sys.token = true → Completes (.heartbeatMiss dt) s fun t =>
        t = { u with brd := { u.brd with
          missed := m, hbMiss := u.brd.hbMiss + 1, lastMiss := some (now u), announced := none } })) ∧
    ((u.brd.record.paired = false ∨ u.sys.mode ≠ .shadow ∨
        passed u (missBase u) ((u.brd.missed + 1) * u.brd.record.hbMs * tickMs) = false) →
      Completes (.heartbeatMiss dt) s fun t => t = u)

/-- A lease lapses at its time, and a REQUEST that stands then has the token. A REQUEST is answered by a half that has
begun a handover in a mode that may end in SHADOW, which releases the token and goes there with its jobs running on,
or by one whose lease is not valid, which yields; a half that waited to activate then does. HOLD against HOLD is
contention, which side B ends; within 2 us of its own take side B goes back to SHADOW, which is the model's reading
(log entry 140), and side A goes on; HOLD seen without the token answers a handover. RELEASED lets a half that
requests take the token, and tells a split. A REQUEST unanswered for 1 ms ends. The notices of release and PWRFAIL
ask for the token at once, that of handover with the carried values; on the holder it begins a handover (R64, R353
to R355, R364 to R366, R407). -/
def Obligations.TokenPasses : Prop :=
  ∀ (s u v w a : State) (dt n : Nat) (h : BraidHead) (outs : Table Word) (slots : Table SlotSnap) (k : NoticeKind)
      (acts gives asks : Bool) (d : Deferred), u = s.elapse dt → v = partnerExcites false u → w = partnerExcites true u →
    acts = decide (u.upd.stage = 4 ∧ u.upd.waiting.isSome = true ∧ partnerIsReady u = true) →
    gives = (u.brd.givingUp && loopsDrive u.sys.mode) →
    asks = (u.brd.requesting.isSome && !u.sys.token && decide (u.sys.mode = .shadow)) →
    (u.brd.lease = some n → n ≤ now u → u.brd.record.paired = true →
      (u.brd.requested = true → u.sys.token = true → Completes (.leaseLapse dt) s fun t =>
        t.brd.lease = none ∧ t.sys.token = false ∧ t.out.hold = none ∧ t.brd.flags.getLsbD 1 = true ∧
        t.sys.mode = u.sys.mode) ∧
      ((u.brd.requested = false ∨ u.sys.token = false) → Completes (.leaseLapse dt) s fun t =>
        t = { u with brd := { u.brd with lease := none } })) ∧
    ((u.brd.lease = none ∨ u.brd.lease = some n ∧ now u < n ∨ u.brd.record.paired = false) →
      Completes (.leaseLapse dt) s fun t => t = u) ∧
    (u.brd.record.paired = true → u.sys.token = true →
      (acts = false → gives = true → Completes (.ownInRequest dt) s fun t =>
        t.board.ownIn = false ∧ t.brd.requested = true ∧ t.sys.token = false ∧ t.sys.mode = .shadow ∧
        t.sys.cause = 0x0008 ∧ t.brd.givingUp = false ∧
        ∀ p r, p ≤ 1 → runningOf u p = some r → r.ended = none → r.phase ≠ 1 →
          (runningOf t p).map (fun z => (z.job.number, z.job.trigger, z.holderDone, z.ended)) =
            some (r.job.number, .partner, r.iterations, none)) ∧
      ((acts = false ∨ u.sys.mode ≠ .shadow) → gives = false → leaseValid u = false →
        Completes (.ownInRequest dt) s fun t =>
        t.board.ownIn = false ∧ t.brd.requested = true ∧ t.sys.token = false ∧ t.sys.mode = u.sys.mode ∧
        t.out.hold = none ∧ t.brd.flags.getLsbD 1 = true) ∧
      (gives = false → leaseValid u = true → Completes (.ownInRequest dt) s fun t =>
        t = { v with brd := { v.brd with requested := true } }) ∧
      (acts = true → alwaysOn u = true → (gives = true ∨ u.sys.mode = .shadow ∧ leaseValid u = false) →
        Completes (.ownInRequest dt) s fun t => t.pmu.resetCause = 0x07 ∧ t.sys.started = true)) ∧
    ((u.brd.record.paired = false ∨ u.sys.token = false) →
      ((acts = false ∨ u.sys.token = true ∨ u.sys.mode ≠ .shadow) → Completes (.ownInRequest dt) s fun t =>
        t = { v with brd := { v.brd with requested := true } }) ∧
      (acts = true → alwaysOn u = true → u.sys.token = false → u.sys.mode = .shadow →
        Completes (.ownInRequest dt) s fun t => t.pmu.resetCause = 0x07 ∧ t.sys.started = true)) ∧
    (u.brd.record.paired = true →
      (taking u = true → u.brd.record.side = true → Completes (.ownInHold dt) s fun t =>
        t.board.ownIn = true ∧ t.sys.token = false ∧ t.sys.mode = .shadow ∧ t.sys.cause = 0x0007) ∧
      (taking u = true → u.brd.record.side = false → Completes (.ownInHold dt) s fun t =>
        t = { w with brd := { w.brd with requested := false } }) ∧
      (taking u = false → u.sys.token = true → Completes (.ownInHold dt) s fun t =>
        t.board.ownIn = true ∧ t.brd.requested = false ∧ t.sys.mode = u.sys.mode ∧ t.brd.flags.getLsbD 4 = true ∧
        (u.brd.flags.getLsbD 4 = false → Raised 100 t) ∧
        t.sys.token = !u.brd.record.side ∧ t.brd.contention = !u.brd.record.side) ∧
      (u.sys.token = false → u.board.ownIn = false → Completes (.ownInHold dt) s fun t =>
        t.board.ownIn = true ∧ t.brd.requested = false ∧ t.sys = u.sys ∧
        (d ∈ u.vcp.deferred → d.opcode = 0x0B03 → answerTo d stOk ∈ sentSince u t) ∧
        t.vcp.deferred = u.vcp.deferred.filter (fun z => decide (z.opcode ≠ 0x0B03))) ∧
      (u.sys.token = false → u.board.ownIn = true → Completes (.ownInHold dt) s fun t =>
        t = { u with brd := { u.brd with requested := false } })) ∧
    (u.brd.record.paired = false → Completes (.ownInHold dt) s fun t =>
      t = { w with brd := { w.brd with requested := false } }) ∧
    (u.brd.record.paired = true →
      (asks = true → Completes (.ownInReleased dt) s fun t => t.board.ownIn = false ∧ TookOver u.brd.taking u t ∧
        (d ∈ u.vcp.deferred → d.opcode = 0x0B03 → u.brd.givingUp = false → answerTo d stOk ∈ sentSince u t)) ∧
      (u.sys.token = false → u.sys.mode = .shadow → u.brd.requesting = none → u.brd.partnerHolds = true →
        u.brd.missed = 0 → Completes (.ownInReleased dt) s fun t =>
          t.board.ownIn = false ∧ t.brd.requested = false ∧ t.brd.contention = false ∧
          t.brd.flags.getLsbD 3 = true ∧ (u.brd.flags.getLsbD 3 = false → Raised 99 t) ∧ t.sys = u.sys) ∧
      (asks = false → (u.sys.token = true ∨ u.sys.mode ≠ .shadow ∨ u.brd.partnerHolds = false ∨ u.brd.missed ≠ 0) →
        Completes (.ownInReleased dt) s fun t =>
          t = { v with brd := { v.brd with requested := false, contention := false } })) ∧
    (u.brd.record.paired = false → Completes (.ownInReleased dt) s fun t =>
      t = { v with brd := { v.brd with requested := false, contention := false } }) ∧
    (u.brd.requesting = some n → passed u n tickMs = true → Completes (.requestUnanswered dt) s fun t =>
      t.brd.requesting = none ∧ t.brd.flags.getLsbD 3 = true ∧ (u.brd.flags.getLsbD 3 = false → Raised 99 t) ∧
      t.sys = u.sys) ∧
    ((u.brd.requesting = none ∨ u.brd.requesting = some n ∧ passed u n tickMs = false) →
      Completes (.requestUnanswered dt) s fun t => t = u) ∧
    (inOrder h u = true → exec (.braidAckFrame dt h) s = .next a →
      (u.brd.record.paired = true → u.sys.token = false → u.sys.mode = .shadow →
        ((k = .release ∨ k = .pwrfail) → u.board.ownIn = true → Completes (.notice dt h k) s fun t =>
          t.brd.requesting = some (u.brd.requesting.getD (now u)) ∧ t.brd.taking = 0x0007 ∧ t.sys = u.sys) ∧
        ((k = .release ∨ k = .pwrfail) → u.board.ownIn = false → Completes (.notice dt h k) s fun t =>
          TookOver 0x0007 u t) ∧
        (u.board.ownIn = true → Completes (.notice dt h (.handover outs slots)) s fun t =>
          t.brd.requesting = some (u.brd.requesting.getD (now u)) ∧ t.brd.taking = 0x0008 ∧
          t.brd.handover = some (outs, slots) ∧ t.sys = u.sys ∧
          ∀ j z x, tfind slots j = some z → tfind u.lpe.slots j = some x → tfind t.lpe.slots j = some { x with
            i := z.i, u := z.u, yPrev := z.yPrev, ddPrev := z.ddPrev, sp := some z.sp }) ∧
        (u.board.ownIn = false → Completes (.notice dt h (.handover outs slots)) s fun t =>
          TookOver 0x0008 { u with brd := { u.brd with handover := some (outs, slots) } } t)) ∧
      (u.sys.token = true → partnerHealthy u = true → loopsDrive u.sys.mode = true →
        Completes (.notice dt h (.handover outs slots)) s fun t => t.brd.givingUp = true ∧ t.sys = u.sys ∧
          (u.brd.givingUp = false → Sent.braid 0 (if h.seq = 0 then u.brd.seqIn else h.seq) untagged
            (.notice (.handover (balls u) (snapshotNow u))) ∈ sentSince u t)) ∧
      (u.brd.record.paired = false → u.sys.token = false → u.sys.mode = .shadow →
        Completes (.notice dt h (.handover outs slots)) s fun t =>
          t.brd.handover = some (outs, slots) ∧ t.brd.requesting = u.brd.requesting ∧ t.sys = u.sys) ∧
      ((u.brd.record.paired = false ∨ u.sys.token = true ∨ u.sys.mode ≠ .shadow) → (k = .release ∨ k = .pwrfail) →
        Completes (.notice dt h k) s fun t => t = a) ∧
      ((u.sys.token = true ∧ (partnerHealthy u = false ∨ loopsDrive u.sys.mode = false) ∨
          u.sys.token = false ∧ u.sys.mode ≠ .shadow) →
        Completes (.notice dt h (.handover outs slots)) s fun t => t = a) ∧
      (Completes (.notice dt h .announcedReset) s fun t =>
        t = { a with brd := { a.brd with announced := some (now u + 30 * tickS) } }) ∧
      (Completes (.notice dt h .braidReinit) s fun t =>
        t = { a with brd := { a.brd with quietUntil := now u + 500 * tickMs } })) ∧
    (inOrder h u = false → Completes (.notice dt h k) s fun t => t = u)

/-- A half in SHADOW applies what the holder mirrors: it goes on from the integrators, clears the latches the holder
released where their inputs allow it, takes identity states, policy, job and partition records, the ledger, whose
fallback schedule it writes, and the estimate, declarations whole, and delta lists once nothing they follow is
waited for; outside SHADOW such a frame is only acknowledged, and out of order it changes nothing. Point records are
applied on either half: a host write as written with its PIN, a report when it is newer, its value unless the point
is pinned. Recorder records enter the intake as partner records, and are dropped while the permanent area is not
full (R155, R192, R286, R304, R359, R361, R367, R433). -/
def Obligations.MirroredStateIsApplied : Prop :=
  ∀ (s u a : State) (dt k n w : Nat) (h : BraidHead) (slots : Table SlotSnap) (z : SlotSnap) (x : Slot) (up : PairUpdate)
      (v : Word) (hash p : Bytes) (l : Ledger) (e : Estimate) (tt : Table Point) (rs : List MirrorPoint) (y : MirrorPoint)
      (g : Point) (pin plan : Bool) (qs : List PartnerRecord) (q : PartnerRecord) (c : Course) (i : Instr) (f : LedgerFrame)
      (entry : PartnerRecord → Intake), u = s.elapse dt →
    entry = (fun r => {
      record := { index := 0, opsec := r.opsec.toNat, cycle := (r.cycle ||| 0x02000000).toNat, code := r.code.toNat,
                  subject := r.subject.toNat, legalS := r.legalS.toNat, legalNs := r.legalNs.toNat,
                  repeats := r.repeats.toNat, aux := r.aux.toNat, data := r.data.toNat }
      partner := true, begun := false }) →
    ((i = .integrators dt h slots ∨ i = .pairStatusFrame dt h up ∨ i = .ledgerFrame dt h f ∨ i = .deltaFrame dt h p ∨
        i = .declareFrame dt h p) →
      (inOrder h u = false → Completes i s fun t => t = u) ∧
      (inOrder h u = true → u.sys.mode ≠ .shadow → exec (.braidAckFrame dt h) s = .next a →
        Completes i s fun t => t = a)) ∧
    ((i = .pointDelta dt h rs ∨ i = .recordFrame dt h qs) → inOrder h u = false → Completes i s fun t => t = u) ∧
    (inOrder h u = true → u.sys.mode = .shadow →
      (tfind u.lpe.slots k = some x → Completes (.integrators dt h slots) s fun t => t.brd.snapshot = slots ∧
        (tfind slots k = some z → tfind t.lpe.slots k = some { x with
          i := z.i, u := z.u, yPrev := z.yPrev, ddPrev := z.ddPrev, sp := some z.sp }) ∧
        (tfind slots k = none → tfind t.lpe.slots k = some x)) ∧
      (w < 32 → Completes (.pairStatusFrame dt h up) s fun t =>
        t.slc.latch.getLsbD w = (u.slc.latch.getLsbD w &&
          !(up.release.any (fun r => r.mask.getLsbD w) && mayRelease u w)) ∧
        (up.identity = [(k, n)] → (mtrChan t k).identity = n) ∧ (up.identity = [] → t.mtr.channels = u.mtr.channels) ∧
        (up.jobs = [] → up.policy = some (v, hash) →
          t.policy = some { word := v, hash := hash, approved := legal u, stale := false }) ∧
        (up.jobs = [] → up.policy = none → t.policy = u.policy) ∧
        (up.jobs = [p] → p.length = 156 → u8 p 0 = bit plan → slice p 1 3 = zeros 3 → recordOk plan (p.drop 4) = true →
          recordOf t plan = p.drop 4 ∧ recordOf t (!plan) = recordOf u (!plan)) ∧
        (up.jobs = [] → recordOf t plan = recordOf u plan) ∧
        t.slv.reaches = up.part.getD u.slv.reaches) ∧
      (Completes (.ledgerFrame dt h (.ledger l)) s fun t =>
        t.pln.ledger = some l ∧ t.pln.ledgerNumber = l.number.toNat ∧ t.pln.fallback = false ∧ t.pln.hold = holdNow t ∧
        (u.pln.writing = none → t.pln.writing = some (decide (fbSeq u.pln.banks.2 < fbSeq u.pln.banks.1), l)) ∧
        (u.pln.writing ≠ none → t.pln.writing = u.pln.writing ∧ t.pln.writeNext = some l)) ∧
      (Completes (.ledgerFrame dt h (.estimate e)) s fun t =>
        t.pln.estimate = some e ∧ t.pln.earlier = u.pln.estimate ∧ t.pln.ledger = u.pln.ledger) ∧
      (declareAll u.pts.points (rowsOf p 4 16 (u32 p 0)) = some tt → Completes (.declareFrame dt h p) s fun t =>
        t.pts.points = tt) ∧
      (declareAll u.pts.points (rowsOf p 4 16 (u32 p 0)) = none → Completes (.declareFrame dt h p) s fun t =>
        t.pts = u.pts) ∧
      (tagWaits u (u8 p 0) h.tagged = true → Completes (.deltaFrame dt h p) s fun t =>
        t.brd.held = u.brd.held ++ [p] ∧ t.courses = u.courses) ∧
      (tagWaits u (u8 p 0) h.tagged = false → residentCourse u (u8 p 0) = some c → slice p 4 16 = hSignature c.image →
        Completes (.deltaFrame dt h p) s fun t => t.brd.held = u.brd.held ∧
          (residentCourse t (u8 p 0)).map (·.image) =
            some ((rowsOf p 24 16 (u32 p 20)).foldl (applyDelta (u8 p 1)) c.image)) ∧
      (tagWaits u (u8 p 0) h.tagged = false →
        (residentCourse u (u8 p 0) = none ∨ residentCourse u (u8 p 0) = some c ∧ slice p 4 16 ≠ hSignature c.image) →
        Completes (.deltaFrame dt h p) s fun t => t.brd.held = u.brd.held ∧ t.courses = u.courses)) ∧
    (inOrder h u = true → rs.filter (fun r => decide (r.ident = y.ident)) = [y] → findPoint u y.ident = some g →
      y.ident / 65536 ≠ 0 →
      (y.hostPin = some pin → Completes (.pointDelta dt h rs) s fun t =>
        (findPoint t y.ident).map (fun o => (o.value, o.stored, o.source, o.pinned, o.reportSeq, o.updated, o.updates)) =
          some (y.value, y.quality, 2, pin, y.reportSeq, true, g.updates + 1)) ∧
      (y.hostPin = none → seqNewer y.reportSeq g.reportSeq = true → g.pinned = false →
        Completes (.pointDelta dt h rs) s fun t =>
          (findPoint t y.ident).map (fun o => (o.value, o.stored, o.source, o.pinned, o.reportSeq, o.updated, o.updates)) =
            some (y.value, y.quality, 3, false, y.reportSeq, true, g.updates + 1)) ∧
      (y.hostPin = none → seqNewer y.reportSeq g.reportSeq = true → g.pinned = true →
        Completes (.pointDelta dt h rs) s fun t =>
          (findPoint t y.ident).map (fun o => (o.value, o.stored, o.pinned, o.reportSeq, o.updates)) =
            some (g.value, g.stored, true, y.reportSeq, g.updates + 1)) ∧
      (y.hostPin = none → seqNewer y.reportSeq g.reportSeq = false → Completes (.pointDelta dt h rs) s fun t =>
        findPoint t y.ident = some g)) ∧
    (inOrder h u = true → Completes (.pointDelta dt h rs) s fun t =>
      ∀ j, (j / 65536 = 0 ∨ ∀ r ∈ rs, r.ident ≠ j) → findPoint t j = findPoint u j) ∧
    (inOrder h u = true →
      ((u.log.running = false ∨ (u.log.fifo.head?).any (·.begun) = true) → u.log.fifo.length + qs.length ≤ 64 →
        Completes (.recordFrame dt h qs) s fun t => t.log.fifo = u.log.fifo ++ qs.map entry) ∧
      (u.log.running = true → u.log.fifo = [] → u.log.permanent.length < 2048 →
        Completes (.recordFrame dt h [q]) s fun t =>
          t.log.fifo = [] ∧ t.log.partnerDrop = u.log.partnerDrop + 1) ∧
      (u.log.running = true → u.log.fifo = [] → 2048 ≤ u.log.permanent.length →
        Completes (.recordFrame dt h [q]) s fun t =>
          t.log.fifo = [{ entry q with record := { (entry q).record with index := u.log.next }, begun := true }]) ∧
      (64 ≤ u.log.fifo.length → Completes (.recordFrame dt h qs) s fun t => t.log.fifo.length = u.log.fifo.length))

/-- The holder's job runs on the shadow. JOB_START creates it with its compare; GATHER and ITER_DONE reach the job of
their tag. JOB_END gives the job its count: with as many iterations done it stops there, with one more at the
iterate before it, otherwise it goes on; the compare takes the hash and is judged when the shadow has its own: not
comparable, match or mismatch, which COMPARE tells the holder. A job that is gone without a hash cannot be compared.
A bulk transfer that ends brings a course, points, the estimate and the ledger, or a kept iterate, and the next is
asked for (R361, R363, R367, R368). -/
def Obligations.JobsAreMirrored : Prop :=
  ∀ (s u a : State) (dt p k o n : Nat) (h : BraidHead) (j : JobStartInfo) (vs : List (Dword × Nat)) (r : Running)
      (hash image sig b : Bytes) (y : Compare) (job : Word) (st : Half) (vectors : List (List Dword)) (i : Instr)
      (tag : Compare → Bool) (item : BulkItem) (rest : List Nat) (rs : List MirrorPoint) (ds : List Bytes) (m : MirrorPoint)
      (g : Point) (tt : Table Point) (e : Option Estimate) (l : Option Ledger), u = s.elapse dt →
    ((i = .jobStartFrame dt h j ∨ i = .gatherFrame dt h vs ∨ i = .iterDone dt h k ∨ i = .jobEndFrame dt h k hash) →
      (inOrder h u = false → Completes i s fun t => t = u) ∧
      (inOrder h u = true → u.sys.mode ≠ .shadow → exec (.braidAckFrame dt h) s = .next a →
        Completes i s fun t => t = a)) ∧
    (inOrder h u = true → u.sys.mode = .shadow →
      (p = partitionOf j.plan → Completes (.jobStartFrame dt h j) s fun t =>
        runningOf t p = some {
          job := { number := j.number.toNat, plan := j.plan, trigger := .partner, deadline := j.deadline,
                   t0 := referenceTime u j.plan (servoNs u) }
          record := j.record, phase := 1, wide := j.wide, estimate := j.estimate.toNat } ∧
        t.brd.compares.getLast? = some {
          job := j.number.toNat, partition := p, holderStart := j.startHash, holderEstimate := j.estimate.toNat } ∧
        j.number.toNat ≤ t.brd.topJob) ∧
      (p ≤ 1 → runningOf u p = some r → r.job.trigger = .partner → h.tagged = jobTag p r.job.number →
        (Completes (.gatherFrame dt h vs) s fun t => runningOf t p = some { r with holderGather := some vs }) ∧
        (Completes (.iterDone dt h k) s fun t => runningOf t p = some { r with holderDone := max r.holderDone k }) ∧
        (r.ended = none → r.phase = 3 → r.iterations = k → 0 < k → Completes (.jobEndFrame dt h k hash) s fun t =>
          (runningOf t p).map (fun z => (z.phase, z.iterations, z.iterate, z.holderEnd, z.ended)) =
            some (8, k, r.iterate, some k,
              some ((testsOf u { r with holderEnd := some k } r.iterate k).getD stIterLimit))) ∧
        (r.ended = none → r.phase = 3 → r.iterations = k + 1 → Completes (.jobEndFrame dt h k hash) s fun t =>
          (runningOf t p).map (fun z => (z.phase, z.iterations, z.iterate, z.holderEnd, z.ended.isSome)) =
            some (8, k, r.prior, some k, true)) ∧
        ((r.ended ≠ none ∨ r.phase ≠ 3 ∨ r.iterations ≠ k + 1 ∧ (r.iterations ≠ k ∨ k = 0)) →
          Completes (.jobEndFrame dt h k hash) s fun t => runningOf t p = some { r with holderEnd := some k })) ∧
      ((i = .gatherFrame dt h vs ∨ i = .iterDone dt h k ∨ i = .jobEndFrame dt h k hash) → p ≤ 1 →
        (runningOf u p = none ∨ runningOf u p = some r ∧ (r.job.trigger ≠ .partner ∨ h.tagged ≠ jobTag p r.job.number)) →
        Completes i s fun t => runningOf t p = runningOf u p) ∧
      (tag = (fun z => decide (jobTag z.partition z.job = h.tagged)) →
        (u.brd.compares.reverse.find? tag = some y → compareOf u y.job = some y → y.outcome = 0 →
          (y.own = [] → (runningOf u y.partition).map (·.job.number) = some y.job →
            Completes (.jobEndFrame dt h k hash) s fun t =>
              compareOf t y.job = some { y with partner := hash, count := some k }) ∧
          (y.own ≠ [] →
            o = (if y.differs ∨ y.iterations < k ∨ u.brd.partnerFirmware ≠ u.sys.firmware then 3
              else if y.own = hash then 1 else 2) → Completes (.jobEndFrame dt h k hash) s fun t =>
            (compareOf t y.job).map (fun z => (z.own, z.partner, z.outcome)) = some (y.own, hash, o) ∧
            t.brd.mismatches = (if o = 2 then u.brd.mismatches + 1 else u.brd.mismatches) ∧
            (o = 2 → t.brd.flags.getLsbD 2 = true) ∧
            (∃ z ∈ t.brd.unacked, z.frame = .compare (BitVec.ofNat 32 y.job) y.own o) ∧
            ((o = 2 ∨ o = 3 ∧ y.startDiffers = true) → ∃ z ∈ t.brd.unacked, z.frame = .request (4 + y.partition))) ∧
          (y.own = [] → (runningOf u y.partition).map (·.job.number) ≠ some y.job →
            Completes (.jobEndFrame dt h k hash) s fun t =>
              (compareOf t y.job).map (fun z => (z.own, z.outcome)) = some (zeros 48, 3))) ∧
        (u.brd.compares.reverse.find? tag = none → Completes (.jobEndFrame dt h k hash) s fun t =>
          t.brd.compares = u.brd.compares))) ∧
    (inOrder h u = true →
      (compareOf u job.toNat = some y → y.outcome = 0 → Completes (.compare dt h job hash o) s fun t =>
        (compareOf t job.toNat).map (fun z => (z.partner, z.outcome)) = some (hash, o) ∧
        (o = 2 → t.brd.flags.getLsbD 2 = true) ∧
        t.brd.mismatches = (if o = 2 then u.brd.mismatches + 1 else u.brd.mismatches)) ∧
      ((compareOf u job.toNat = none ∨ compareOf u job.toNat = some y ∧ y.outcome ≠ 0) →
        exec (.braidAckFrame dt h) s = .next a → Completes (.compare dt h job hash o) s fun t => t = a)) ∧
    (inOrder h u = false → Completes (.compare dt h job hash o) s fun t => t = u) ∧
    ((item = .course p image ∧ n = (if p = 0 then 0 else 3) ∨ item = .points rs ds ∧ n = 1 ∨
        item = .ledgers e l ∧ n = 2 ∨ item = .iterate p sig job st k hash vectors ∧ n = 4 + p) →
      rest = u.brd.rebuild.filter (fun z => decide (z ≠ n)) → Completes (.bulkTransferDone dt item) s fun t =>
        t.brd.rebuild = rest ∧
        (linkUp u = true → ∀ z, rest.head? = some z → ∃ f ∈ t.brd.unacked, f.frame = .request z) ∧
        (item = .course p image → image ≠ [] →
          (coursesOf t p).coming = some { bytes := image.length, image := memStore [] 0 image } ∧
          (coursesOf t p).resident = (coursesOf u p).resident) ∧
        (item = .course p image → image = [] → t.courses = u.courses) ∧
        (item = .points rs ds → ds = [] → rs.filter (fun z => decide (z.ident = m.ident)) = [m] →
          findPoint u m.ident = some g → m.ident / 65536 ≠ 0 → findPoint t m.ident = some (deltaPoint u m g)) ∧
        (item = .points rs ds → rs = [] → ds = [b] → declareAll u.pts.points (rowsOf b 4 16 (u32 b 0)) = some tt →
          t.pts.points = tt) ∧
        (item = .ledgers e l → t.pln.estimate = e.or u.pln.estimate ∧ t.pln.ledger = l.or u.pln.ledger) ∧
        (item = .iterate p sig job st k hash vectors → vectors ≠ [] →
          (tfind t.slv.kept p).map (fun z => (z.iterate.v, z.iterate.zl, z.iterate.zu, z.iterate.d, z.signature)) =
            some (vectors.getD 0 [], vectors.getD 1 [], vectors.getD 2 [], vectors.getD 3 [], sig) ∧
          (tfind t.slv.kept p).map (fun z => (z.job, z.status, z.t0, z.hash, z.replaced)) =
            some (job.toNat, st, k, hash, false)) ∧
        (item = .iterate p sig job st k hash vectors → vectors = [] → t.slv = u.slv))

/-- A step takes the command at the front of the queue, runs exec on the state with the queue's rest, and answers its
outcome; on an empty queue the block idles, which is the model's choice (log entry 3). -/
def Obligations.StepRunsTheFrontCommand : Prop :=
  ∀ (s : State) (c : Instr) (rest : List Instr),
    (s.pending = c :: rest → step s = exec c { s with pending := rest }) ∧ (s.pending = [] → step s = .next s)

/-- Every command answers a next state and leaves the queue as it was; no device reset that a command asked for is left
waiting. -/
def Obligations.CommandsLeaveTheQueue : Prop :=
  ∀ (c : Instr) (s : State), ∃ t, exec c s = .next t ∧ t.pending = s.pending ∧
    (s.sys.resetWanted = none → t.sys.resetWanted = none)

/-- No step takes a record out of the permanent area or changes one there, and the circulating area never holds more
than its 32,768 records (R428). -/
def Obligations.PermanentRecordsStay : Prop :=
  ∀ s t : State, step s = .next t →
    s.log.permanent <+: t.log.permanent ∧ (s.log.circulating.length ≤ 32768 → t.log.circulating.length ≤ 32768)

/-- Life-cycle fuses are only ever blown, one at a time or all of them, never more than the sixteen there are (R373,
R374). -/
def Obligations.FusesAreOnlyBlown : Prop :=
  ∀ s t : State, step s = .next t →
    (t.key.fuses = s.key.fuses ∨ t.key.fuses = s.key.fuses + 1 ∨ t.key.fuses = 16) ∧
    (s.key.fuses ≤ 16 → s.key.fuses ≤ t.key.fuses ∧ t.key.fuses ≤ 16)

/-- The configuration copies and the staged image keep their canonical form: addresses rising, no byte equal to what an
unlisted address reads as. -/
def Obligations.ConfigurationMemoryStaysCanonical : Prop :=
  ∀ s t : State, step s = .next t →
    Memory.wf s.cfg.copyA = true → Memory.wf s.cfg.copyB = true → Memory.wf s.cfg.staging = true →
    Memory.wf t.cfg.copyA = true ∧ Memory.wf t.cfg.copyB = true ∧ Memory.wf t.cfg.staging = true

/-- What the invariants of the other statements ask holds at reset, and the registers whose reset value the spec states
read so there: BOOT with cause 0x0001 and step 1 (R60), PMU_DOM_STAT 0x002 and PMU_RESET_CAUSE 0x01 (R98), every
event source masked and every vector armed (R456), UTC offset 37 (R351), NEXT_JOB 1 (R277), work area 0x1D00 MiB
(R249). The empty queue (log entry 3), the device's memories as the model delivers them (nothing recorded, no
configuration written, the fuses: log entry 60) are the model's choice, no rule of the spec. -/
def Obligations.ResetIsAsStated : Prop :=
  let r := State.reset
  r.pending = [] ∧ r.sys.resetWanted = none ∧ r.log.permanent = [] ∧ r.log.circulating.length ≤ 32768 ∧ r.key.fuses ≤ 16 ∧
  Memory.wf r.cfg.copyA = true ∧ Memory.wf r.cfg.copyB = true ∧ Memory.wf r.cfg.staging = true ∧
  r.sys.mode = .boot ∧ r.sys.cause = 0x0001 ∧ r.sys.bootStep = 1 ∧ r.pmu.powered = 0x002 ∧ r.pmu.resetCause = 0x01 ∧
  r.evt.pend = 0 ∧ r.evt.mask = BitVec.allOnes 192 ∧ r.evt.armed = BitVec.allOnes 64 ∧ r.tim.counter = 0 ∧
  r.tim.utcOffset = 37 ∧ r.pln.next = 1 ∧ workFree r = 7424 ∧ r.slc.enable = 0xFFFFFFFF ∧ r.slc.latch = 0

/-- A command that only reads leaves every block as it was but for what its answer itself moves: what is emitted, the
session and ring records, held messages, the sequence of a PRP pair, the contact timer, the number of the next free
value. -/
def Obligations.ReadsChangeNothing : Prop :=
  ∀ (s u t : State) (dt : Nat) (c : Cmd) (i : Instr), u = s.elapse dt → u.sys.resetWanted = none → exec i s = .next t →
    i ∈ [Instr.sysNop dt c, .sysInfo dt c, .sysStatus dt c, .modeGet dt c, .islandPolicyGet dt c,
      .adcSampleRead dt c, .mtrRead dt c, .mtrSnapRead dt c, .ptsRead dt c, .ptsSnapshot dt c, .ptsUnitStatus dt c,
      .crsInfo dt c, .jobResult dt c, .ledgerRead dt c, .loopRead dt c, .traceRead dt c, .slcStatus dt c,
      .outRead dt c, .canStatus dt c, .timRead dt c, .pairStatus dt c, .pairCompare dt c, .keyStatus dt c,
      .cfgRead dt c, .recRead dt c, .recInfo dt c, .dmpInfo dt c, .dmpRead dt c] →
    t = { u with sent := t.sent, vcp := t.vcp, pcie := t.pcie, free := t.free
                 net := { u.net with prp := t.net.prp }, sys := { u.sys with contact := t.sys.contact } }

/-- A command that sets something changes, beyond what every command's answer moves, only the blocks named beside it. -/
def Obligations.SettersKeepTheRest : Prop :=
  ∀ (s u t : State) (dt : Nat) (c : Cmd) (mean : SyscalMean) (tries : List I2cTry) (x : Bool) (i : Instr) (bs : List Block)
      (k : Block), u = s.elapse dt → u.sys.resetWanted = none → exec i s = .next t →
    (i, bs) ∈ [
      (Instr.sesChallenge dt c, ([.free] : List Block)), (.sesOpen dt c, [.free]),
      (.sesClose dt c, [.evt, .courses, .lpe]), (.islandPolicySet dt c, [.policy, .pln, .brd, .key]),
      (.adcChanSet dt c, [.evt, .adc, .pts]), (.adcSeqSet dt c, [.adc]), (.adcCalSet dt c, [.evt, .log, .adc]),
      (.adcSyscal dt c mean, [.free, .adc]), (.mtrChanSet dt c, [.mtr, .pts]), (.mtrTcompSet dt c, [.mtr]),
      (.mtrSensorAccept dt c tries, [.evt, .log, .mtr, .brd, .key]), (.mtrPulseSet dt c, [.mtr]),
      (.ptsDeclare dt c, [.pts, .brd, .key]), (.ptsWrite dt c, [.pts, .brd, .key]), (.ptsUnitSet dt c, [.pts]),
      (.crsBegin dt c, [.evt, .courses]), (.crsData dt c, [.courses]), (.crsCommit dt c, [.courses]),
      (.crsDelta dt c, [.courses, .pln, .brd, .key]), (.crsDrop dt c, [.courses]), (.jobRun dt c, [.slv, .pln]),
      (.jobAbort dt c, [.free, .evt, .slv, .pln]), (.partSet dt c, [.slv, .brd, .key]), (.loopSet dt c, [.pts, .lpe]),
      (.loopGainSet dt c, [.lpe]), (.loopEnable dt c, [.evt, .log, .pts, .lpe]), (.traceArm dt c, [.lpe]),
      (.outSet dt c, [.out]), (.outBind dt c, [.evt, .out]), (.slcSafeSet dt c, [.slc]),
      (.slcRelease dt c, [.evt, .log, .brd, .lpe, .slc, .key]), (.canChanSet dt c, [.evt, .can]),
      (.canObjSet dt c, [.can]), (.canSend dt c, [.can]), (.canCancel dt c, [.can]),
      (.timLegalSet dt c, [.evt, .tim, .log, .adc, .pts, .slv, .pln]), (.timPtpSet dt c, [.evt, .tim, .adc]),
      (.timServoSet dt c, [.evt, .tim]), (.pairSet dt c, [.evt, .log, .adc, .mtr, .brd, .can, .key]),
      (.pairHandover dt c, [.brd, .key]), (.keyDerive dt c, [.evt, .brd, .key]), (.keyUpdate dt c, [.evt, .brd, .key]),
      (.keyDestroy dt c x, [.evt, .brd, .key]), (.keyRoleSet dt c, [.evt, .courses, .lpe, .key]),
      (.lcAdvance dt c, [.free, .evt, .courses, .brd, .lpe, .key]), (.updBegin dt c, [.upd]),
      (.updData dt c, [.board, .upd]), (.updVerify dt c, [.board, .evt, .upd]), (.updArm dt c, [.upd]),
      (.updConfirm dt c, [.evt, .upd]), (.updStatus dt c, [.free, .upd]), (.updLock dt c, [.upd]),
      (.cfgStage dt c, [.cfg]), (.recClear dt c, [.evt, .log])] →
    k ∉ bs → k ∉ [Block.sent, .vcp, .pcie, .sys, .net] → Same k u t

/-- What happens outside the commands of a session changes only the blocks named beside it. -/
def Obligations.EventsKeepTheRest : Prop :=
  ∀ (s u t : State) (dt : Nat) (pll : Pll) (n n1 : Nat) (x x1 : Bool) (v : Byte) (at_ : Option Nat) (hs : Handshake)
    (w : Word) (cmp : Comparators) (z : Int) (o o1 o2 : Half) (tries : List I2cTry) (hello : UppHello) (rec :
    UppRecord) (notes : FabricNotes) (err : Option CanError) (frame : CanFrame) (sync : Sync) (ann : Announce) (net :
    NetFrame) (peer : Option Hello) (head : BraidHead) (beat : Beat) (slots : Table SlotSnap) (start : JobStartInfo)
    (values : List (Dword × Nat)) (b : Bytes) (ledger : LedgerFrame) (points : List MirrorPoint) (records : List
    PartnerRecord) (item : BulkItem) (pcie : PcieConfig) (fault : CanError) (send : PtpSend) (delay : PtpDelay) (i :
    Instr) (bs : List Block) (k : Block),
    u = s.elapse dt → exec i s = .next t →
    (i, bs) ∈ [
      (Instr.pciePerstN dt, ([.sys, .evt, .vcp, .courses, .lpe] : List Block)),
      (.functionLevelReset dt, [.sys, .evt, .vcp, .courses, .lpe]), (.pllRelock dt pll, [.pmu, .tim]),
      (.vbatMeasure dt n, [.pmu, .evt]), (.fabLingerExpiry dt x, [.pmu, .slv]),
      (.shortSummary dt, [.free, .sys, .evt, .dmp]), (.tamperDetect dt v, [.free, .evt, .brd, .key]),
      (.vaultRefresh dt, [.free, .key]), (.rtcRealign dt, [.rtc]), (.timCntLRead dt n n1, [.tim, .mtr]),
      (.mtrAccLRead dt n n1, [.tim, .mtr]), (.msixVectorUnmask dt at_, []), (.evtHoldoffExpiry dt n, [.evt]),
      (.spiReadStatus dt, [.vcp]), (.spiReadResponse dt n, [.vcp]),
      (.vcpDtlsHandshake dt hs, [.sys, .evt, .vcp, .net, .courses, .lpe]),
      (.sessionIdleTimeout dt w, [.sys, .evt, .vcp, .courses, .lpe]),
      (.dtlsAssociationClose dt n, [.sys, .evt, .vcp, .courses, .lpe]), (.outputHoldTimeout dt, [.evt, .out]),
      (.calibrationIdleExpiry dt n, [.evt, .log, .adc]), (.sarConversionDone dt n n1 cmp, [.evt, .adc, .pts]),
      (.meteringSample dt n z cmp, [.evt, .adc, .mtr, .pts]),
      (.urgentConversionDone dt n n1 cmp, [.free, .evt, .log, .adc, .pts, .lpe, .out]),
      (.countingEdge dt n x x1, [.evt, .adc, .mtr, .pts]), (.referenceMeasure dt o o1, [.evt, .adc]),
      (.referenceReady dt x, [.adc]), (.meteringPeriodClose dt, [.free, .evt, .log, .adc, .mtr, .pts, .brd, .key]),
      (.thermalTick dt n, [.evt, .mtr]), (.accumulatorSecondWrite dt, [.mtr]), (.pulseEmit dt n, [.mtr]),
      (.sensorIdentityRead dt n tries, [.evt, .log, .mtr, .brd, .key]), (.uppClientHello dt hello, [.net, .pts]),
      (.uppDatagram dt rec, [.evt, .log, .net, .pts]), (.pointEngineApply dt, [.net, .pts, .brd, .key]),
      (.slotWindowStart dt n, [.pts]), (.throttleExpiry dt n, [.pts]), (.unitSilent dt n, [.evt, .pts]),
      (.periodTrigger dt n, [.evt, .slv, .pln]), (.eventTrigger dt n, [.evt, .slv, .pln]),
      (.jobStart dt n, [.pmu, .evt, .courses, .slv, .pln, .brd, .key]),
      (.workAreaAvailable dt n, [.pmu, .courses, .slv, .pln, .brd, .key]),
      (.jobIterationEnd dt n notes, [.evt, .slv, .brd, .key]), (.jobDeadline dt n, [.slv]),
      (.scheduleStall dt n, [.evt, .slv]), (.jobEnd dt n, [.pmu, .evt, .log, .courses, .slv, .pln, .brd, .key]),
      (.pendingJobStart dt n, [.evt, .slv, .pln]), (.fallbackWriteDone dt, [.pln]),
      (.transientHoldRaise dt, [.evt, .pln]), (.transientHoldEnd dt, [.evt, .pln]),
      (.forecastReplay dt, [.courses, .pln]),
      (.loopEvaluation dt n, [.free, .evt, .log, .adc, .pts, .pln, .lpe, .out]),
      (.integratorSnapshot dt, [.brd, .lpe, .key]), (.statusPortRead dt n, []),
      (.loopEngineRestart dt, [.free, .sys, .evt, .vcp, .log, .net, .pts, .pln, .lpe, .out]),
      (.canDueInstant dt n n1, [.free, .evt, .pln, .can]), (.canArbitrationEnd dt n x, [.vcp, .net, .can]),
      (.canFrameEnd dt n err, [.free, .evt, .vcp, .net, .can]),
      (.canFrameReceived dt n n1 frame, [.free, .evt, .pts, .can]), (.canBusOff dt n, [.evt, .vcp, .net, .can]),
      (.canBusOffRecovery dt n, [.can]), (.canBusIntegration dt n, [.can]),
      (.ptpSync dt n sync, [.evt, .tim, .log, .adc, .pts, .slv, .pln]), (.legalRateSet dt, [.evt, .tim]),
      (.announceReceiptTimeout dt n, [.evt, .tim, .adc]), (.holdSExpiry dt, [.tim]),
      (.ptpAnnounce dt n ann, [.evt, .tim, .adc]), (.leapApply dt, [.tim]),
      (.sgmiiLinkChange dt n x n1, [.evt, .tim, .net, .adc]), (.netFrameReceived dt net, [.evt, .net]),
      (.prpSupervision dt n, [.net]), (.braidLinkTrain dt peer, [.evt, .brd, .key]),
      (.braidResendTimeout dt, [.brd, .key]), (.heartbeatSend dt, [.brd, .key]),
      (.heartbeat dt head beat, [.evt, .brd, .key]), (.leaseLapse dt, [.sys, .evt, .adc, .brd, .out, .can]),
      (.requestUnanswered dt, [.evt, .brd]), (.integrators dt head slots, [.brd, .lpe, .key]),
      (.jobStartFrame dt head start, [.free, .pmu, .evt, .log, .courses, .slv, .pln, .brd, .key]),
      (.gatherFrame dt head values, [.slv, .brd, .key]), (.iterDone dt head n, [.slv, .brd, .key]),
      (.jobEndFrame dt head n b, [.evt, .log, .slv, .brd, .key]), (.compare dt head w b n, [.evt, .log, .brd, .key]),
      (.ledgerFrame dt head ledger, [.evt, .pln, .brd, .key]), (.deltaFrame dt head b, [.courses, .pln, .brd, .key]),
      (.declareFrame dt head b, [.pts, .brd, .key]), (.pointDelta dt head points, [.pts, .brd, .key]),
      (.recordFrame dt head records, [.evt, .log, .brd, .key]),
      (.bulkTransferDone dt item, [.evt, .pts, .courses, .slv, .pln, .brd, .key]),
      (.keyOperationDone dt n, [.evt, .key]), (.pairKeySwitch dt, [.key]), (.previousPairKeyExpiry dt, [.key]),
      (.updateHolderLapse dt, [.evt, .upd]), (.recorderReport dt o o1 o2 w, [.evt, .log]),
      (.recordWriteDone dt, [.log, .brd, .key]), (.tripInputInactive dt n, [.board, .slc]),
      (.vbatApplied dt, [.board, .evt, .rtc, .brd, .key]), (.pcieConfigWrite dt pcie, [.evt]),
      (.ethernetLinkChange dt n x, [.net]), (.canReceiveError dt n fault n1, [.evt, .can]),
      (.ptpMessageInterval dt n send, [.tim]),
      (.ptpDelayMessage dt n delay, [.evt, .tim, .log, .adc, .pts, .slv, .pln]), (.braidLaneDown dt, [.evt, .brd]),
      (.braidFrameDiscard dt w, [.evt, .brd]), (.braidAckFrame dt head, [.brd, .key]), (.loopAliveToggle dt, [.lpe]),
      (.actWaitExpiry dt, [.evt, .upd])] →
    k ∉ bs → k ∉ [Block.sent, .pcie] → Same k u t

/-- R296: OUT_BIND binds an output to a slot or to none, refuses every other output or source, leaves other outputs'
sources alone, and acts at once. -/
def Obligations.OutBindIsR296 : Prop :=
  ∀ (s u : State) (dt o src : Nat) (c : Cmd) (call : Call), u = s.elapse dt → Accepted rowOutBind c u call →
    call.payload.length = 4 → o = u16 call.payload 0 → src = u16 call.payload 2 →
    (o ≤ 111 → gpioInput u o = false → (src ≤ 0x3FF ∨ src = 0xFFFF) → Completes (.outBind dt c) s fun t =>
      boundSlot t o = (if src = 0xFFFF then none else some src) ∧ (∀ k, k ≠ o → boundSlot t k = boundSlot u k) ∧
      Answered rowOutBind c call u t stOk []) ∧
    ((111 < o ∨ gpioInput u o = true ∨ (0x3FF < src ∧ src ≠ 0xFFFF)) → Completes (.outBind dt c) s fun t =>
      t.out = u.out ∧ Failed rowOutBind c u t stOutOfRange)

/-- R435: REC_INFO returns the two counts, the oldest circulating index (of an empty area the index that comes next) and
the newest index, or 0xFFFF_FFFF before the first record. -/
def Obligations.RecInfoIsR435 : Prop :=
  ∀ (s u : State) (dt old new : Nat) (c : Cmd) (call : Call), u = s.elapse dt → Accepted rowRecInfo c u call →
    call.payload = [] → 16 ≤ call.cap →
    (u.log.circulating = [] → old = u.log.next) → (∀ r rs, u.log.circulating = r :: rs → old = r.index) →
    (u.log.newest = none → new = 0xFFFFFFFF) → (∀ n, u.log.newest = some n → new = n) →
    Completes (.recInfo dt c) s fun t => t.log = u.log ∧ Answered rowRecInfo c call u t stOk
      (le32 u.log.permanent.length ++ le32 u.log.circulating.length ++ le32 old ++ le32 new)

/-- R422: CFG_READ returns the sequence and bytes of a copy, 0 CFG_A, 1 CFG_B, 2 the one in force, and refuses a count,
a range and a copy as the rule says. -/
def Obligations.CfgReadIsR422 : Prop :=
  ∀ (s u : State) (dt n count off : Nat) (c : Cmd) (call : Call) (m : Memory), u = s.elapse dt →
    Accepted rowCfgRead c u call → call.payload.length = 8 → n = u8 call.payload 0 → n ≤ 2 → u8 call.payload 1 = 0 →
    count = u16 call.payload 2 → off = u32 call.payload 4 →
    ((count = 0 ∨ 16380 < count) → Completes (.cfgRead dt c) s fun t => t.cfg = u.cfg ∧ Failed rowCfgRead c u t stReadCount) ∧
    (1 ≤ count → count ≤ 16380 → 4 + count ≤ call.cap →
      (n = 2 → u.cfg.inForce ≠ 1 → u.cfg.inForce ≠ 2 → Completes (.cfgRead dt c) s fun t =>
        t.cfg = u.cfg ∧ Failed rowCfgRead c u t stNotFound) ∧
      (((n = 0 ∨ (n = 2 ∧ u.cfg.inForce = 1)) ∧ m = u.cfg.copyA) ∨
          ((n = 1 ∨ (n = 2 ∧ u.cfg.inForce = 2)) ∧ m = u.cfg.copyB) →
        (img32 m 0 ≠ 0x47465A56 → Completes (.cfgRead dt c) s fun t =>
          t.cfg = u.cfg ∧ Failed rowCfgRead c u t stNotFound) ∧
        (img32 m 0 = 0x47465A56 → 128 + img32 m 12 < off + count → Completes (.cfgRead dt c) s fun t =>
          t.cfg = u.cfg ∧ Failed rowCfgRead c u t stOutOfRange) ∧
        (img32 m 0 = 0x47465A56 → off + count ≤ 128 + img32 m 12 → Completes (.cfgRead dt c) s fun t =>
          t.cfg = u.cfg ∧ Answered rowCfgRead c call u t stOk (le32 (img32 m 8) ++ memLoad m off count))))
end

