-- ==== Sys2Proof/Laws/Memory.lean ====
section
/-! SUPPORT. The byte memories: reading what was written, leaving every other address alone, and the canonical form,
which every operation over them keeps; with it equal memories are equal lists. -/

set_option Elab.async false

namespace Sys2Proof.Laws

open Sys2Proof

@[simp] theorem memRead_nil (a : Nat) : memRead [] a = 0 := rfl

/-- A smaller bound asks less. -/
theorem memWfFrom_mono {lo hi : Nat} {m : Memory} (h : memWfFrom hi m = true) (l : lo ≤ hi) : memWfFrom lo m = true := by
  cases m with
  | nil => rfl
  | cons c m =>
    obtain ⟨k, v⟩ := c
    simp only [memWfFrom, Bool.and_eq_true, decide_eq_true_eq] at h ⊢
    exact ⟨⟨by omega, h.1.2⟩, h.2⟩

/-- Below its bound a canonical memory lists nothing. -/
theorem memRead_below {lo a : Nat} {m : Memory} (h : memWfFrom lo m = true) (l : a < lo) : memRead m a = 0 := by
  induction m generalizing lo with
  | nil => rfl
  | cons c m ih =>
    obtain ⟨k, v⟩ := c
    simp only [memWfFrom, Bool.and_eq_true, decide_eq_true_eq] at h
    simp only [memRead, if_neg (show ¬ k = a by omega)]
    exact ih h.2 (by omega)

/-- A byte written keeps the canonical form above a bound. -/
theorem memWrite_wfFrom {lo a : Nat} {m : Memory} (v : Byte) (h : memWfFrom lo m = true) (l : lo ≤ a) :
    memWfFrom lo (memWrite m a v) = true := by
  induction m generalizing lo with
  | nil =>
    unfold memWrite
    split
    · rfl
    · rename_i hv
      simp only [memWfFrom, Bool.and_eq_true, decide_eq_true_eq]
      exact ⟨⟨l, hv⟩, trivial⟩
  | cons c m ih =>
    obtain ⟨k, x⟩ := c
    simp only [memWfFrom, Bool.and_eq_true, decide_eq_true_eq] at h
    obtain ⟨⟨h1, h2⟩, h3⟩ := h
    unfold memWrite
    split
    · rename_i lt
      split
      · simp only [memWfFrom, Bool.and_eq_true, decide_eq_true_eq]
        exact ⟨⟨h1, h2⟩, h3⟩
      · rename_i hv
        simp only [memWfFrom, Bool.and_eq_true, decide_eq_true_eq]
        exact ⟨⟨l, hv⟩, ⟨by omega, h2⟩, h3⟩
    · split
      · rename_i e
        subst e
        split
        · exact memWfFrom_mono h3 (by omega)
        · rename_i hv
          simp only [memWfFrom, Bool.and_eq_true, decide_eq_true_eq]
          exact ⟨⟨l, hv⟩, h3⟩
      · simp only [memWfFrom, Bool.and_eq_true, decide_eq_true_eq]
        exact ⟨⟨h1, h2⟩, ih h3 (by omega)⟩

/-- A byte written keeps the canonical form. -/
theorem memWrite_wf {m : Memory} (a : Nat) (v : Byte) (h : Memory.wf m = true) : Memory.wf (memWrite m a v) = true :=
  memWrite_wfFrom v h (Nat.zero_le a)

/-- A string written keeps the canonical form. -/
theorem memStore_wf (bs : Bytes) : ∀ {m : Memory} (a : Nat), Memory.wf m = true → Memory.wf (memStore m a bs) = true := by
  induction bs with
  | nil => intro m a h; exact h
  | cons b bs ih => intro m a h; exact ih (a + 1) (memWrite_wf a b h)

/-- A byte written leaves every other address as it read. -/
theorem memRead_write_ne {m : Memory} {a b : Nat} (v : Byte) (h : b ≠ a) : memRead (memWrite m a v) b = memRead m b := by
  induction m with
  | nil =>
    unfold memWrite
    split
    · rfl
    · simp only [memRead, if_neg h.symm]
  | cons c m ih =>
    obtain ⟨k, x⟩ := c
    unfold memWrite
    split
    · split
      · rfl
      · simp [memRead, h.symm]
    · split
      · rename_i e
        subst e
        split <;> simp [memRead, h.symm]
      · simp [memRead, ih]

/-- A byte written in a canonical memory reads back. -/
theorem memRead_write_same {m : Memory} {lo a : Nat} (v : Byte) (h : memWfFrom lo m = true) :
    memRead (memWrite m a v) a = v := by
  induction m generalizing lo with
  | nil =>
    unfold memWrite
    split
    · rename_i hv
      exact hv.symm
    · simp only [memRead, if_true]
  | cons c m ih =>
    obtain ⟨k, x⟩ := c
    simp only [memWfFrom, Bool.and_eq_true, decide_eq_true_eq] at h
    unfold memWrite
    split
    · rename_i lt
      split
      · rename_i hv
        simp only [memRead, if_neg (show ¬ k = a by omega), hv]
        exact memRead_below h.2 (by omega)
      · simp [memRead]
    · split
      · rename_i e
        subst e
        split
        · rename_i hv
          rw [hv]
          exact memRead_below h.2 (by omega)
        · simp [memRead]
      · rename_i ne
        simp only [memRead, if_neg (show ¬ k = a by omega)]
        exact ih h.2

/-- A string written in a canonical memory: inside its range the string's byte, outside it what was there. -/
theorem memRead_store (bs : Bytes) : ∀ {m : Memory} (a b : Nat), Memory.wf m = true →
    memRead (memStore m a bs) b = if a ≤ b ∧ b < a + bs.length then bs.getD (b - a) 0 else memRead m b := by
  induction bs with
  | nil => intro m a b _; rw [if_neg (by simp only [List.length_nil]; omega)]; rfl
  | cons x bs ih =>
    intro m a b h
    rw [memStore, ih (a + 1) b (memWrite_wf a x h)]
    by_cases e : b = a
    · subst e
      rw [if_neg (by omega), memRead_write_same x h, if_pos (by simp)]
      simp
    · rw [memRead_write_ne x e]
      by_cases r : a + 1 ≤ b ∧ b < a + 1 + bs.length
      · rw [if_pos r, if_pos (by simp only [List.length_cons]; omega)]
        obtain ⟨n, rfl⟩ : ∃ n, b = a + 1 + n := ⟨b - (a + 1), by omega⟩
        have e1 : a + 1 + n - (a + 1) = n := by omega
        have e2 : a + 1 + n - a = n + 1 := by omega
        rw [e1, e2, List.getD_cons_succ]
      · rw [if_neg r, if_neg (by simp only [List.length_cons]; omega)]

/-- The memories of the state after reset list nothing, and so are canonical. -/
theorem reset_memories : Sys2Proof.Machine.State.reset.cfg.copyA = [] ∧ Sys2Proof.Machine.State.reset.cfg.copyB = [] ∧
    Sys2Proof.Machine.State.reset.cfg.staging = [] ∧ Sys2Proof.Machine.State.reset.upd.image = [] := ⟨rfl, rfl, rfl, rfl⟩

end Sys2Proof.Laws
end

