-- ==== Sys2Proof/Laws/State.lean ====
section
/-! SUPPORT. The updates of the state: for each shared update the fields it leaves as they were, one conjunct a field,
true by rfl, and for the plainest updates the field they change. A later proof cites these and unfolds no record update. -/

set_option Elab.async false

namespace Sys2Proof.Laws

open Sys2Proof Sys2Proof.Machine

/-! ### What each shared update leaves alone -/

@[simp] theorem emit_frame (e) (s : State) :
    (emit e s).pending = s.pending ∧ (emit e s).free = s.free ∧ (emit e s).board = s.board ∧ (emit e s).sys = s.sys ∧
    (emit e s).policy = s.policy ∧ (emit e s).pmu = s.pmu ∧ (emit e s).evt = s.evt ∧ (emit e s).pcie = s.pcie ∧
    (emit e s).vcp = s.vcp ∧ (emit e s).tim = s.tim ∧ (emit e s).rtc = s.rtc ∧ (emit e s).log = s.log ∧
    (emit e s).dmp = s.dmp ∧ (emit e s).net = s.net ∧ (emit e s).mem = s.mem ∧ (emit e s).adc = s.adc ∧
    (emit e s).mtr = s.mtr ∧ (emit e s).pts = s.pts ∧ (emit e s).courses = s.courses ∧ (emit e s).slv = s.slv ∧
    (emit e s).pln = s.pln ∧ (emit e s).brd = s.brd ∧ (emit e s).lpe = s.lpe ∧ (emit e s).out = s.out ∧
    (emit e s).slc = s.slc ∧ (emit e s).can = s.can ∧ (emit e s).key = s.key ∧ (emit e s).upd = s.upd ∧
    (emit e s).cfg = s.cfg := by
  and_intros <;> rfl

@[simp] theorem tickFree_frame (s : State) (n) :
    (tickFree s n).pending = s.pending ∧ (tickFree s n).sent = s.sent ∧ (tickFree s n).board = s.board ∧
    (tickFree s n).sys = s.sys ∧ (tickFree s n).policy = s.policy ∧ (tickFree s n).pmu = s.pmu ∧
    (tickFree s n).evt = s.evt ∧ (tickFree s n).pcie = s.pcie ∧ (tickFree s n).vcp = s.vcp ∧
    (tickFree s n).tim = s.tim ∧ (tickFree s n).rtc = s.rtc ∧ (tickFree s n).log = s.log ∧
    (tickFree s n).dmp = s.dmp ∧ (tickFree s n).net = s.net ∧ (tickFree s n).mem = s.mem ∧
    (tickFree s n).adc = s.adc ∧ (tickFree s n).mtr = s.mtr ∧ (tickFree s n).pts = s.pts ∧
    (tickFree s n).courses = s.courses ∧ (tickFree s n).slv = s.slv ∧ (tickFree s n).pln = s.pln ∧
    (tickFree s n).brd = s.brd ∧ (tickFree s n).lpe = s.lpe ∧ (tickFree s n).out = s.out ∧
    (tickFree s n).slc = s.slc ∧ (tickFree s n).can = s.can ∧ (tickFree s n).key = s.key ∧
    (tickFree s n).upd = s.upd ∧ (tickFree s n).cfg = s.cfg := by
  and_intros <;> rfl

@[simp] theorem noteFront_frame (s : State) :
    (noteFront s).pending = s.pending ∧ (noteFront s).sent = s.sent ∧ (noteFront s).free = s.free ∧
    (noteFront s).board = s.board ∧ (noteFront s).sys = s.sys ∧ (noteFront s).policy = s.policy ∧
    (noteFront s).pmu = s.pmu ∧ (noteFront s).evt = s.evt ∧ (noteFront s).pcie = s.pcie ∧ (noteFront s).vcp = s.vcp ∧
    (noteFront s).tim = s.tim ∧ (noteFront s).rtc = s.rtc ∧ (noteFront s).log = s.log ∧ (noteFront s).dmp = s.dmp ∧
    (noteFront s).net = s.net ∧ (noteFront s).mem = s.mem ∧ (noteFront s).mtr = s.mtr ∧ (noteFront s).pts = s.pts ∧
    (noteFront s).courses = s.courses ∧ (noteFront s).slv = s.slv ∧ (noteFront s).pln = s.pln ∧
    (noteFront s).brd = s.brd ∧ (noteFront s).lpe = s.lpe ∧ (noteFront s).out = s.out ∧ (noteFront s).slc = s.slc ∧
    (noteFront s).can = s.can ∧ (noteFront s).key = s.key ∧ (noteFront s).upd = s.upd ∧ (noteFront s).cfg = s.cfg := by
  and_intros <;> rfl

@[simp] theorem pmuSet_frame (b) (s : State) :
    (pmuSet b s).pending = s.pending ∧ (pmuSet b s).sent = s.sent ∧ (pmuSet b s).free = s.free ∧
    (pmuSet b s).board = s.board ∧ (pmuSet b s).sys = s.sys ∧ (pmuSet b s).policy = s.policy ∧
    (pmuSet b s).evt = s.evt ∧ (pmuSet b s).pcie = s.pcie ∧ (pmuSet b s).vcp = s.vcp ∧ (pmuSet b s).tim = s.tim ∧
    (pmuSet b s).rtc = s.rtc ∧ (pmuSet b s).log = s.log ∧ (pmuSet b s).dmp = s.dmp ∧ (pmuSet b s).net = s.net ∧
    (pmuSet b s).mem = s.mem ∧ (pmuSet b s).adc = s.adc ∧ (pmuSet b s).mtr = s.mtr ∧ (pmuSet b s).pts = s.pts ∧
    (pmuSet b s).courses = s.courses ∧ (pmuSet b s).slv = s.slv ∧ (pmuSet b s).pln = s.pln ∧
    (pmuSet b s).brd = s.brd ∧ (pmuSet b s).lpe = s.lpe ∧ (pmuSet b s).out = s.out ∧ (pmuSet b s).slc = s.slc ∧
    (pmuSet b s).can = s.can ∧ (pmuSet b s).key = s.key ∧ (pmuSet b s).upd = s.upd ∧ (pmuSet b s).cfg = s.cfg := by
  and_intros <;> rfl

@[simp] theorem cmdErr_frame (b) (s : State) :
    (cmdErr b s).pending = s.pending ∧ (cmdErr b s).sent = s.sent ∧ (cmdErr b s).free = s.free ∧
    (cmdErr b s).board = s.board ∧ (cmdErr b s).sys = s.sys ∧ (cmdErr b s).policy = s.policy ∧
    (cmdErr b s).pmu = s.pmu ∧ (cmdErr b s).evt = s.evt ∧ (cmdErr b s).pcie = s.pcie ∧ (cmdErr b s).tim = s.tim ∧
    (cmdErr b s).rtc = s.rtc ∧ (cmdErr b s).log = s.log ∧ (cmdErr b s).dmp = s.dmp ∧ (cmdErr b s).net = s.net ∧
    (cmdErr b s).mem = s.mem ∧ (cmdErr b s).adc = s.adc ∧ (cmdErr b s).mtr = s.mtr ∧ (cmdErr b s).pts = s.pts ∧
    (cmdErr b s).courses = s.courses ∧ (cmdErr b s).slv = s.slv ∧ (cmdErr b s).pln = s.pln ∧
    (cmdErr b s).brd = s.brd ∧ (cmdErr b s).lpe = s.lpe ∧ (cmdErr b s).out = s.out ∧ (cmdErr b s).slc = s.slc ∧
    (cmdErr b s).can = s.can ∧ (cmdErr b s).key = s.key ∧ (cmdErr b s).upd = s.upd ∧ (cmdErr b s).cfg = s.cfg := by
  and_intros <;> rfl

@[simp] theorem updSession_frame (sid) (f) (s : State) :
    (updSession sid f s).pending = s.pending ∧ (updSession sid f s).sent = s.sent ∧
    (updSession sid f s).free = s.free ∧ (updSession sid f s).board = s.board ∧ (updSession sid f s).sys = s.sys ∧
    (updSession sid f s).policy = s.policy ∧ (updSession sid f s).pmu = s.pmu ∧ (updSession sid f s).evt = s.evt ∧
    (updSession sid f s).pcie = s.pcie ∧ (updSession sid f s).tim = s.tim ∧ (updSession sid f s).rtc = s.rtc ∧
    (updSession sid f s).log = s.log ∧ (updSession sid f s).dmp = s.dmp ∧ (updSession sid f s).net = s.net ∧
    (updSession sid f s).mem = s.mem ∧ (updSession sid f s).adc = s.adc ∧ (updSession sid f s).mtr = s.mtr ∧
    (updSession sid f s).pts = s.pts ∧ (updSession sid f s).courses = s.courses ∧ (updSession sid f s).slv = s.slv ∧
    (updSession sid f s).pln = s.pln ∧ (updSession sid f s).brd = s.brd ∧ (updSession sid f s).lpe = s.lpe ∧
    (updSession sid f s).out = s.out ∧ (updSession sid f s).slc = s.slc ∧ (updSession sid f s).can = s.can ∧
    (updSession sid f s).key = s.key ∧ (updSession sid f s).upd = s.upd ∧ (updSession sid f s).cfg = s.cfg := by
  and_intros <;> rfl

@[simp] theorem ringWaits_frame (ring) (s : State) :
    (ringWaits ring s).pending = s.pending ∧ (ringWaits ring s).sent = s.sent ∧ (ringWaits ring s).free = s.free ∧
    (ringWaits ring s).board = s.board ∧ (ringWaits ring s).sys = s.sys ∧ (ringWaits ring s).policy = s.policy ∧
    (ringWaits ring s).pmu = s.pmu ∧ (ringWaits ring s).evt = s.evt ∧ (ringWaits ring s).pcie = s.pcie ∧
    (ringWaits ring s).tim = s.tim ∧ (ringWaits ring s).rtc = s.rtc ∧ (ringWaits ring s).log = s.log ∧
    (ringWaits ring s).dmp = s.dmp ∧ (ringWaits ring s).net = s.net ∧ (ringWaits ring s).mem = s.mem ∧
    (ringWaits ring s).adc = s.adc ∧ (ringWaits ring s).mtr = s.mtr ∧ (ringWaits ring s).pts = s.pts ∧
    (ringWaits ring s).courses = s.courses ∧ (ringWaits ring s).slv = s.slv ∧ (ringWaits ring s).pln = s.pln ∧
    (ringWaits ring s).brd = s.brd ∧ (ringWaits ring s).lpe = s.lpe ∧ (ringWaits ring s).out = s.out ∧
    (ringWaits ring s).slc = s.slc ∧ (ringWaits ring s).can = s.can ∧ (ringWaits ring s).key = s.key ∧
    (ringWaits ring s).upd = s.upd ∧ (ringWaits ring s).cfg = s.cfg := by
  and_intros <;> rfl

@[simp] theorem ringDone_frame (ring) (s : State) :
    (ringDone ring s).pending = s.pending ∧ (ringDone ring s).sent = s.sent ∧ (ringDone ring s).free = s.free ∧
    (ringDone ring s).board = s.board ∧ (ringDone ring s).sys = s.sys ∧ (ringDone ring s).policy = s.policy ∧
    (ringDone ring s).pmu = s.pmu ∧ (ringDone ring s).evt = s.evt ∧ (ringDone ring s).pcie = s.pcie ∧
    (ringDone ring s).tim = s.tim ∧ (ringDone ring s).rtc = s.rtc ∧ (ringDone ring s).log = s.log ∧
    (ringDone ring s).dmp = s.dmp ∧ (ringDone ring s).net = s.net ∧ (ringDone ring s).mem = s.mem ∧
    (ringDone ring s).adc = s.adc ∧ (ringDone ring s).mtr = s.mtr ∧ (ringDone ring s).pts = s.pts ∧
    (ringDone ring s).courses = s.courses ∧ (ringDone ring s).slv = s.slv ∧ (ringDone ring s).pln = s.pln ∧
    (ringDone ring s).brd = s.brd ∧ (ringDone ring s).lpe = s.lpe ∧ (ringDone ring s).out = s.out ∧
    (ringDone ring s).slc = s.slc ∧ (ringDone ring s).can = s.can ∧ (ringDone ring s).key = s.key ∧
    (ringDone ring s).upd = s.upd ∧ (ringDone ring s).cfg = s.cfg := by
  and_intros <;> rfl

@[simp] theorem countUse_frame (n) (s : State) :
    (countUse n s).pending = s.pending ∧ (countUse n s).sent = s.sent ∧ (countUse n s).free = s.free ∧
    (countUse n s).board = s.board ∧ (countUse n s).sys = s.sys ∧ (countUse n s).policy = s.policy ∧
    (countUse n s).pmu = s.pmu ∧ (countUse n s).evt = s.evt ∧ (countUse n s).pcie = s.pcie ∧
    (countUse n s).vcp = s.vcp ∧ (countUse n s).tim = s.tim ∧ (countUse n s).rtc = s.rtc ∧
    (countUse n s).log = s.log ∧ (countUse n s).dmp = s.dmp ∧ (countUse n s).net = s.net ∧
    (countUse n s).mem = s.mem ∧ (countUse n s).adc = s.adc ∧ (countUse n s).mtr = s.mtr ∧
    (countUse n s).pts = s.pts ∧ (countUse n s).courses = s.courses ∧ (countUse n s).slv = s.slv ∧
    (countUse n s).pln = s.pln ∧ (countUse n s).brd = s.brd ∧ (countUse n s).lpe = s.lpe ∧
    (countUse n s).out = s.out ∧ (countUse n s).slc = s.slc ∧ (countUse n s).can = s.can ∧
    (countUse n s).upd = s.upd ∧ (countUse n s).cfg = s.cfg := by
  and_intros <;> rfl

@[simp] theorem setSlotState_frame (n) (st) (s : State) :
    (setSlotState n st s).pending = s.pending ∧ (setSlotState n st s).sent = s.sent ∧
    (setSlotState n st s).free = s.free ∧ (setSlotState n st s).board = s.board ∧ (setSlotState n st s).sys = s.sys ∧
    (setSlotState n st s).policy = s.policy ∧ (setSlotState n st s).pmu = s.pmu ∧ (setSlotState n st s).evt = s.evt ∧
    (setSlotState n st s).pcie = s.pcie ∧ (setSlotState n st s).vcp = s.vcp ∧ (setSlotState n st s).tim = s.tim ∧
    (setSlotState n st s).rtc = s.rtc ∧ (setSlotState n st s).log = s.log ∧ (setSlotState n st s).dmp = s.dmp ∧
    (setSlotState n st s).net = s.net ∧ (setSlotState n st s).mem = s.mem ∧ (setSlotState n st s).adc = s.adc ∧
    (setSlotState n st s).mtr = s.mtr ∧ (setSlotState n st s).pts = s.pts ∧
    (setSlotState n st s).courses = s.courses ∧ (setSlotState n st s).slv = s.slv ∧
    (setSlotState n st s).pln = s.pln ∧ (setSlotState n st s).brd = s.brd ∧ (setSlotState n st s).lpe = s.lpe ∧
    (setSlotState n st s).out = s.out ∧ (setSlotState n st s).slc = s.slc ∧ (setSlotState n st s).can = s.can ∧
    (setSlotState n st s).upd = s.upd ∧ (setSlotState n st s).cfg = s.cfg := by
  and_intros <;> rfl

@[simp] theorem emptySlots_frame (first) (s : State) :
    (emptySlots first s).pending = s.pending ∧ (emptySlots first s).sent = s.sent ∧
    (emptySlots first s).free = s.free ∧ (emptySlots first s).board = s.board ∧ (emptySlots first s).sys = s.sys ∧
    (emptySlots first s).policy = s.policy ∧ (emptySlots first s).pmu = s.pmu ∧ (emptySlots first s).evt = s.evt ∧
    (emptySlots first s).pcie = s.pcie ∧ (emptySlots first s).vcp = s.vcp ∧ (emptySlots first s).tim = s.tim ∧
    (emptySlots first s).rtc = s.rtc ∧ (emptySlots first s).log = s.log ∧ (emptySlots first s).dmp = s.dmp ∧
    (emptySlots first s).net = s.net ∧ (emptySlots first s).mem = s.mem ∧ (emptySlots first s).adc = s.adc ∧
    (emptySlots first s).mtr = s.mtr ∧ (emptySlots first s).pts = s.pts ∧ (emptySlots first s).courses = s.courses ∧
    (emptySlots first s).slv = s.slv ∧ (emptySlots first s).pln = s.pln ∧ (emptySlots first s).brd = s.brd ∧
    (emptySlots first s).lpe = s.lpe ∧ (emptySlots first s).out = s.out ∧ (emptySlots first s).slc = s.slc ∧
    (emptySlots first s).can = s.can ∧ (emptySlots first s).upd = s.upd ∧ (emptySlots first s).cfg = s.cfg := by
  and_intros <;> rfl

@[simp] theorem zeroise_frame (s : State) :
    (zeroise s).pending = s.pending ∧ (zeroise s).sent = s.sent ∧ (zeroise s).free = s.free ∧
    (zeroise s).board = s.board ∧ (zeroise s).sys = s.sys ∧ (zeroise s).policy = s.policy ∧ (zeroise s).pmu = s.pmu ∧
    (zeroise s).evt = s.evt ∧ (zeroise s).pcie = s.pcie ∧ (zeroise s).vcp = s.vcp ∧ (zeroise s).tim = s.tim ∧
    (zeroise s).rtc = s.rtc ∧ (zeroise s).log = s.log ∧ (zeroise s).dmp = s.dmp ∧ (zeroise s).net = s.net ∧
    (zeroise s).mem = s.mem ∧ (zeroise s).adc = s.adc ∧ (zeroise s).mtr = s.mtr ∧ (zeroise s).pts = s.pts ∧
    (zeroise s).courses = s.courses ∧ (zeroise s).slv = s.slv ∧ (zeroise s).pln = s.pln ∧ (zeroise s).brd = s.brd ∧
    (zeroise s).lpe = s.lpe ∧ (zeroise s).out = s.out ∧ (zeroise s).slc = s.slc ∧ (zeroise s).can = s.can ∧
    (zeroise s).upd = s.upd ∧ (zeroise s).cfg = s.cfg := by
  and_intros <;> rfl

@[simp] theorem legalRate_frame (r) (s : State) :
    (legalRate r s).pending = s.pending ∧ (legalRate r s).sent = s.sent ∧ (legalRate r s).free = s.free ∧
    (legalRate r s).board = s.board ∧ (legalRate r s).sys = s.sys ∧ (legalRate r s).policy = s.policy ∧
    (legalRate r s).pmu = s.pmu ∧ (legalRate r s).evt = s.evt ∧ (legalRate r s).pcie = s.pcie ∧
    (legalRate r s).vcp = s.vcp ∧ (legalRate r s).rtc = s.rtc ∧ (legalRate r s).log = s.log ∧
    (legalRate r s).dmp = s.dmp ∧ (legalRate r s).net = s.net ∧ (legalRate r s).mem = s.mem ∧
    (legalRate r s).adc = s.adc ∧ (legalRate r s).mtr = s.mtr ∧ (legalRate r s).pts = s.pts ∧
    (legalRate r s).courses = s.courses ∧ (legalRate r s).slv = s.slv ∧ (legalRate r s).pln = s.pln ∧
    (legalRate r s).brd = s.brd ∧ (legalRate r s).lpe = s.lpe ∧ (legalRate r s).out = s.out ∧
    (legalRate r s).slc = s.slc ∧ (legalRate r s).can = s.can ∧ (legalRate r s).key = s.key ∧
    (legalRate r s).upd = s.upd ∧ (legalRate r s).cfg = s.cfg := by
  and_intros <;> rfl

@[simp] theorem setPort_frame (p) (f) (s : State) :
    (setPort p f s).pending = s.pending ∧ (setPort p f s).sent = s.sent ∧ (setPort p f s).free = s.free ∧
    (setPort p f s).board = s.board ∧ (setPort p f s).sys = s.sys ∧ (setPort p f s).policy = s.policy ∧
    (setPort p f s).pmu = s.pmu ∧ (setPort p f s).evt = s.evt ∧ (setPort p f s).pcie = s.pcie ∧
    (setPort p f s).vcp = s.vcp ∧ (setPort p f s).rtc = s.rtc ∧ (setPort p f s).log = s.log ∧
    (setPort p f s).dmp = s.dmp ∧ (setPort p f s).net = s.net ∧ (setPort p f s).mem = s.mem ∧
    (setPort p f s).adc = s.adc ∧ (setPort p f s).mtr = s.mtr ∧ (setPort p f s).pts = s.pts ∧
    (setPort p f s).courses = s.courses ∧ (setPort p f s).slv = s.slv ∧ (setPort p f s).pln = s.pln ∧
    (setPort p f s).brd = s.brd ∧ (setPort p f s).lpe = s.lpe ∧ (setPort p f s).out = s.out ∧
    (setPort p f s).slc = s.slc ∧ (setPort p f s).can = s.can ∧ (setPort p f s).key = s.key ∧
    (setPort p f s).upd = s.upd ∧ (setPort p f s).cfg = s.cfg := by
  and_intros <;> rfl

@[simp] theorem withPoints_frame (f) (s : State) :
    (withPoints f s).pending = s.pending ∧ (withPoints f s).sent = s.sent ∧ (withPoints f s).free = s.free ∧
    (withPoints f s).board = s.board ∧ (withPoints f s).sys = s.sys ∧ (withPoints f s).policy = s.policy ∧
    (withPoints f s).pmu = s.pmu ∧ (withPoints f s).evt = s.evt ∧ (withPoints f s).pcie = s.pcie ∧
    (withPoints f s).vcp = s.vcp ∧ (withPoints f s).tim = s.tim ∧ (withPoints f s).rtc = s.rtc ∧
    (withPoints f s).log = s.log ∧ (withPoints f s).dmp = s.dmp ∧ (withPoints f s).net = s.net ∧
    (withPoints f s).mem = s.mem ∧ (withPoints f s).adc = s.adc ∧ (withPoints f s).mtr = s.mtr ∧
    (withPoints f s).courses = s.courses ∧ (withPoints f s).slv = s.slv ∧ (withPoints f s).pln = s.pln ∧
    (withPoints f s).brd = s.brd ∧ (withPoints f s).lpe = s.lpe ∧ (withPoints f s).out = s.out ∧
    (withPoints f s).slc = s.slc ∧ (withPoints f s).can = s.can ∧ (withPoints f s).key = s.key ∧
    (withPoints f s).upd = s.upd ∧ (withPoints f s).cfg = s.cfg := by
  and_intros <;> rfl

@[simp] theorem unbound_frame (port) (s : State) :
    (unbound port s).pending = s.pending ∧ (unbound port s).sent = s.sent ∧ (unbound port s).free = s.free ∧
    (unbound port s).board = s.board ∧ (unbound port s).sys = s.sys ∧ (unbound port s).policy = s.policy ∧
    (unbound port s).pmu = s.pmu ∧ (unbound port s).evt = s.evt ∧ (unbound port s).pcie = s.pcie ∧
    (unbound port s).vcp = s.vcp ∧ (unbound port s).tim = s.tim ∧ (unbound port s).rtc = s.rtc ∧
    (unbound port s).log = s.log ∧ (unbound port s).dmp = s.dmp ∧ (unbound port s).mem = s.mem ∧
    (unbound port s).adc = s.adc ∧ (unbound port s).mtr = s.mtr ∧ (unbound port s).pts = s.pts ∧
    (unbound port s).courses = s.courses ∧ (unbound port s).slv = s.slv ∧ (unbound port s).pln = s.pln ∧
    (unbound port s).brd = s.brd ∧ (unbound port s).lpe = s.lpe ∧ (unbound port s).out = s.out ∧
    (unbound port s).slc = s.slc ∧ (unbound port s).can = s.can ∧ (unbound port s).key = s.key ∧
    (unbound port s).upd = s.upd ∧ (unbound port s).cfg = s.cfg := by
  and_intros <;> rfl

@[simp] theorem modUnit_frame (u) (f) (s : State) :
    (modUnit u f s).pending = s.pending ∧ (modUnit u f s).sent = s.sent ∧ (modUnit u f s).free = s.free ∧
    (modUnit u f s).board = s.board ∧ (modUnit u f s).sys = s.sys ∧ (modUnit u f s).policy = s.policy ∧
    (modUnit u f s).pmu = s.pmu ∧ (modUnit u f s).evt = s.evt ∧ (modUnit u f s).pcie = s.pcie ∧
    (modUnit u f s).vcp = s.vcp ∧ (modUnit u f s).tim = s.tim ∧ (modUnit u f s).rtc = s.rtc ∧
    (modUnit u f s).log = s.log ∧ (modUnit u f s).dmp = s.dmp ∧ (modUnit u f s).net = s.net ∧
    (modUnit u f s).mem = s.mem ∧ (modUnit u f s).adc = s.adc ∧ (modUnit u f s).mtr = s.mtr ∧
    (modUnit u f s).courses = s.courses ∧ (modUnit u f s).slv = s.slv ∧ (modUnit u f s).pln = s.pln ∧
    (modUnit u f s).brd = s.brd ∧ (modUnit u f s).lpe = s.lpe ∧ (modUnit u f s).out = s.out ∧
    (modUnit u f s).slc = s.slc ∧ (modUnit u f s).can = s.can ∧ (modUnit u f s).key = s.key ∧
    (modUnit u f s).upd = s.upd ∧ (modUnit u f s).cfg = s.cfg := by
  and_intros <;> rfl

@[simp] theorem uppAuthFail_frame (s : State) :
    (uppAuthFail s).pending = s.pending ∧ (uppAuthFail s).sent = s.sent ∧ (uppAuthFail s).free = s.free ∧
    (uppAuthFail s).board = s.board ∧ (uppAuthFail s).sys = s.sys ∧ (uppAuthFail s).policy = s.policy ∧
    (uppAuthFail s).pmu = s.pmu ∧ (uppAuthFail s).evt = s.evt ∧ (uppAuthFail s).pcie = s.pcie ∧
    (uppAuthFail s).vcp = s.vcp ∧ (uppAuthFail s).tim = s.tim ∧ (uppAuthFail s).rtc = s.rtc ∧
    (uppAuthFail s).log = s.log ∧ (uppAuthFail s).dmp = s.dmp ∧ (uppAuthFail s).net = s.net ∧
    (uppAuthFail s).mem = s.mem ∧ (uppAuthFail s).adc = s.adc ∧ (uppAuthFail s).mtr = s.mtr ∧
    (uppAuthFail s).courses = s.courses ∧ (uppAuthFail s).slv = s.slv ∧ (uppAuthFail s).pln = s.pln ∧
    (uppAuthFail s).brd = s.brd ∧ (uppAuthFail s).lpe = s.lpe ∧ (uppAuthFail s).out = s.out ∧
    (uppAuthFail s).slc = s.slc ∧ (uppAuthFail s).can = s.can ∧ (uppAuthFail s).key = s.key ∧
    (uppAuthFail s).upd = s.upd ∧ (uppAuthFail s).cfg = s.cfg := by
  and_intros <;> rfl

@[simp] theorem modCourses_frame (p) (f) (s : State) :
    (modCourses p f s).pending = s.pending ∧ (modCourses p f s).sent = s.sent ∧ (modCourses p f s).free = s.free ∧
    (modCourses p f s).board = s.board ∧ (modCourses p f s).sys = s.sys ∧ (modCourses p f s).policy = s.policy ∧
    (modCourses p f s).pmu = s.pmu ∧ (modCourses p f s).evt = s.evt ∧ (modCourses p f s).pcie = s.pcie ∧
    (modCourses p f s).vcp = s.vcp ∧ (modCourses p f s).tim = s.tim ∧ (modCourses p f s).rtc = s.rtc ∧
    (modCourses p f s).log = s.log ∧ (modCourses p f s).dmp = s.dmp ∧ (modCourses p f s).net = s.net ∧
    (modCourses p f s).mem = s.mem ∧ (modCourses p f s).adc = s.adc ∧ (modCourses p f s).mtr = s.mtr ∧
    (modCourses p f s).pts = s.pts ∧ (modCourses p f s).slv = s.slv ∧ (modCourses p f s).pln = s.pln ∧
    (modCourses p f s).brd = s.brd ∧ (modCourses p f s).lpe = s.lpe ∧ (modCourses p f s).out = s.out ∧
    (modCourses p f s).slc = s.slc ∧ (modCourses p f s).can = s.can ∧ (modCourses p f s).key = s.key ∧
    (modCourses p f s).upd = s.upd ∧ (modCourses p f s).cfg = s.cfg := by
  and_intros <;> rfl

set_option maxRecDepth 8000 in
@[simp] theorem keepResult_frame (x) (s : State) :
    (keepResult x s).pending = s.pending ∧ (keepResult x s).sent = s.sent ∧ (keepResult x s).free = s.free ∧
    (keepResult x s).board = s.board ∧ (keepResult x s).sys = s.sys ∧ (keepResult x s).policy = s.policy ∧
    (keepResult x s).pmu = s.pmu ∧ (keepResult x s).evt = s.evt ∧ (keepResult x s).pcie = s.pcie ∧
    (keepResult x s).vcp = s.vcp ∧ (keepResult x s).tim = s.tim ∧ (keepResult x s).rtc = s.rtc ∧
    (keepResult x s).log = s.log ∧ (keepResult x s).dmp = s.dmp ∧ (keepResult x s).net = s.net ∧
    (keepResult x s).mem = s.mem ∧ (keepResult x s).adc = s.adc ∧ (keepResult x s).mtr = s.mtr ∧
    (keepResult x s).pts = s.pts ∧ (keepResult x s).courses = s.courses ∧ (keepResult x s).slv = s.slv ∧
    (keepResult x s).brd = s.brd ∧ (keepResult x s).lpe = s.lpe ∧ (keepResult x s).out = s.out ∧
    (keepResult x s).slc = s.slc ∧ (keepResult x s).can = s.can ∧ (keepResult x s).key = s.key ∧
    (keepResult x s).upd = s.upd ∧ (keepResult x s).cfg = s.cfg := by
  and_intros <;> rfl

@[simp] theorem delRunning_frame (p) (s : State) :
    (delRunning p s).pending = s.pending ∧ (delRunning p s).sent = s.sent ∧ (delRunning p s).free = s.free ∧
    (delRunning p s).board = s.board ∧ (delRunning p s).sys = s.sys ∧ (delRunning p s).policy = s.policy ∧
    (delRunning p s).pmu = s.pmu ∧ (delRunning p s).evt = s.evt ∧ (delRunning p s).pcie = s.pcie ∧
    (delRunning p s).vcp = s.vcp ∧ (delRunning p s).tim = s.tim ∧ (delRunning p s).rtc = s.rtc ∧
    (delRunning p s).log = s.log ∧ (delRunning p s).dmp = s.dmp ∧ (delRunning p s).net = s.net ∧
    (delRunning p s).mem = s.mem ∧ (delRunning p s).adc = s.adc ∧ (delRunning p s).mtr = s.mtr ∧
    (delRunning p s).pts = s.pts ∧ (delRunning p s).courses = s.courses ∧ (delRunning p s).pln = s.pln ∧
    (delRunning p s).brd = s.brd ∧ (delRunning p s).lpe = s.lpe ∧ (delRunning p s).out = s.out ∧
    (delRunning p s).slc = s.slc ∧ (delRunning p s).can = s.can ∧ (delRunning p s).key = s.key ∧
    (delRunning p s).upd = s.upd ∧ (delRunning p s).cfg = s.cfg := by
  and_intros <;> rfl

@[simp] theorem modShown_frame (p) (f) (s : State) :
    (modShown p f s).pending = s.pending ∧ (modShown p f s).sent = s.sent ∧ (modShown p f s).free = s.free ∧
    (modShown p f s).board = s.board ∧ (modShown p f s).sys = s.sys ∧ (modShown p f s).policy = s.policy ∧
    (modShown p f s).pmu = s.pmu ∧ (modShown p f s).evt = s.evt ∧ (modShown p f s).pcie = s.pcie ∧
    (modShown p f s).vcp = s.vcp ∧ (modShown p f s).tim = s.tim ∧ (modShown p f s).rtc = s.rtc ∧
    (modShown p f s).log = s.log ∧ (modShown p f s).dmp = s.dmp ∧ (modShown p f s).net = s.net ∧
    (modShown p f s).mem = s.mem ∧ (modShown p f s).adc = s.adc ∧ (modShown p f s).mtr = s.mtr ∧
    (modShown p f s).pts = s.pts ∧ (modShown p f s).courses = s.courses ∧ (modShown p f s).pln = s.pln ∧
    (modShown p f s).brd = s.brd ∧ (modShown p f s).lpe = s.lpe ∧ (modShown p f s).out = s.out ∧
    (modShown p f s).slc = s.slc ∧ (modShown p f s).can = s.can ∧ (modShown p f s).key = s.key ∧
    (modShown p f s).upd = s.upd ∧ (modShown p f s).cfg = s.cfg := by
  and_intros <;> rfl

@[simp] theorem setRunning_frame (p) (r) (s : State) :
    (setRunning p r s).pending = s.pending ∧ (setRunning p r s).sent = s.sent ∧ (setRunning p r s).free = s.free ∧
    (setRunning p r s).board = s.board ∧ (setRunning p r s).sys = s.sys ∧ (setRunning p r s).policy = s.policy ∧
    (setRunning p r s).pmu = s.pmu ∧ (setRunning p r s).evt = s.evt ∧ (setRunning p r s).pcie = s.pcie ∧
    (setRunning p r s).vcp = s.vcp ∧ (setRunning p r s).tim = s.tim ∧ (setRunning p r s).rtc = s.rtc ∧
    (setRunning p r s).log = s.log ∧ (setRunning p r s).dmp = s.dmp ∧ (setRunning p r s).net = s.net ∧
    (setRunning p r s).mem = s.mem ∧ (setRunning p r s).adc = s.adc ∧ (setRunning p r s).mtr = s.mtr ∧
    (setRunning p r s).pts = s.pts ∧ (setRunning p r s).courses = s.courses ∧ (setRunning p r s).pln = s.pln ∧
    (setRunning p r s).brd = s.brd ∧ (setRunning p r s).lpe = s.lpe ∧ (setRunning p r s).out = s.out ∧
    (setRunning p r s).slc = s.slc ∧ (setRunning p r s).can = s.can ∧ (setRunning p r s).key = s.key ∧
    (setRunning p r s).upd = s.upd ∧ (setRunning p r s).cfg = s.cfg := by
  and_intros <;> rfl

@[simp] theorem discardPools_frame (p) (r) (s : State) :
    (discardPools p r s).pending = s.pending ∧ (discardPools p r s).sent = s.sent ∧
    (discardPools p r s).free = s.free ∧ (discardPools p r s).board = s.board ∧ (discardPools p r s).sys = s.sys ∧
    (discardPools p r s).policy = s.policy ∧ (discardPools p r s).pmu = s.pmu ∧ (discardPools p r s).evt = s.evt ∧
    (discardPools p r s).pcie = s.pcie ∧ (discardPools p r s).vcp = s.vcp ∧ (discardPools p r s).tim = s.tim ∧
    (discardPools p r s).rtc = s.rtc ∧ (discardPools p r s).log = s.log ∧ (discardPools p r s).dmp = s.dmp ∧
    (discardPools p r s).net = s.net ∧ (discardPools p r s).mem = s.mem ∧ (discardPools p r s).adc = s.adc ∧
    (discardPools p r s).mtr = s.mtr ∧ (discardPools p r s).pts = s.pts ∧ (discardPools p r s).courses = s.courses ∧
    (discardPools p r s).pln = s.pln ∧ (discardPools p r s).brd = s.brd ∧ (discardPools p r s).lpe = s.lpe ∧
    (discardPools p r s).out = s.out ∧ (discardPools p r s).slc = s.slc ∧ (discardPools p r s).can = s.can ∧
    (discardPools p r s).key = s.key ∧ (discardPools p r s).upd = s.upd ∧ (discardPools p r s).cfg = s.cfg := by
  and_intros <;> rfl

@[simp] theorem takeNumber_frame (s : State) :
    (takeNumber s).pending = s.pending ∧ (takeNumber s).sent = s.sent ∧ (takeNumber s).free = s.free ∧
    (takeNumber s).board = s.board ∧ (takeNumber s).sys = s.sys ∧ (takeNumber s).policy = s.policy ∧
    (takeNumber s).pmu = s.pmu ∧ (takeNumber s).evt = s.evt ∧ (takeNumber s).pcie = s.pcie ∧
    (takeNumber s).vcp = s.vcp ∧ (takeNumber s).tim = s.tim ∧ (takeNumber s).rtc = s.rtc ∧
    (takeNumber s).log = s.log ∧ (takeNumber s).dmp = s.dmp ∧ (takeNumber s).net = s.net ∧
    (takeNumber s).mem = s.mem ∧ (takeNumber s).adc = s.adc ∧ (takeNumber s).mtr = s.mtr ∧
    (takeNumber s).pts = s.pts ∧ (takeNumber s).courses = s.courses ∧ (takeNumber s).slv = s.slv ∧
    (takeNumber s).brd = s.brd ∧ (takeNumber s).lpe = s.lpe ∧ (takeNumber s).out = s.out ∧
    (takeNumber s).slc = s.slc ∧ (takeNumber s).can = s.can ∧ (takeNumber s).key = s.key ∧
    (takeNumber s).upd = s.upd ∧ (takeNumber s).cfg = s.cfg := by
  and_intros <;> rfl

@[simp] theorem primePeriod_frame (plan) (s : State) :
    (primePeriod plan s).pending = s.pending ∧ (primePeriod plan s).sent = s.sent ∧
    (primePeriod plan s).free = s.free ∧ (primePeriod plan s).board = s.board ∧ (primePeriod plan s).sys = s.sys ∧
    (primePeriod plan s).policy = s.policy ∧ (primePeriod plan s).pmu = s.pmu ∧ (primePeriod plan s).evt = s.evt ∧
    (primePeriod plan s).pcie = s.pcie ∧ (primePeriod plan s).vcp = s.vcp ∧ (primePeriod plan s).tim = s.tim ∧
    (primePeriod plan s).rtc = s.rtc ∧ (primePeriod plan s).log = s.log ∧ (primePeriod plan s).dmp = s.dmp ∧
    (primePeriod plan s).net = s.net ∧ (primePeriod plan s).mem = s.mem ∧ (primePeriod plan s).adc = s.adc ∧
    (primePeriod plan s).mtr = s.mtr ∧ (primePeriod plan s).pts = s.pts ∧ (primePeriod plan s).courses = s.courses ∧
    (primePeriod plan s).slv = s.slv ∧ (primePeriod plan s).brd = s.brd ∧ (primePeriod plan s).lpe = s.lpe ∧
    (primePeriod plan s).out = s.out ∧ (primePeriod plan s).slc = s.slc ∧ (primePeriod plan s).can = s.can ∧
    (primePeriod plan s).key = s.key ∧ (primePeriod plan s).upd = s.upd ∧ (primePeriod plan s).cfg = s.cfg := by
  and_intros <;> rfl

@[simp] theorem withSar_frame (k) (r) (s : State) :
    (withSar k r s).pending = s.pending ∧ (withSar k r s).sent = s.sent ∧ (withSar k r s).free = s.free ∧
    (withSar k r s).board = s.board ∧ (withSar k r s).sys = s.sys ∧ (withSar k r s).policy = s.policy ∧
    (withSar k r s).pmu = s.pmu ∧ (withSar k r s).evt = s.evt ∧ (withSar k r s).pcie = s.pcie ∧
    (withSar k r s).vcp = s.vcp ∧ (withSar k r s).tim = s.tim ∧ (withSar k r s).rtc = s.rtc ∧
    (withSar k r s).log = s.log ∧ (withSar k r s).dmp = s.dmp ∧ (withSar k r s).net = s.net ∧
    (withSar k r s).mem = s.mem ∧ (withSar k r s).mtr = s.mtr ∧ (withSar k r s).pts = s.pts ∧
    (withSar k r s).courses = s.courses ∧ (withSar k r s).slv = s.slv ∧ (withSar k r s).pln = s.pln ∧
    (withSar k r s).brd = s.brd ∧ (withSar k r s).lpe = s.lpe ∧ (withSar k r s).out = s.out ∧
    (withSar k r s).slc = s.slc ∧ (withSar k r s).can = s.can ∧ (withSar k r s).key = s.key ∧
    (withSar k r s).upd = s.upd ∧ (withSar k r s).cfg = s.cfg := by
  and_intros <;> rfl

@[simp] theorem settleExcited_frame (s : State) :
    (settleExcited s).pending = s.pending ∧ (settleExcited s).sent = s.sent ∧ (settleExcited s).free = s.free ∧
    (settleExcited s).board = s.board ∧ (settleExcited s).sys = s.sys ∧ (settleExcited s).policy = s.policy ∧
    (settleExcited s).pmu = s.pmu ∧ (settleExcited s).evt = s.evt ∧ (settleExcited s).pcie = s.pcie ∧
    (settleExcited s).vcp = s.vcp ∧ (settleExcited s).tim = s.tim ∧ (settleExcited s).rtc = s.rtc ∧
    (settleExcited s).log = s.log ∧ (settleExcited s).dmp = s.dmp ∧ (settleExcited s).net = s.net ∧
    (settleExcited s).mem = s.mem ∧ (settleExcited s).mtr = s.mtr ∧ (settleExcited s).pts = s.pts ∧
    (settleExcited s).courses = s.courses ∧ (settleExcited s).slv = s.slv ∧ (settleExcited s).pln = s.pln ∧
    (settleExcited s).brd = s.brd ∧ (settleExcited s).lpe = s.lpe ∧ (settleExcited s).out = s.out ∧
    (settleExcited s).slc = s.slc ∧ (settleExcited s).can = s.can ∧ (settleExcited s).key = s.key ∧
    (settleExcited s).upd = s.upd ∧ (settleExcited s).cfg = s.cfg := by
  and_intros <;> rfl

@[simp] theorem modMtr_frame (n) (f) (s : State) :
    (modMtr n f s).pending = s.pending ∧ (modMtr n f s).sent = s.sent ∧ (modMtr n f s).free = s.free ∧
    (modMtr n f s).board = s.board ∧ (modMtr n f s).sys = s.sys ∧ (modMtr n f s).policy = s.policy ∧
    (modMtr n f s).pmu = s.pmu ∧ (modMtr n f s).evt = s.evt ∧ (modMtr n f s).pcie = s.pcie ∧
    (modMtr n f s).vcp = s.vcp ∧ (modMtr n f s).tim = s.tim ∧ (modMtr n f s).rtc = s.rtc ∧
    (modMtr n f s).log = s.log ∧ (modMtr n f s).dmp = s.dmp ∧ (modMtr n f s).net = s.net ∧
    (modMtr n f s).mem = s.mem ∧ (modMtr n f s).adc = s.adc ∧ (modMtr n f s).pts = s.pts ∧
    (modMtr n f s).courses = s.courses ∧ (modMtr n f s).slv = s.slv ∧ (modMtr n f s).pln = s.pln ∧
    (modMtr n f s).brd = s.brd ∧ (modMtr n f s).lpe = s.lpe ∧ (modMtr n f s).out = s.out ∧
    (modMtr n f s).slc = s.slc ∧ (modMtr n f s).can = s.can ∧ (modMtr n f s).key = s.key ∧
    (modMtr n f s).upd = s.upd ∧ (modMtr n f s).cfg = s.cfg := by
  and_intros <;> rfl

@[simp] theorem writeBank_frame (s : State) :
    (writeBank s).pending = s.pending ∧ (writeBank s).sent = s.sent ∧ (writeBank s).free = s.free ∧
    (writeBank s).board = s.board ∧ (writeBank s).sys = s.sys ∧ (writeBank s).policy = s.policy ∧
    (writeBank s).pmu = s.pmu ∧ (writeBank s).evt = s.evt ∧ (writeBank s).pcie = s.pcie ∧ (writeBank s).vcp = s.vcp ∧
    (writeBank s).tim = s.tim ∧ (writeBank s).rtc = s.rtc ∧ (writeBank s).log = s.log ∧ (writeBank s).dmp = s.dmp ∧
    (writeBank s).net = s.net ∧ (writeBank s).mem = s.mem ∧ (writeBank s).adc = s.adc ∧ (writeBank s).pts = s.pts ∧
    (writeBank s).courses = s.courses ∧ (writeBank s).slv = s.slv ∧ (writeBank s).pln = s.pln ∧
    (writeBank s).brd = s.brd ∧ (writeBank s).lpe = s.lpe ∧ (writeBank s).out = s.out ∧ (writeBank s).slc = s.slc ∧
    (writeBank s).can = s.can ∧ (writeBank s).key = s.key ∧ (writeBank s).upd = s.upd ∧ (writeBank s).cfg = s.cfg := by
  and_intros <;> rfl

@[simp] theorem noteSched_frame (t) (s : State) :
    (noteSched t s).pending = s.pending ∧ (noteSched t s).sent = s.sent ∧ (noteSched t s).free = s.free ∧
    (noteSched t s).board = s.board ∧ (noteSched t s).sys = s.sys ∧ (noteSched t s).policy = s.policy ∧
    (noteSched t s).pmu = s.pmu ∧ (noteSched t s).evt = s.evt ∧ (noteSched t s).pcie = s.pcie ∧
    (noteSched t s).vcp = s.vcp ∧ (noteSched t s).tim = s.tim ∧ (noteSched t s).rtc = s.rtc ∧
    (noteSched t s).log = s.log ∧ (noteSched t s).dmp = s.dmp ∧ (noteSched t s).net = s.net ∧
    (noteSched t s).mem = s.mem ∧ (noteSched t s).adc = s.adc ∧ (noteSched t s).pts = s.pts ∧
    (noteSched t s).courses = s.courses ∧ (noteSched t s).slv = s.slv ∧ (noteSched t s).pln = s.pln ∧
    (noteSched t s).brd = s.brd ∧ (noteSched t s).lpe = s.lpe ∧ (noteSched t s).out = s.out ∧
    (noteSched t s).slc = s.slc ∧ (noteSched t s).can = s.can ∧ (noteSched t s).key = s.key ∧
    (noteSched t s).upd = s.upd ∧ (noteSched t s).cfg = s.cfg := by
  unfold noteSched
  simp

@[simp] theorem returnToLoops_frame (before) (s : State) :
    (returnToLoops before s).pending = s.pending ∧ (returnToLoops before s).sent = s.sent ∧
    (returnToLoops before s).free = s.free ∧ (returnToLoops before s).board = s.board ∧
    (returnToLoops before s).sys = s.sys ∧ (returnToLoops before s).policy = s.policy ∧
    (returnToLoops before s).pmu = s.pmu ∧ (returnToLoops before s).evt = s.evt ∧
    (returnToLoops before s).pcie = s.pcie ∧ (returnToLoops before s).vcp = s.vcp ∧
    (returnToLoops before s).tim = s.tim ∧ (returnToLoops before s).rtc = s.rtc ∧
    (returnToLoops before s).log = s.log ∧ (returnToLoops before s).dmp = s.dmp ∧
    (returnToLoops before s).net = s.net ∧ (returnToLoops before s).mem = s.mem ∧
    (returnToLoops before s).adc = s.adc ∧ (returnToLoops before s).mtr = s.mtr ∧
    (returnToLoops before s).pts = s.pts ∧ (returnToLoops before s).courses = s.courses ∧
    (returnToLoops before s).slv = s.slv ∧ (returnToLoops before s).pln = s.pln ∧
    (returnToLoops before s).brd = s.brd ∧ (returnToLoops before s).out = s.out ∧
    (returnToLoops before s).slc = s.slc ∧ (returnToLoops before s).can = s.can ∧
    (returnToLoops before s).key = s.key ∧ (returnToLoops before s).upd = s.upd ∧
    (returnToLoops before s).cfg = s.cfg := by
  and_intros <;> rfl

@[simp] theorem modSlot_frame (k) (f) (s : State) :
    (modSlot k f s).pending = s.pending ∧ (modSlot k f s).sent = s.sent ∧ (modSlot k f s).free = s.free ∧
    (modSlot k f s).board = s.board ∧ (modSlot k f s).sys = s.sys ∧ (modSlot k f s).policy = s.policy ∧
    (modSlot k f s).pmu = s.pmu ∧ (modSlot k f s).evt = s.evt ∧ (modSlot k f s).pcie = s.pcie ∧
    (modSlot k f s).vcp = s.vcp ∧ (modSlot k f s).tim = s.tim ∧ (modSlot k f s).rtc = s.rtc ∧
    (modSlot k f s).log = s.log ∧ (modSlot k f s).dmp = s.dmp ∧ (modSlot k f s).net = s.net ∧
    (modSlot k f s).mem = s.mem ∧ (modSlot k f s).adc = s.adc ∧ (modSlot k f s).mtr = s.mtr ∧
    (modSlot k f s).pts = s.pts ∧ (modSlot k f s).courses = s.courses ∧ (modSlot k f s).slv = s.slv ∧
    (modSlot k f s).pln = s.pln ∧ (modSlot k f s).brd = s.brd ∧ (modSlot k f s).out = s.out ∧
    (modSlot k f s).slc = s.slc ∧ (modSlot k f s).can = s.can ∧ (modSlot k f s).key = s.key ∧
    (modSlot k f s).upd = s.upd ∧ (modSlot k f s).cfg = s.cfg := by
  and_intros <;> rfl

@[simp] theorem bumpless_frame (value) (s : State) :
    (bumpless value s).pending = s.pending ∧ (bumpless value s).sent = s.sent ∧ (bumpless value s).free = s.free ∧
    (bumpless value s).board = s.board ∧ (bumpless value s).sys = s.sys ∧ (bumpless value s).policy = s.policy ∧
    (bumpless value s).pmu = s.pmu ∧ (bumpless value s).evt = s.evt ∧ (bumpless value s).pcie = s.pcie ∧
    (bumpless value s).vcp = s.vcp ∧ (bumpless value s).tim = s.tim ∧ (bumpless value s).rtc = s.rtc ∧
    (bumpless value s).log = s.log ∧ (bumpless value s).dmp = s.dmp ∧ (bumpless value s).net = s.net ∧
    (bumpless value s).mem = s.mem ∧ (bumpless value s).adc = s.adc ∧ (bumpless value s).mtr = s.mtr ∧
    (bumpless value s).pts = s.pts ∧ (bumpless value s).courses = s.courses ∧ (bumpless value s).slv = s.slv ∧
    (bumpless value s).pln = s.pln ∧ (bumpless value s).brd = s.brd ∧ (bumpless value s).out = s.out ∧
    (bumpless value s).slc = s.slc ∧ (bumpless value s).can = s.can ∧ (bumpless value s).key = s.key ∧
    (bumpless value s).upd = s.upd ∧ (bumpless value s).cfg = s.cfg := by
  and_intros <;> rfl

@[simp] theorem restoreSnapshot_frame (x) (s : State) :
    (restoreSnapshot x s).pending = s.pending ∧ (restoreSnapshot x s).sent = s.sent ∧
    (restoreSnapshot x s).free = s.free ∧ (restoreSnapshot x s).board = s.board ∧ (restoreSnapshot x s).sys = s.sys ∧
    (restoreSnapshot x s).policy = s.policy ∧ (restoreSnapshot x s).pmu = s.pmu ∧ (restoreSnapshot x s).evt = s.evt ∧
    (restoreSnapshot x s).pcie = s.pcie ∧ (restoreSnapshot x s).vcp = s.vcp ∧ (restoreSnapshot x s).tim = s.tim ∧
    (restoreSnapshot x s).rtc = s.rtc ∧ (restoreSnapshot x s).log = s.log ∧ (restoreSnapshot x s).dmp = s.dmp ∧
    (restoreSnapshot x s).net = s.net ∧ (restoreSnapshot x s).mem = s.mem ∧ (restoreSnapshot x s).adc = s.adc ∧
    (restoreSnapshot x s).mtr = s.mtr ∧ (restoreSnapshot x s).pts = s.pts ∧
    (restoreSnapshot x s).courses = s.courses ∧ (restoreSnapshot x s).slv = s.slv ∧
    (restoreSnapshot x s).pln = s.pln ∧ (restoreSnapshot x s).brd = s.brd ∧ (restoreSnapshot x s).out = s.out ∧
    (restoreSnapshot x s).slc = s.slc ∧ (restoreSnapshot x s).can = s.can ∧ (restoreSnapshot x s).key = s.key ∧
    (restoreSnapshot x s).upd = s.upd ∧ (restoreSnapshot x s).cfg = s.cfg := by
  and_intros <;> rfl

@[simp] theorem modCan_frame (c) (f) (s : State) :
    (modCan c f s).pending = s.pending ∧ (modCan c f s).sent = s.sent ∧ (modCan c f s).free = s.free ∧
    (modCan c f s).board = s.board ∧ (modCan c f s).sys = s.sys ∧ (modCan c f s).policy = s.policy ∧
    (modCan c f s).pmu = s.pmu ∧ (modCan c f s).evt = s.evt ∧ (modCan c f s).pcie = s.pcie ∧
    (modCan c f s).vcp = s.vcp ∧ (modCan c f s).tim = s.tim ∧ (modCan c f s).rtc = s.rtc ∧
    (modCan c f s).log = s.log ∧ (modCan c f s).dmp = s.dmp ∧ (modCan c f s).net = s.net ∧
    (modCan c f s).mem = s.mem ∧ (modCan c f s).adc = s.adc ∧ (modCan c f s).mtr = s.mtr ∧
    (modCan c f s).pts = s.pts ∧ (modCan c f s).courses = s.courses ∧ (modCan c f s).slv = s.slv ∧
    (modCan c f s).pln = s.pln ∧ (modCan c f s).brd = s.brd ∧ (modCan c f s).lpe = s.lpe ∧
    (modCan c f s).out = s.out ∧ (modCan c f s).slc = s.slc ∧ (modCan c f s).key = s.key ∧
    (modCan c f s).upd = s.upd ∧ (modCan c f s).cfg = s.cfg := by
  and_intros <;> rfl

@[simp] theorem defer_frame (c) (opcode) (channel) (object) (s : State) :
    (defer c opcode channel object s).pending = s.pending ∧ (defer c opcode channel object s).sent = s.sent ∧
    (defer c opcode channel object s).free = s.free ∧ (defer c opcode channel object s).board = s.board ∧
    (defer c opcode channel object s).sys = s.sys ∧ (defer c opcode channel object s).policy = s.policy ∧
    (defer c opcode channel object s).pmu = s.pmu ∧ (defer c opcode channel object s).evt = s.evt ∧
    (defer c opcode channel object s).pcie = s.pcie ∧ (defer c opcode channel object s).tim = s.tim ∧
    (defer c opcode channel object s).rtc = s.rtc ∧ (defer c opcode channel object s).log = s.log ∧
    (defer c opcode channel object s).dmp = s.dmp ∧ (defer c opcode channel object s).net = s.net ∧
    (defer c opcode channel object s).mem = s.mem ∧ (defer c opcode channel object s).adc = s.adc ∧
    (defer c opcode channel object s).mtr = s.mtr ∧ (defer c opcode channel object s).pts = s.pts ∧
    (defer c opcode channel object s).courses = s.courses ∧ (defer c opcode channel object s).slv = s.slv ∧
    (defer c opcode channel object s).pln = s.pln ∧ (defer c opcode channel object s).brd = s.brd ∧
    (defer c opcode channel object s).lpe = s.lpe ∧ (defer c opcode channel object s).out = s.out ∧
    (defer c opcode channel object s).slc = s.slc ∧ (defer c opcode channel object s).can = s.can ∧
    (defer c opcode channel object s).key = s.key ∧ (defer c opcode channel object s).upd = s.upd ∧
    (defer c opcode channel object s).cfg = s.cfg := by
  and_intros <;> rfl

@[simp] theorem blowFuses_frame (target) (s : State) :
    (blowFuses target s).pending = s.pending ∧ (blowFuses target s).sent = s.sent ∧
    (blowFuses target s).free = s.free ∧ (blowFuses target s).board = s.board ∧ (blowFuses target s).sys = s.sys ∧
    (blowFuses target s).policy = s.policy ∧ (blowFuses target s).pmu = s.pmu ∧ (blowFuses target s).evt = s.evt ∧
    (blowFuses target s).pcie = s.pcie ∧ (blowFuses target s).vcp = s.vcp ∧ (blowFuses target s).tim = s.tim ∧
    (blowFuses target s).rtc = s.rtc ∧ (blowFuses target s).log = s.log ∧ (blowFuses target s).dmp = s.dmp ∧
    (blowFuses target s).net = s.net ∧ (blowFuses target s).mem = s.mem ∧ (blowFuses target s).adc = s.adc ∧
    (blowFuses target s).mtr = s.mtr ∧ (blowFuses target s).pts = s.pts ∧ (blowFuses target s).courses = s.courses ∧
    (blowFuses target s).slv = s.slv ∧ (blowFuses target s).pln = s.pln ∧ (blowFuses target s).brd = s.brd ∧
    (blowFuses target s).lpe = s.lpe ∧ (blowFuses target s).out = s.out ∧ (blowFuses target s).slc = s.slc ∧
    (blowFuses target s).can = s.can ∧ (blowFuses target s).upd = s.upd ∧ (blowFuses target s).cfg = s.cfg := by
  and_intros <;> rfl

@[simp] theorem adoptEstimate_frame (e) (s : State) :
    (adoptEstimate e s).pending = s.pending ∧ (adoptEstimate e s).sent = s.sent ∧ (adoptEstimate e s).free = s.free ∧
    (adoptEstimate e s).board = s.board ∧ (adoptEstimate e s).sys = s.sys ∧ (adoptEstimate e s).policy = s.policy ∧
    (adoptEstimate e s).pmu = s.pmu ∧ (adoptEstimate e s).evt = s.evt ∧ (adoptEstimate e s).pcie = s.pcie ∧
    (adoptEstimate e s).vcp = s.vcp ∧ (adoptEstimate e s).tim = s.tim ∧ (adoptEstimate e s).rtc = s.rtc ∧
    (adoptEstimate e s).log = s.log ∧ (adoptEstimate e s).dmp = s.dmp ∧ (adoptEstimate e s).net = s.net ∧
    (adoptEstimate e s).mem = s.mem ∧ (adoptEstimate e s).adc = s.adc ∧ (adoptEstimate e s).mtr = s.mtr ∧
    (adoptEstimate e s).pts = s.pts ∧ (adoptEstimate e s).courses = s.courses ∧ (adoptEstimate e s).slv = s.slv ∧
    (adoptEstimate e s).brd = s.brd ∧ (adoptEstimate e s).lpe = s.lpe ∧ (adoptEstimate e s).out = s.out ∧
    (adoptEstimate e s).slc = s.slc ∧ (adoptEstimate e s).can = s.can ∧ (adoptEstimate e s).key = s.key ∧
    (adoptEstimate e s).upd = s.upd ∧ (adoptEstimate e s).cfg = s.cfg := by
  and_intros <;> rfl

set_option maxRecDepth 8000 in
@[simp] theorem addCompare_frame (x) (s : State) :
    (addCompare x s).pending = s.pending ∧ (addCompare x s).sent = s.sent ∧ (addCompare x s).free = s.free ∧
    (addCompare x s).board = s.board ∧ (addCompare x s).sys = s.sys ∧ (addCompare x s).policy = s.policy ∧
    (addCompare x s).pmu = s.pmu ∧ (addCompare x s).evt = s.evt ∧ (addCompare x s).pcie = s.pcie ∧
    (addCompare x s).vcp = s.vcp ∧ (addCompare x s).tim = s.tim ∧ (addCompare x s).rtc = s.rtc ∧
    (addCompare x s).log = s.log ∧ (addCompare x s).dmp = s.dmp ∧ (addCompare x s).net = s.net ∧
    (addCompare x s).mem = s.mem ∧ (addCompare x s).adc = s.adc ∧ (addCompare x s).mtr = s.mtr ∧
    (addCompare x s).pts = s.pts ∧ (addCompare x s).courses = s.courses ∧ (addCompare x s).slv = s.slv ∧
    (addCompare x s).pln = s.pln ∧ (addCompare x s).lpe = s.lpe ∧ (addCompare x s).out = s.out ∧
    (addCompare x s).slc = s.slc ∧ (addCompare x s).can = s.can ∧ (addCompare x s).key = s.key ∧
    (addCompare x s).upd = s.upd ∧ (addCompare x s).cfg = s.cfg := by
  and_intros <;> rfl

@[simp] theorem modCompare_frame (n) (f) (s : State) :
    (modCompare n f s).pending = s.pending ∧ (modCompare n f s).sent = s.sent ∧ (modCompare n f s).free = s.free ∧
    (modCompare n f s).board = s.board ∧ (modCompare n f s).sys = s.sys ∧ (modCompare n f s).policy = s.policy ∧
    (modCompare n f s).pmu = s.pmu ∧ (modCompare n f s).evt = s.evt ∧ (modCompare n f s).pcie = s.pcie ∧
    (modCompare n f s).vcp = s.vcp ∧ (modCompare n f s).tim = s.tim ∧ (modCompare n f s).rtc = s.rtc ∧
    (modCompare n f s).log = s.log ∧ (modCompare n f s).dmp = s.dmp ∧ (modCompare n f s).net = s.net ∧
    (modCompare n f s).mem = s.mem ∧ (modCompare n f s).adc = s.adc ∧ (modCompare n f s).mtr = s.mtr ∧
    (modCompare n f s).pts = s.pts ∧ (modCompare n f s).courses = s.courses ∧ (modCompare n f s).slv = s.slv ∧
    (modCompare n f s).pln = s.pln ∧ (modCompare n f s).lpe = s.lpe ∧ (modCompare n f s).out = s.out ∧
    (modCompare n f s).slc = s.slc ∧ (modCompare n f s).can = s.can ∧ (modCompare n f s).key = s.key ∧
    (modCompare n f s).upd = s.upd ∧ (modCompare n f s).cfg = s.cfg := by
  and_intros <;> rfl

@[simp] theorem modNet_frame (p) (f) (s : State) :
    (modNet p f s).pending = s.pending ∧ (modNet p f s).sent = s.sent ∧ (modNet p f s).free = s.free ∧
    (modNet p f s).board = s.board ∧ (modNet p f s).sys = s.sys ∧ (modNet p f s).policy = s.policy ∧
    (modNet p f s).pmu = s.pmu ∧ (modNet p f s).evt = s.evt ∧ (modNet p f s).pcie = s.pcie ∧
    (modNet p f s).vcp = s.vcp ∧ (modNet p f s).tim = s.tim ∧ (modNet p f s).rtc = s.rtc ∧
    (modNet p f s).log = s.log ∧ (modNet p f s).dmp = s.dmp ∧ (modNet p f s).mem = s.mem ∧
    (modNet p f s).adc = s.adc ∧ (modNet p f s).mtr = s.mtr ∧ (modNet p f s).pts = s.pts ∧
    (modNet p f s).courses = s.courses ∧ (modNet p f s).slv = s.slv ∧ (modNet p f s).pln = s.pln ∧
    (modNet p f s).brd = s.brd ∧ (modNet p f s).lpe = s.lpe ∧ (modNet p f s).out = s.out ∧
    (modNet p f s).slc = s.slc ∧ (modNet p f s).can = s.can ∧ (modNet p f s).key = s.key ∧
    (modNet p f s).upd = s.upd ∧ (modNet p f s).cfg = s.cfg := by
  and_intros <;> rfl

@[simp] theorem putCopy_frame (n) (m) (s : State) :
    (putCopy n m s).pending = s.pending ∧ (putCopy n m s).sent = s.sent ∧ (putCopy n m s).free = s.free ∧
    (putCopy n m s).board = s.board ∧ (putCopy n m s).sys = s.sys ∧ (putCopy n m s).policy = s.policy ∧
    (putCopy n m s).pmu = s.pmu ∧ (putCopy n m s).evt = s.evt ∧ (putCopy n m s).pcie = s.pcie ∧
    (putCopy n m s).vcp = s.vcp ∧ (putCopy n m s).tim = s.tim ∧ (putCopy n m s).rtc = s.rtc ∧
    (putCopy n m s).log = s.log ∧ (putCopy n m s).dmp = s.dmp ∧ (putCopy n m s).net = s.net ∧
    (putCopy n m s).mem = s.mem ∧ (putCopy n m s).adc = s.adc ∧ (putCopy n m s).mtr = s.mtr ∧
    (putCopy n m s).pts = s.pts ∧ (putCopy n m s).courses = s.courses ∧ (putCopy n m s).slv = s.slv ∧
    (putCopy n m s).pln = s.pln ∧ (putCopy n m s).brd = s.brd ∧ (putCopy n m s).lpe = s.lpe ∧
    (putCopy n m s).out = s.out ∧ (putCopy n m s).slc = s.slc ∧ (putCopy n m s).can = s.can ∧
    (putCopy n m s).key = s.key ∧ (putCopy n m s).upd = s.upd := by
  and_intros <;> rfl

@[simp] theorem restage_frame (s : State) :
    (restage s).pending = s.pending ∧ (restage s).sent = s.sent ∧ (restage s).free = s.free ∧
    (restage s).board = s.board ∧ (restage s).sys = s.sys ∧ (restage s).policy = s.policy ∧ (restage s).pmu = s.pmu ∧
    (restage s).evt = s.evt ∧ (restage s).pcie = s.pcie ∧ (restage s).vcp = s.vcp ∧ (restage s).tim = s.tim ∧
    (restage s).rtc = s.rtc ∧ (restage s).log = s.log ∧ (restage s).dmp = s.dmp ∧ (restage s).net = s.net ∧
    (restage s).mem = s.mem ∧ (restage s).adc = s.adc ∧ (restage s).mtr = s.mtr ∧ (restage s).pts = s.pts ∧
    (restage s).courses = s.courses ∧ (restage s).slv = s.slv ∧ (restage s).pln = s.pln ∧ (restage s).brd = s.brd ∧
    (restage s).lpe = s.lpe ∧ (restage s).out = s.out ∧ (restage s).slc = s.slc ∧ (restage s).can = s.can ∧
    (restage s).key = s.key ∧ (restage s).upd = s.upd := by
  and_intros <;> rfl

@[simp] theorem toIdle_frame (s : State) :
    (toIdle s).pending = s.pending ∧ (toIdle s).sent = s.sent ∧ (toIdle s).free = s.free ∧
    (toIdle s).board = s.board ∧ (toIdle s).sys = s.sys ∧ (toIdle s).policy = s.policy ∧ (toIdle s).pmu = s.pmu ∧
    (toIdle s).evt = s.evt ∧ (toIdle s).pcie = s.pcie ∧ (toIdle s).vcp = s.vcp ∧ (toIdle s).tim = s.tim ∧
    (toIdle s).rtc = s.rtc ∧ (toIdle s).log = s.log ∧ (toIdle s).dmp = s.dmp ∧ (toIdle s).net = s.net ∧
    (toIdle s).mem = s.mem ∧ (toIdle s).adc = s.adc ∧ (toIdle s).mtr = s.mtr ∧ (toIdle s).pts = s.pts ∧
    (toIdle s).courses = s.courses ∧ (toIdle s).slv = s.slv ∧ (toIdle s).pln = s.pln ∧ (toIdle s).brd = s.brd ∧
    (toIdle s).lpe = s.lpe ∧ (toIdle s).out = s.out ∧ (toIdle s).slc = s.slc ∧ (toIdle s).can = s.can ∧
    (toIdle s).key = s.key ∧ (toIdle s).cfg = s.cfg := by
  and_intros <;> rfl

@[simp] theorem setImage_frame (b) (x) (s : State) :
    (setImage b x s).pending = s.pending ∧ (setImage b x s).sent = s.sent ∧ (setImage b x s).free = s.free ∧
    (setImage b x s).sys = s.sys ∧ (setImage b x s).policy = s.policy ∧ (setImage b x s).pmu = s.pmu ∧
    (setImage b x s).evt = s.evt ∧ (setImage b x s).pcie = s.pcie ∧ (setImage b x s).vcp = s.vcp ∧
    (setImage b x s).tim = s.tim ∧ (setImage b x s).rtc = s.rtc ∧ (setImage b x s).log = s.log ∧
    (setImage b x s).dmp = s.dmp ∧ (setImage b x s).net = s.net ∧ (setImage b x s).mem = s.mem ∧
    (setImage b x s).adc = s.adc ∧ (setImage b x s).mtr = s.mtr ∧ (setImage b x s).pts = s.pts ∧
    (setImage b x s).courses = s.courses ∧ (setImage b x s).slv = s.slv ∧ (setImage b x s).pln = s.pln ∧
    (setImage b x s).brd = s.brd ∧ (setImage b x s).lpe = s.lpe ∧ (setImage b x s).out = s.out ∧
    (setImage b x s).slc = s.slc ∧ (setImage b x s).can = s.can ∧ (setImage b x s).key = s.key ∧
    (setImage b x s).upd = s.upd ∧ (setImage b x s).cfg = s.cfg := by
  and_intros <;> rfl

@[simp] theorem writeSelector_frame (x) (s : State) :
    (writeSelector x s).pending = s.pending ∧ (writeSelector x s).sent = s.sent ∧ (writeSelector x s).free = s.free ∧
    (writeSelector x s).board = s.board ∧ (writeSelector x s).sys = s.sys ∧ (writeSelector x s).policy = s.policy ∧
    (writeSelector x s).pmu = s.pmu ∧ (writeSelector x s).evt = s.evt ∧ (writeSelector x s).pcie = s.pcie ∧
    (writeSelector x s).vcp = s.vcp ∧ (writeSelector x s).tim = s.tim ∧ (writeSelector x s).rtc = s.rtc ∧
    (writeSelector x s).log = s.log ∧ (writeSelector x s).dmp = s.dmp ∧ (writeSelector x s).net = s.net ∧
    (writeSelector x s).mem = s.mem ∧ (writeSelector x s).adc = s.adc ∧ (writeSelector x s).mtr = s.mtr ∧
    (writeSelector x s).pts = s.pts ∧ (writeSelector x s).courses = s.courses ∧ (writeSelector x s).slv = s.slv ∧
    (writeSelector x s).pln = s.pln ∧ (writeSelector x s).brd = s.brd ∧ (writeSelector x s).lpe = s.lpe ∧
    (writeSelector x s).out = s.out ∧ (writeSelector x s).slc = s.slc ∧ (writeSelector x s).can = s.can ∧
    (writeSelector x s).key = s.key ∧ (writeSelector x s).cfg = s.cfg := by
  and_intros <;> rfl

@[simp] theorem takeSession_frame (c) (s : State) :
    (takeSession c s).pending = s.pending ∧ (takeSession c s).sent = s.sent ∧ (takeSession c s).free = s.free ∧
    (takeSession c s).board = s.board ∧ (takeSession c s).sys = s.sys ∧ (takeSession c s).policy = s.policy ∧
    (takeSession c s).pmu = s.pmu ∧ (takeSession c s).evt = s.evt ∧ (takeSession c s).pcie = s.pcie ∧
    (takeSession c s).vcp = s.vcp ∧ (takeSession c s).tim = s.tim ∧ (takeSession c s).rtc = s.rtc ∧
    (takeSession c s).log = s.log ∧ (takeSession c s).dmp = s.dmp ∧ (takeSession c s).net = s.net ∧
    (takeSession c s).mem = s.mem ∧ (takeSession c s).adc = s.adc ∧ (takeSession c s).mtr = s.mtr ∧
    (takeSession c s).pts = s.pts ∧ (takeSession c s).courses = s.courses ∧ (takeSession c s).slv = s.slv ∧
    (takeSession c s).pln = s.pln ∧ (takeSession c s).brd = s.brd ∧ (takeSession c s).lpe = s.lpe ∧
    (takeSession c s).out = s.out ∧ (takeSession c s).slc = s.slc ∧ (takeSession c s).can = s.can ∧
    (takeSession c s).key = s.key ∧ (takeSession c s).cfg = s.cfg := by
  and_intros <;> rfl

@[simp] theorem setRing_frame (n) (r) (s : State) :
    (setRing n r s).pending = s.pending ∧ (setRing n r s).sent = s.sent ∧ (setRing n r s).free = s.free ∧
    (setRing n r s).board = s.board ∧ (setRing n r s).sys = s.sys ∧ (setRing n r s).policy = s.policy ∧
    (setRing n r s).pmu = s.pmu ∧ (setRing n r s).evt = s.evt ∧ (setRing n r s).pcie = s.pcie ∧
    (setRing n r s).tim = s.tim ∧ (setRing n r s).rtc = s.rtc ∧ (setRing n r s).log = s.log ∧
    (setRing n r s).dmp = s.dmp ∧ (setRing n r s).net = s.net ∧ (setRing n r s).mem = s.mem ∧
    (setRing n r s).adc = s.adc ∧ (setRing n r s).mtr = s.mtr ∧ (setRing n r s).pts = s.pts ∧
    (setRing n r s).courses = s.courses ∧ (setRing n r s).slv = s.slv ∧ (setRing n r s).pln = s.pln ∧
    (setRing n r s).brd = s.brd ∧ (setRing n r s).lpe = s.lpe ∧ (setRing n r s).out = s.out ∧
    (setRing n r s).slc = s.slc ∧ (setRing n r s).can = s.can ∧ (setRing n r s).key = s.key ∧
    (setRing n r s).upd = s.upd ∧ (setRing n r s).cfg = s.cfg := by
  and_intros <;> rfl

@[simp] theorem memoryFound_frame (s : State) :
    (memoryFound s).pending = s.pending ∧ (memoryFound s).sent = s.sent ∧ (memoryFound s).free = s.free ∧
    (memoryFound s).board = s.board ∧ (memoryFound s).sys = s.sys ∧ (memoryFound s).policy = s.policy ∧
    (memoryFound s).pmu = s.pmu ∧ (memoryFound s).evt = s.evt ∧ (memoryFound s).pcie = s.pcie ∧
    (memoryFound s).vcp = s.vcp ∧ (memoryFound s).tim = s.tim ∧ (memoryFound s).rtc = s.rtc ∧
    (memoryFound s).log = s.log ∧ (memoryFound s).dmp = s.dmp ∧ (memoryFound s).net = s.net ∧
    (memoryFound s).adc = s.adc ∧ (memoryFound s).mtr = s.mtr ∧ (memoryFound s).pts = s.pts ∧
    (memoryFound s).courses = s.courses ∧ (memoryFound s).slv = s.slv ∧ (memoryFound s).pln = s.pln ∧
    (memoryFound s).brd = s.brd ∧ (memoryFound s).lpe = s.lpe ∧ (memoryFound s).out = s.out ∧
    (memoryFound s).slc = s.slc ∧ (memoryFound s).can = s.can ∧ (memoryFound s).key = s.key ∧
    (memoryFound s).upd = s.upd ∧ (memoryFound s).cfg = s.cfg := by
  and_intros <;> rfl

@[simp] theorem lockPlls_frame (ps) (s : State) :
    (lockPlls ps s).pending = s.pending ∧ (lockPlls ps s).sent = s.sent ∧ (lockPlls ps s).free = s.free ∧
    (lockPlls ps s).board = s.board ∧ (lockPlls ps s).sys = s.sys ∧ (lockPlls ps s).policy = s.policy ∧
    (lockPlls ps s).evt = s.evt ∧ (lockPlls ps s).pcie = s.pcie ∧ (lockPlls ps s).vcp = s.vcp ∧
    (lockPlls ps s).tim = s.tim ∧ (lockPlls ps s).rtc = s.rtc ∧ (lockPlls ps s).log = s.log ∧
    (lockPlls ps s).dmp = s.dmp ∧ (lockPlls ps s).net = s.net ∧ (lockPlls ps s).mem = s.mem ∧
    (lockPlls ps s).adc = s.adc ∧ (lockPlls ps s).mtr = s.mtr ∧ (lockPlls ps s).pts = s.pts ∧
    (lockPlls ps s).courses = s.courses ∧ (lockPlls ps s).slv = s.slv ∧ (lockPlls ps s).pln = s.pln ∧
    (lockPlls ps s).brd = s.brd ∧ (lockPlls ps s).lpe = s.lpe ∧ (lockPlls ps s).out = s.out ∧
    (lockPlls ps s).slc = s.slc ∧ (lockPlls ps s).can = s.can ∧ (lockPlls ps s).key = s.key ∧
    (lockPlls ps s).upd = s.upd ∧ (lockPlls ps s).cfg = s.cfg := by
  and_intros <;> rfl

@[simp] theorem powerUp_frame (ds) (s : State) :
    (powerUp ds s).pending = s.pending ∧ (powerUp ds s).sent = s.sent ∧ (powerUp ds s).free = s.free ∧
    (powerUp ds s).board = s.board ∧ (powerUp ds s).sys = s.sys ∧ (powerUp ds s).policy = s.policy ∧
    (powerUp ds s).evt = s.evt ∧ (powerUp ds s).pcie = s.pcie ∧ (powerUp ds s).vcp = s.vcp ∧
    (powerUp ds s).tim = s.tim ∧ (powerUp ds s).rtc = s.rtc ∧ (powerUp ds s).log = s.log ∧
    (powerUp ds s).dmp = s.dmp ∧ (powerUp ds s).net = s.net ∧ (powerUp ds s).mem = s.mem ∧
    (powerUp ds s).adc = s.adc ∧ (powerUp ds s).mtr = s.mtr ∧ (powerUp ds s).pts = s.pts ∧
    (powerUp ds s).courses = s.courses ∧ (powerUp ds s).slv = s.slv ∧ (powerUp ds s).pln = s.pln ∧
    (powerUp ds s).brd = s.brd ∧ (powerUp ds s).lpe = s.lpe ∧ (powerUp ds s).out = s.out ∧
    (powerUp ds s).slc = s.slc ∧ (powerUp ds s).can = s.can ∧ (powerUp ds s).key = s.key ∧
    (powerUp ds s).upd = s.upd ∧ (powerUp ds s).cfg = s.cfg := by
  and_intros <;> rfl

@[simp] theorem failBoot_frame (code) (step) (s : State) :
    (failBoot code step s).pending = s.pending ∧ (failBoot code step s).sent = s.sent ∧
    (failBoot code step s).free = s.free ∧ (failBoot code step s).board = s.board ∧
    (failBoot code step s).policy = s.policy ∧ (failBoot code step s).pmu = s.pmu ∧
    (failBoot code step s).evt = s.evt ∧ (failBoot code step s).pcie = s.pcie ∧ (failBoot code step s).vcp = s.vcp ∧
    (failBoot code step s).tim = s.tim ∧ (failBoot code step s).rtc = s.rtc ∧ (failBoot code step s).log = s.log ∧
    (failBoot code step s).dmp = s.dmp ∧ (failBoot code step s).net = s.net ∧ (failBoot code step s).mem = s.mem ∧
    (failBoot code step s).adc = s.adc ∧ (failBoot code step s).mtr = s.mtr ∧ (failBoot code step s).pts = s.pts ∧
    (failBoot code step s).courses = s.courses ∧ (failBoot code step s).slv = s.slv ∧
    (failBoot code step s).pln = s.pln ∧ (failBoot code step s).brd = s.brd ∧ (failBoot code step s).lpe = s.lpe ∧
    (failBoot code step s).out = s.out ∧ (failBoot code step s).slc = s.slc ∧ (failBoot code step s).can = s.can ∧
    (failBoot code step s).key = s.key ∧ (failBoot code step s).upd = s.upd ∧ (failBoot code step s).cfg = s.cfg := by
  and_intros <;> rfl

@[simp] theorem tripLevelOnly_frame (n) (active) (s : State) :
    (tripLevelOnly n active s).pending = s.pending ∧ (tripLevelOnly n active s).sent = s.sent ∧
    (tripLevelOnly n active s).free = s.free ∧ (tripLevelOnly n active s).sys = s.sys ∧
    (tripLevelOnly n active s).policy = s.policy ∧ (tripLevelOnly n active s).pmu = s.pmu ∧
    (tripLevelOnly n active s).evt = s.evt ∧ (tripLevelOnly n active s).pcie = s.pcie ∧
    (tripLevelOnly n active s).vcp = s.vcp ∧ (tripLevelOnly n active s).tim = s.tim ∧
    (tripLevelOnly n active s).rtc = s.rtc ∧ (tripLevelOnly n active s).log = s.log ∧
    (tripLevelOnly n active s).dmp = s.dmp ∧ (tripLevelOnly n active s).net = s.net ∧
    (tripLevelOnly n active s).mem = s.mem ∧ (tripLevelOnly n active s).adc = s.adc ∧
    (tripLevelOnly n active s).mtr = s.mtr ∧ (tripLevelOnly n active s).pts = s.pts ∧
    (tripLevelOnly n active s).courses = s.courses ∧ (tripLevelOnly n active s).slv = s.slv ∧
    (tripLevelOnly n active s).pln = s.pln ∧ (tripLevelOnly n active s).brd = s.brd ∧
    (tripLevelOnly n active s).lpe = s.lpe ∧ (tripLevelOnly n active s).out = s.out ∧
    (tripLevelOnly n active s).slc = s.slc ∧ (tripLevelOnly n active s).can = s.can ∧
    (tripLevelOnly n active s).key = s.key ∧ (tripLevelOnly n active s).upd = s.upd ∧
    (tripLevelOnly n active s).cfg = s.cfg := by
  and_intros <;> rfl

@[simp] theorem gateFabric_frame (a) (b) (s : State) :
    (gateFabric a b s).pending = s.pending ∧ (gateFabric a b s).sent = s.sent ∧ (gateFabric a b s).free = s.free ∧
    (gateFabric a b s).board = s.board ∧ (gateFabric a b s).sys = s.sys ∧ (gateFabric a b s).policy = s.policy ∧
    (gateFabric a b s).evt = s.evt ∧ (gateFabric a b s).pcie = s.pcie ∧ (gateFabric a b s).vcp = s.vcp ∧
    (gateFabric a b s).tim = s.tim ∧ (gateFabric a b s).rtc = s.rtc ∧ (gateFabric a b s).log = s.log ∧
    (gateFabric a b s).dmp = s.dmp ∧ (gateFabric a b s).net = s.net ∧ (gateFabric a b s).mem = s.mem ∧
    (gateFabric a b s).adc = s.adc ∧ (gateFabric a b s).mtr = s.mtr ∧ (gateFabric a b s).pts = s.pts ∧
    (gateFabric a b s).courses = s.courses ∧ (gateFabric a b s).pln = s.pln ∧ (gateFabric a b s).brd = s.brd ∧
    (gateFabric a b s).lpe = s.lpe ∧ (gateFabric a b s).out = s.out ∧ (gateFabric a b s).slc = s.slc ∧
    (gateFabric a b s).can = s.can ∧ (gateFabric a b s).key = s.key ∧ (gateFabric a b s).upd = s.upd ∧
    (gateFabric a b s).cfg = s.cfg := by
  and_intros <;> rfl

@[simp] theorem endReinit_frame (x) (s : State) :
    (endReinit x s).pending = s.pending ∧ (endReinit x s).sent = s.sent ∧ (endReinit x s).free = s.free ∧
    (endReinit x s).board = s.board ∧ (endReinit x s).policy = s.policy ∧ (endReinit x s).pmu = s.pmu ∧
    (endReinit x s).evt = s.evt ∧ (endReinit x s).pcie = s.pcie ∧ (endReinit x s).vcp = s.vcp ∧
    (endReinit x s).tim = s.tim ∧ (endReinit x s).rtc = s.rtc ∧ (endReinit x s).log = s.log ∧
    (endReinit x s).dmp = s.dmp ∧ (endReinit x s).net = s.net ∧ (endReinit x s).mem = s.mem ∧
    (endReinit x s).adc = s.adc ∧ (endReinit x s).mtr = s.mtr ∧ (endReinit x s).pts = s.pts ∧
    (endReinit x s).courses = s.courses ∧ (endReinit x s).slv = s.slv ∧ (endReinit x s).pln = s.pln ∧
    (endReinit x s).brd = s.brd ∧ (endReinit x s).lpe = s.lpe ∧ (endReinit x s).out = s.out ∧
    (endReinit x s).slc = s.slc ∧ (endReinit x s).can = s.can ∧ (endReinit x s).key = s.key ∧
    (endReinit x s).upd = s.upd ∧ (endReinit x s).cfg = s.cfg := by
  and_intros <;> rfl

/-! ### What the plainest updates change -/

@[simp] theorem emit_sent (e) (s : State) : (emit e s).sent = s.sent ++ [e] := rfl
@[simp] theorem tickFree_free (s : State) (n) : (tickFree s n).free = s.free + n := rfl
@[simp] theorem pmuSet_flags (b) (s : State) : (pmuSet b s).pmu.flags = bset s.pmu.flags b := rfl
@[simp] theorem cmdErr_err (b) (s : State) : (cmdErr b s).vcp.err = bset s.vcp.err b := rfl
@[simp] theorem setRing_rings (n r) (s : State) : (setRing n r s).vcp.rings = tset s.vcp.rings n r := rfl
@[simp] theorem modUnit_units (u f) (s : State) : (modUnit u f s).pts.units = tmod s.pts.units u {} f := rfl
@[simp] theorem modMtr_channels (n f) (s : State) : (modMtr n f s).mtr.channels = tmod s.mtr.channels n {} f := rfl
@[simp] theorem modSlot_slots (k f) (s : State) : (modSlot k f s).lpe.slots = tmod s.lpe.slots k {} f := rfl
@[simp] theorem modCan_channels (c f) (s : State) : (modCan c f s).can.channels = tmod s.can.channels c {} f := rfl
@[simp] theorem modNet_ports (p f) (s : State) : (modNet p f s).net.ports = tmod s.net.ports p {} f := rfl
@[simp] theorem modCourses_courses (p f) (s : State) : (modCourses p f s).courses = tmod s.courses p {} f := rfl
@[simp] theorem setRunning_running (p r) (s : State) : (setRunning p r s).slv.running = tset s.slv.running p r := rfl
@[simp] theorem delRunning_running (p) (s : State) : (delRunning p s).slv.running = tdel s.slv.running p := rfl
@[simp] theorem ptpPort_setPort (p q f) (s : State) (h : q < 8) :
    ptpPort (setPort p f s) q = if q = p then f (ptpPort s q) else ptpPort s q := by
  simp [ptpPort, setPort, List.getD, h]
@[simp] theorem failBoot_sys (c n) (s : State) :
    (failBoot c n s).sys.bootFail = c ∧ (failBoot c n s).sys.bootStep = n := ⟨rfl, rfl⟩

/-! ### Time passing -/

/-- What passes by itself between two commands: only the rate registers, the counter, the clock, the operating counter
and the fabric's domain times change (log entry 2). -/
@[simp] theorem advance_frame (s : State) (dt) :
    (s.advance dt).pending = s.pending ∧ (s.advance dt).sent = s.sent ∧ (s.advance dt).free = s.free ∧
    (s.advance dt).board = s.board ∧ (s.advance dt).sys = s.sys ∧ (s.advance dt).policy = s.policy ∧
    (s.advance dt).evt = s.evt ∧ (s.advance dt).pcie = s.pcie ∧ (s.advance dt).vcp = s.vcp ∧
    (s.advance dt).dmp = s.dmp ∧ (s.advance dt).net = s.net ∧ (s.advance dt).mem = s.mem ∧
    (s.advance dt).adc = s.adc ∧ (s.advance dt).mtr = s.mtr ∧ (s.advance dt).courses = s.courses ∧
    (s.advance dt).slv = s.slv ∧ (s.advance dt).pln = s.pln ∧ (s.advance dt).brd = s.brd ∧
    (s.advance dt).out = s.out ∧ (s.advance dt).slc = s.slc ∧ (s.advance dt).can = s.can ∧
    (s.advance dt).key = s.key ∧ (s.advance dt).upd = s.upd ∧ (s.advance dt).cfg = s.cfg := by
  cases h : alwaysOn s <;> simp [State.advance, h]

/-- While PD1 runs, the advanced views and operating counter are the shared operations' (R427). -/
theorem advance_running (s : State) (dt) (h : alwaysOn s = true) :
    (s.advance dt).tim = elapseTim s dt ∧ (s.advance dt).log = elapseLog s.log dt := by
  unfold State.advance
  rw [if_pos h]
  exact ⟨rfl, rfl⟩

/-- While it does not, only the clock on VBAT can move. -/
theorem advance_stopped (s : State) (dt) (h : alwaysOn s = false) :
    (s.advance dt).tim = s.tim ∧ (s.advance dt).log = s.log ∧ (s.advance dt).pmu = s.pmu ∧
    (s.advance dt).pts = s.pts ∧ (s.advance dt).lpe = s.lpe := by
  unfold State.advance
  rw [if_neg (by simp [h])]
  and_intros <;> rfl

/-- The fabric changes nothing for a partition that runs no job. -/
theorem fabricRun_idle (p c) (s : State) (h : runningOf s p = none) : fabricRun p c s = s := by simp [fabricRun, h]

/-- With no command that waits for another, nothing re-initialising and no job running, time is all that passes. -/
theorem elapse_quiet (s : State) (dt) (h : s.vcp.held = []) (r : s.sys.reinit = []) (j : s.slv.running = []) :
    s.elapse dt = s.advance dt := by
  have e (p) : runningOf (s.advance dt) p = none := by simp [runningOf, j, tfind]
  simp [State.elapse, h, releaseHeld, finishReinits, r, applyAll, fabricRun_idle, e]

end Sys2Proof.Laws
end

