-- ==== Sys2Proof/Laws/Tables.lean ====
section
/-! SUPPORT. The sparse tables: what an entry reads after an entry is written, changed or taken out, and the lengths of
the byte strings that the formats are made of. -/

set_option Elab.async false

namespace Sys2Proof.Laws

open Sys2Proof

variable {α : Type}

@[simp] theorem tfind_nil (n : Nat) : tfind ([] : Table α) n = none := rfl
@[simp] theorem tget_nil (n : Nat) (d : α) : tget [] n d = d := rfl

/-- The entry written reads back. -/
@[simp] theorem tfind_tset_same (t : Table α) (n : Nat) (v : α) : tfind (tset t n v) n = some v := by
  induction t with
  | nil => simp [tset, tfind]
  | cons c t ih =>
    obtain ⟨k, x⟩ := c
    unfold tset
    split
    · simp [tfind]
    · split
      · simp [tfind]
      · rename_i h1 h2
        simp only [tfind, if_neg (show ¬ k = n by omega)]
        exact ih

/-- Every other entry reads as before. -/
theorem tfind_tset_ne (t : Table α) {n m : Nat} (v : α) (h : m ≠ n) : tfind (tset t n v) m = tfind t m := by
  induction t with
  | nil => simp [tset, tfind, h.symm]
  | cons c t ih =>
    obtain ⟨k, x⟩ := c
    unfold tset
    split
    · simp [tfind, h.symm]
    · split
      · rename_i e
        subst e
        simp [tfind, h.symm]
      · simp only [tfind, ih]

@[simp] theorem tget_tset_same (t : Table α) (n : Nat) (v d : α) : tget (tset t n v) n d = v := by simp [tget]

theorem tget_tset_ne (t : Table α) {n m : Nat} (v d : α) (h : m ≠ n) : tget (tset t n v) m d = tget t m d := by
  simp [tget, tfind_tset_ne t v h]

@[simp] theorem tget_tmod_same (t : Table α) (n : Nat) (d : α) (f : α → α) : tget (tmod t n d f) n d = f (tget t n d) := by
  simp [tmod]

theorem tget_tmod_ne (t : Table α) {n m : Nat} (d e : α) (f : α → α) (h : m ≠ n) :
    tget (tmod t n d f) m e = tget t m e := by
  simp [tmod, tget_tset_ne t _ e h]

/-- An entry taken out is not listed. -/
@[simp] theorem tfind_tdel_same (t : Table α) (n : Nat) : tfind (tdel t n) n = none := by
  induction t with
  | nil => rfl
  | cons c t ih =>
    obtain ⟨k, x⟩ := c
    by_cases h : k = n
    · simp only [tdel, List.filter_cons, h]
      simp only [ne_eq, not_true_eq_false, decide_false, Bool.false_eq_true, if_false]
      exact ih
    · simp only [tdel, List.filter_cons]
      simp only [ne_eq, h, not_false_eq_true, decide_true, if_true, tfind]
      exact ih

/-- Every other entry stays listed. -/
theorem tfind_tdel_ne (t : Table α) {n m : Nat} (h : m ≠ n) : tfind (tdel t n) m = tfind t m := by
  induction t with
  | nil => rfl
  | cons c t ih =>
    obtain ⟨k, x⟩ := c
    by_cases e : k = n
    · simp only [tdel, List.filter_cons, e]
      simp only [ne_eq, not_true_eq_false, decide_false, Bool.false_eq_true, if_false, tfind, if_neg h.symm]
      exact ih
    · simp only [tdel, List.filter_cons]
      simp only [ne_eq, e, not_false_eq_true, decide_true, if_true, tfind]
      split
      · rfl
      · exact ih

@[simp] theorem le_length (n v : Nat) : (le n v).length = n := by
  induction n generalizing v with
  | zero => rfl
  | succ n ih => simp [le, ih]

@[simp] theorem be_length (n v : Nat) : (be n v).length = n := by simp [be]
@[simp] theorem zeros_length (n : Nat) : (zeros n).length = n := by simp [zeros]

/-- A string of `n` little-endian bytes reads back as the number, below 256 to the `n`. -/
theorem u8_le (n v o : Nat) (h : o < n) : u8 (le n v) o = v / 256 ^ o % 256 := by
  induction n generalizing v o with
  | zero => omega
  | succ n ih =>
    cases o with
    | zero => simp [u8, le]
    | succ o =>
      have e : u8 (le (n + 1) v) (o + 1) = u8 (le n (v / 256)) o := by simp [u8, le]
      rw [e, ih (v / 256) o (by omega), Nat.div_div_eq_div_mul, Nat.pow_succ, Nat.mul_comm]

/-- A u16 or u32 field holds the number it was written from. -/
theorem u16_le16 (v : Nat) (h : v < 65536) : u16 (le16 v) 0 = v := by
  simp only [u16, le16, u8_le 2 v 0 (by omega), u8_le 2 v (0 + 1) (by omega)]
  omega

theorem u32_le32 (v : Nat) (h : v < 4294967296) : u32 (le32 v) 0 = v := by
  simp only [u32, u16, le32, u8_le 4 v 0 (by omega), u8_le 4 v (0 + 1) (by omega), u8_le 4 v (0 + 2) (by omega),
    u8_le 4 v (0 + 2 + 1) (by omega)]
  omega

end Sys2Proof.Laws
end

