-- ==== Sys2Proof/Laws/Ops.lean ====
section
/-! SUPPORT. The shared operations: for each, what it leaves alone and what it leaves behind, so that no later proof
unfolds it; and the answers of a VCP command by what acceptance and its body make of it. -/

set_option Elab.async false

namespace Sys2Proof.Laws

open Sys2Proof Sys2Proof.Machine

/-! ### Time and bits -/

@[simp] theorem modeOf_modeCode (m : Mode) : modeOf (modeCode m) = some m := by cases m <;> rfl

/-- A view with its increment changed reads, at the tick of the change, what it read before (R332). -/
@[simp] theorem viewAt_rebase (v : View) (c : Nat) (inc : Int) : viewAt (rebase v c inc) c = viewAt v c := by
  simp [rebase, viewAt]

/-! ### Event sources (R451 to R455) -/

/-- An MSI-X message is emitted: nothing else (R455). -/
@[simp] theorem sendMsix_frame (v) (s : State) :
    (sendMsix v s).pending = s.pending ∧ (sendMsix v s).free = s.free ∧ (sendMsix v s).board = s.board ∧
    (sendMsix v s).sys = s.sys ∧ (sendMsix v s).policy = s.policy ∧ (sendMsix v s).pmu = s.pmu ∧
    (sendMsix v s).evt = s.evt ∧ (sendMsix v s).pcie = s.pcie ∧ (sendMsix v s).vcp = s.vcp ∧
    (sendMsix v s).tim = s.tim ∧ (sendMsix v s).rtc = s.rtc ∧ (sendMsix v s).log = s.log ∧
    (sendMsix v s).dmp = s.dmp ∧ (sendMsix v s).net = s.net ∧ (sendMsix v s).mem = s.mem ∧
    (sendMsix v s).adc = s.adc ∧ (sendMsix v s).mtr = s.mtr ∧ (sendMsix v s).pts = s.pts ∧
    (sendMsix v s).courses = s.courses ∧ (sendMsix v s).slv = s.slv ∧ (sendMsix v s).pln = s.pln ∧
    (sendMsix v s).brd = s.brd ∧ (sendMsix v s).lpe = s.lpe ∧ (sendMsix v s).out = s.out ∧
    (sendMsix v s).slc = s.slc ∧ (sendMsix v s).can = s.can ∧ (sendMsix v s).key = s.key ∧
    (sendMsix v s).upd = s.upd ∧ (sendMsix v s).cfg = s.cfg := by
  simp [sendMsix]

/-- An MSI-X message is posted, or its Pending Bit set (R455): nothing else. -/
@[simp] theorem postMsix_frame (v) (s : State) :
    (postMsix v s).pending = s.pending ∧ (postMsix v s).free = s.free ∧ (postMsix v s).board = s.board ∧
    (postMsix v s).sys = s.sys ∧ (postMsix v s).policy = s.policy ∧ (postMsix v s).pmu = s.pmu ∧
    (postMsix v s).evt = s.evt ∧ (postMsix v s).vcp = s.vcp ∧ (postMsix v s).tim = s.tim ∧
    (postMsix v s).rtc = s.rtc ∧ (postMsix v s).log = s.log ∧ (postMsix v s).dmp = s.dmp ∧
    (postMsix v s).net = s.net ∧ (postMsix v s).mem = s.mem ∧ (postMsix v s).adc = s.adc ∧
    (postMsix v s).mtr = s.mtr ∧ (postMsix v s).pts = s.pts ∧ (postMsix v s).courses = s.courses ∧
    (postMsix v s).slv = s.slv ∧ (postMsix v s).pln = s.pln ∧ (postMsix v s).brd = s.brd ∧
    (postMsix v s).lpe = s.lpe ∧ (postMsix v s).out = s.out ∧ (postMsix v s).slc = s.slc ∧
    (postMsix v s).can = s.can ∧ (postMsix v s).key = s.key ∧ (postMsix v s).upd = s.upd ∧
    (postMsix v s).cfg = s.cfg := by
  by_cases h : (s.pcie.functionMask || s.pcie.vmask.getLsbD v) = true <;> simp [postMsix, h]

@[simp] theorem postMsix_evt (v) (s : State) : (postMsix v s).evt = s.evt := by simp

/-- An event message touches the event registers, the Pending Bits and what is emitted (R454). -/
@[simp] theorem sendMessage_frame (v) (s : State) :
    (sendMessage v s).pending = s.pending ∧ (sendMessage v s).free = s.free ∧ (sendMessage v s).board = s.board ∧
    (sendMessage v s).sys = s.sys ∧ (sendMessage v s).policy = s.policy ∧ (sendMessage v s).pmu = s.pmu ∧
    (sendMessage v s).vcp = s.vcp ∧ (sendMessage v s).tim = s.tim ∧ (sendMessage v s).rtc = s.rtc ∧
    (sendMessage v s).log = s.log ∧ (sendMessage v s).dmp = s.dmp ∧ (sendMessage v s).net = s.net ∧
    (sendMessage v s).mem = s.mem ∧ (sendMessage v s).adc = s.adc ∧ (sendMessage v s).mtr = s.mtr ∧
    (sendMessage v s).pts = s.pts ∧ (sendMessage v s).courses = s.courses ∧ (sendMessage v s).slv = s.slv ∧
    (sendMessage v s).pln = s.pln ∧ (sendMessage v s).brd = s.brd ∧ (sendMessage v s).lpe = s.lpe ∧
    (sendMessage v s).out = s.out ∧ (sendMessage v s).slc = s.slc ∧ (sendMessage v s).can = s.can ∧
    (sendMessage v s).key = s.key ∧ (sendMessage v s).upd = s.upd ∧ (sendMessage v s).cfg = s.cfg := by
  by_cases h : messageDue s v = true <;> simp [sendMessage, h]

/-- An event message sets and clears no pending bit. -/
@[simp] theorem sendMessage_pend (v) (s : State) : (sendMessage v s).evt.pend = s.evt.pend := by
  by_cases h : messageDue s v = true <;> simp [sendMessage, h]

/-- EVENT_RAISE touches the event registers, the Pending Bits and what is emitted (R451). -/
@[simp] theorem raise_frame (n) (s : State) :
    (raise n s).pending = s.pending ∧ (raise n s).free = s.free ∧ (raise n s).board = s.board ∧
    (raise n s).sys = s.sys ∧ (raise n s).policy = s.policy ∧ (raise n s).pmu = s.pmu ∧ (raise n s).vcp = s.vcp ∧
    (raise n s).tim = s.tim ∧ (raise n s).rtc = s.rtc ∧ (raise n s).log = s.log ∧ (raise n s).dmp = s.dmp ∧
    (raise n s).net = s.net ∧ (raise n s).mem = s.mem ∧ (raise n s).adc = s.adc ∧ (raise n s).mtr = s.mtr ∧
    (raise n s).pts = s.pts ∧ (raise n s).courses = s.courses ∧ (raise n s).slv = s.slv ∧ (raise n s).pln = s.pln ∧
    (raise n s).brd = s.brd ∧ (raise n s).lpe = s.lpe ∧ (raise n s).out = s.out ∧ (raise n s).slc = s.slc ∧
    (raise n s).can = s.can ∧ (raise n s).key = s.key ∧ (raise n s).upd = s.upd ∧ (raise n s).cfg = s.cfg := by
  simp only [raise]
  split <;> simp

/-- EVENT_RAISE sets the source's pending bit and no other (R451). -/
@[simp] theorem raise_pend (n) (s : State) : (raise n s).evt.pend = bset s.evt.pend n := by
  simp only [raise]
  split <;> simp

/-! ### The recorder's intake (R425 to R431) -/

/-- A report touches the recorder and, when a record is lost, the event registers (R430). -/
@[simp] theorem submit_frame (e) (s : State) :
    (submit e s).pending = s.pending ∧ (submit e s).free = s.free ∧ (submit e s).board = s.board ∧
    (submit e s).sys = s.sys ∧ (submit e s).policy = s.policy ∧ (submit e s).pmu = s.pmu ∧ (submit e s).vcp = s.vcp ∧
    (submit e s).tim = s.tim ∧ (submit e s).rtc = s.rtc ∧ (submit e s).dmp = s.dmp ∧ (submit e s).net = s.net ∧
    (submit e s).mem = s.mem ∧ (submit e s).adc = s.adc ∧ (submit e s).mtr = s.mtr ∧ (submit e s).pts = s.pts ∧
    (submit e s).courses = s.courses ∧ (submit e s).slv = s.slv ∧ (submit e s).pln = s.pln ∧
    (submit e s).brd = s.brd ∧ (submit e s).lpe = s.lpe ∧ (submit e s).out = s.out ∧ (submit e s).slc = s.slc ∧
    (submit e s).can = s.can ∧ (submit e s).key = s.key ∧ (submit e s).upd = s.upd ∧ (submit e s).cfg = s.cfg := by
  by_cases h : (intake e s.log).2 = true <;> simp [submit, h]

/-- A report leaves the recorder as the intake makes it (R430). -/
@[simp] theorem submit_log (e) (s : State) : (submit e s).log = (intake e s.log).1 := by
  by_cases h : (intake e s.log).2 = true <;> simp [submit, h]

/-- A block that reports touches the recorder and, when a record is lost, the event registers (R425). -/
@[simp] theorem report_frame (c j a d) (s : State) :
    (report c j a d s).pending = s.pending ∧ (report c j a d s).free = s.free ∧ (report c j a d s).board = s.board ∧
    (report c j a d s).sys = s.sys ∧ (report c j a d s).policy = s.policy ∧ (report c j a d s).pmu = s.pmu ∧
    (report c j a d s).vcp = s.vcp ∧ (report c j a d s).tim = s.tim ∧ (report c j a d s).rtc = s.rtc ∧
    (report c j a d s).dmp = s.dmp ∧ (report c j a d s).net = s.net ∧ (report c j a d s).mem = s.mem ∧
    (report c j a d s).adc = s.adc ∧ (report c j a d s).mtr = s.mtr ∧ (report c j a d s).pts = s.pts ∧
    (report c j a d s).courses = s.courses ∧ (report c j a d s).slv = s.slv ∧ (report c j a d s).pln = s.pln ∧
    (report c j a d s).brd = s.brd ∧ (report c j a d s).lpe = s.lpe ∧ (report c j a d s).out = s.out ∧
    (report c j a d s).slc = s.slc ∧ (report c j a d s).can = s.can ∧ (report c j a d s).key = s.key ∧
    (report c j a d s).upd = s.upd ∧ (report c j a d s).cfg = s.cfg := by
  simp [report]

/-- The intake with room takes the report at the FIFO's end and loses nothing (R430). -/
theorem intake_room (e : Intake) (l : Log) (h : l.fifo.length < 64) :
    intake e l = (beginWrite { l with fifo := l.fifo ++ [e] }, false) := by simp [intake, h]

/-! ### Responses (R30, R47, R51) -/

/-- A completion touches the VCP registers, the Pending Bits and what is emitted (R47). -/
@[simp] theorem complete_frame (r t x b h) (s : State) :
    (complete r t x b h s).pending = s.pending ∧ (complete r t x b h s).free = s.free ∧
    (complete r t x b h s).board = s.board ∧ (complete r t x b h s).sys = s.sys ∧
    (complete r t x b h s).policy = s.policy ∧ (complete r t x b h s).pmu = s.pmu ∧
    (complete r t x b h s).evt = s.evt ∧ (complete r t x b h s).tim = s.tim ∧ (complete r t x b h s).rtc = s.rtc ∧
    (complete r t x b h s).log = s.log ∧ (complete r t x b h s).dmp = s.dmp ∧ (complete r t x b h s).net = s.net ∧
    (complete r t x b h s).mem = s.mem ∧ (complete r t x b h s).adc = s.adc ∧ (complete r t x b h s).mtr = s.mtr ∧
    (complete r t x b h s).pts = s.pts ∧ (complete r t x b h s).courses = s.courses ∧
    (complete r t x b h s).slv = s.slv ∧ (complete r t x b h s).pln = s.pln ∧ (complete r t x b h s).brd = s.brd ∧
    (complete r t x b h s).lpe = s.lpe ∧ (complete r t x b h s).out = s.out ∧ (complete r t x b h s).slc = s.slc ∧
    (complete r t x b h s).can = s.can ∧ (complete r t x b h s).key = s.key ∧ (complete r t x b h s).upd = s.upd ∧
    (complete r t x b h s).cfg = s.cfg := by
  unfold complete
  extract_lets
  split <;> simp +zetaDelta

/-- A frame sent on a port touches the ports and what is emitted (R22). -/
@[simp] theorem sendFrame_frame (p) (s : State) :
    (sendFrame p s).pending = s.pending ∧ (sendFrame p s).free = s.free ∧ (sendFrame p s).board = s.board ∧
    (sendFrame p s).sys = s.sys ∧ (sendFrame p s).policy = s.policy ∧ (sendFrame p s).pmu = s.pmu ∧
    (sendFrame p s).evt = s.evt ∧ (sendFrame p s).pcie = s.pcie ∧ (sendFrame p s).vcp = s.vcp ∧
    (sendFrame p s).tim = s.tim ∧ (sendFrame p s).rtc = s.rtc ∧ (sendFrame p s).log = s.log ∧
    (sendFrame p s).dmp = s.dmp ∧ (sendFrame p s).mem = s.mem ∧ (sendFrame p s).adc = s.adc ∧
    (sendFrame p s).mtr = s.mtr ∧ (sendFrame p s).pts = s.pts ∧ (sendFrame p s).courses = s.courses ∧
    (sendFrame p s).slv = s.slv ∧ (sendFrame p s).pln = s.pln ∧ (sendFrame p s).brd = s.brd ∧
    (sendFrame p s).lpe = s.lpe ∧ (sendFrame p s).out = s.out ∧ (sendFrame p s).slc = s.slc ∧
    (sendFrame p s).can = s.can ∧ (sendFrame p s).key = s.key ∧ (sendFrame p s).upd = s.upd ∧
    (sendFrame p s).cfg = s.cfg := by
  unfold sendFrame
  split <;> simp

/-- A record sent on an association touches the VCP registers and, at a rekey, what is emitted (R49). -/
@[simp] theorem countRecord_frame (a) (s : State) :
    (countRecord a s).pending = s.pending ∧ (countRecord a s).free = s.free ∧ (countRecord a s).board = s.board ∧
    (countRecord a s).sys = s.sys ∧ (countRecord a s).policy = s.policy ∧ (countRecord a s).pmu = s.pmu ∧
    (countRecord a s).evt = s.evt ∧ (countRecord a s).pcie = s.pcie ∧ (countRecord a s).tim = s.tim ∧
    (countRecord a s).rtc = s.rtc ∧ (countRecord a s).log = s.log ∧ (countRecord a s).dmp = s.dmp ∧
    (countRecord a s).net = s.net ∧ (countRecord a s).mem = s.mem ∧ (countRecord a s).adc = s.adc ∧
    (countRecord a s).mtr = s.mtr ∧ (countRecord a s).pts = s.pts ∧ (countRecord a s).courses = s.courses ∧
    (countRecord a s).slv = s.slv ∧ (countRecord a s).pln = s.pln ∧ (countRecord a s).brd = s.brd ∧
    (countRecord a s).lpe = s.lpe ∧ (countRecord a s).out = s.out ∧ (countRecord a s).slc = s.slc ∧
    (countRecord a s).can = s.can ∧ (countRecord a s).key = s.key ∧ (countRecord a s).upd = s.upd ∧
    (countRecord a s).cfg = s.cfg := by
  unfold countRecord
  repeat' split
  all_goals simp

/-- So does a response on any transport, and over UDP the port that it leaves by. -/
@[simp] theorem post_frame (w q d o f x b) (s : State) :
    (post w q d o f x b s).pending = s.pending ∧ (post w q d o f x b s).free = s.free ∧
    (post w q d o f x b s).board = s.board ∧ (post w q d o f x b s).sys = s.sys ∧
    (post w q d o f x b s).policy = s.policy ∧ (post w q d o f x b s).pmu = s.pmu ∧
    (post w q d o f x b s).evt = s.evt ∧ (post w q d o f x b s).tim = s.tim ∧ (post w q d o f x b s).rtc = s.rtc ∧
    (post w q d o f x b s).log = s.log ∧ (post w q d o f x b s).dmp = s.dmp ∧ (post w q d o f x b s).mem = s.mem ∧
    (post w q d o f x b s).adc = s.adc ∧ (post w q d o f x b s).mtr = s.mtr ∧ (post w q d o f x b s).pts = s.pts ∧
    (post w q d o f x b s).courses = s.courses ∧ (post w q d o f x b s).slv = s.slv ∧
    (post w q d o f x b s).pln = s.pln ∧ (post w q d o f x b s).brd = s.brd ∧ (post w q d o f x b s).lpe = s.lpe ∧
    (post w q d o f x b s).out = s.out ∧ (post w q d o f x b s).slc = s.slc ∧ (post w q d o f x b s).can = s.can ∧
    (post w q d o f x b s).key = s.key ∧ (post w q d o f x b s).upd = s.upd ∧ (post w q d o f x b s).cfg = s.cfg := by
  unfold post
  extract_lets
  split <;> simp +zetaDelta

/-- So does the response of a command. -/
@[simp] theorem respond_frame (o c u x b) (s : State) :
    (respond o c u x b s).pending = s.pending ∧ (respond o c u x b s).free = s.free ∧
    (respond o c u x b s).board = s.board ∧ (respond o c u x b s).sys = s.sys ∧
    (respond o c u x b s).policy = s.policy ∧ (respond o c u x b s).pmu = s.pmu ∧ (respond o c u x b s).evt = s.evt ∧
    (respond o c u x b s).tim = s.tim ∧ (respond o c u x b s).rtc = s.rtc ∧ (respond o c u x b s).log = s.log ∧
    (respond o c u x b s).dmp = s.dmp ∧ (respond o c u x b s).mem = s.mem ∧ (respond o c u x b s).adc = s.adc ∧
    (respond o c u x b s).mtr = s.mtr ∧ (respond o c u x b s).pts = s.pts ∧
    (respond o c u x b s).courses = s.courses ∧ (respond o c u x b s).slv = s.slv ∧
    (respond o c u x b s).pln = s.pln ∧ (respond o c u x b s).brd = s.brd ∧ (respond o c u x b s).lpe = s.lpe ∧
    (respond o c u x b s).out = s.out ∧ (respond o c u x b s).slc = s.slc ∧ (respond o c u x b s).can = s.can ∧
    (respond o c u x b s).key = s.key ∧ (respond o c u x b s).upd = s.upd ∧ (respond o c u x b s).cfg = s.cfg := by
  simp [respond]

/-- So does a cached response that goes again. -/
@[simp] theorem respondAgain_frame (c r) (s : State) :
    (respondAgain c r s).pending = s.pending ∧ (respondAgain c r s).free = s.free ∧
    (respondAgain c r s).board = s.board ∧ (respondAgain c r s).sys = s.sys ∧
    (respondAgain c r s).policy = s.policy ∧ (respondAgain c r s).pmu = s.pmu ∧ (respondAgain c r s).evt = s.evt ∧
    (respondAgain c r s).tim = s.tim ∧ (respondAgain c r s).rtc = s.rtc ∧ (respondAgain c r s).log = s.log ∧
    (respondAgain c r s).dmp = s.dmp ∧ (respondAgain c r s).mem = s.mem ∧ (respondAgain c r s).adc = s.adc ∧
    (respondAgain c r s).mtr = s.mtr ∧ (respondAgain c r s).pts = s.pts ∧ (respondAgain c r s).courses = s.courses ∧
    (respondAgain c r s).slv = s.slv ∧ (respondAgain c r s).pln = s.pln ∧ (respondAgain c r s).brd = s.brd ∧
    (respondAgain c r s).lpe = s.lpe ∧ (respondAgain c r s).out = s.out ∧ (respondAgain c r s).slc = s.slc ∧
    (respondAgain c r s).can = s.can ∧ (respondAgain c r s).key = s.key ∧ (respondAgain c r s).upd = s.upd ∧
    (respondAgain c r s).cfg = s.cfg := by
  unfold respondAgain
  split <;> simp

/-- The session record of an answered command touches the VCP registers only (R42). -/
@[simp] theorem settle_frame (o c x b) (s : State) :
    (settle o c x b s).pending = s.pending ∧ (settle o c x b s).sent = s.sent ∧ (settle o c x b s).free = s.free ∧
    (settle o c x b s).board = s.board ∧ (settle o c x b s).sys = s.sys ∧ (settle o c x b s).policy = s.policy ∧
    (settle o c x b s).pmu = s.pmu ∧ (settle o c x b s).evt = s.evt ∧ (settle o c x b s).pcie = s.pcie ∧
    (settle o c x b s).tim = s.tim ∧ (settle o c x b s).rtc = s.rtc ∧ (settle o c x b s).log = s.log ∧
    (settle o c x b s).dmp = s.dmp ∧ (settle o c x b s).net = s.net ∧ (settle o c x b s).mem = s.mem ∧
    (settle o c x b s).adc = s.adc ∧ (settle o c x b s).mtr = s.mtr ∧ (settle o c x b s).pts = s.pts ∧
    (settle o c x b s).courses = s.courses ∧ (settle o c x b s).slv = s.slv ∧ (settle o c x b s).pln = s.pln ∧
    (settle o c x b s).brd = s.brd ∧ (settle o c x b s).lpe = s.lpe ∧ (settle o c x b s).out = s.out ∧
    (settle o c x b s).slc = s.slc ∧ (settle o c x b s).can = s.can ∧ (settle o c x b s).key = s.key ∧
    (settle o c x b s).upd = s.upd ∧ (settle o c x b s).cfg = s.cfg := by
  simp [settle]

/-- A command that names a session restarts its idle timer: nothing else. -/
@[simp] theorem touch_frame (c) (s : State) :
    (touch c s).pending = s.pending ∧ (touch c s).sent = s.sent ∧ (touch c s).free = s.free ∧
    (touch c s).board = s.board ∧ (touch c s).sys = s.sys ∧ (touch c s).policy = s.policy ∧ (touch c s).pmu = s.pmu ∧
    (touch c s).evt = s.evt ∧ (touch c s).pcie = s.pcie ∧ (touch c s).tim = s.tim ∧ (touch c s).rtc = s.rtc ∧
    (touch c s).log = s.log ∧ (touch c s).dmp = s.dmp ∧ (touch c s).net = s.net ∧ (touch c s).mem = s.mem ∧
    (touch c s).adc = s.adc ∧ (touch c s).mtr = s.mtr ∧ (touch c s).pts = s.pts ∧ (touch c s).courses = s.courses ∧
    (touch c s).slv = s.slv ∧ (touch c s).pln = s.pln ∧ (touch c s).brd = s.brd ∧ (touch c s).lpe = s.lpe ∧
    (touch c s).out = s.out ∧ (touch c s).slc = s.slc ∧ (touch c s).can = s.can ∧ (touch c s).key = s.key ∧
    (touch c s).upd = s.upd ∧ (touch c s).cfg = s.cfg := by
  by_cases h : (sessionOf s c.transport c.assoc c.sid).isSome = true <;> simp [touch, h]

/-- A command accepted touches its session and the contact with the control room (R42, R66). -/
@[simp] theorem enter_frame (call) (s : State) :
    (enter call s).pending = s.pending ∧ (enter call s).sent = s.sent ∧ (enter call s).free = s.free ∧
    (enter call s).board = s.board ∧ (enter call s).policy = s.policy ∧ (enter call s).pmu = s.pmu ∧
    (enter call s).evt = s.evt ∧ (enter call s).pcie = s.pcie ∧ (enter call s).tim = s.tim ∧
    (enter call s).rtc = s.rtc ∧ (enter call s).log = s.log ∧ (enter call s).dmp = s.dmp ∧
    (enter call s).net = s.net ∧ (enter call s).mem = s.mem ∧ (enter call s).adc = s.adc ∧
    (enter call s).mtr = s.mtr ∧ (enter call s).pts = s.pts ∧ (enter call s).courses = s.courses ∧
    (enter call s).slv = s.slv ∧ (enter call s).pln = s.pln ∧ (enter call s).brd = s.brd ∧
    (enter call s).lpe = s.lpe ∧ (enter call s).out = s.out ∧ (enter call s).slc = s.slc ∧
    (enter call s).can = s.can ∧ (enter call s).key = s.key ∧ (enter call s).upd = s.upd ∧
    (enter call s).cfg = s.cfg := by
  simp only [enter, contactBy]
  split <;> simp

/-! ### A VCP command, by its acceptance and its body (R33) -/

/-- A command refused by a check of R33 answers its status, and runs nothing. -/
theorem runCommand_refused (o : OpRow) (body : Body) (c : Cmd) (s : State) (st) (h : acceptance o c s = .refuse st) :
    runCommand o body c s = respond o c false st [] (touch c s) := by simp [runCommand, conclude, h]

/-- A command dropped by a check of R33 changes nothing. -/
theorem runCommand_dropped (o : OpRow) (body : Body) (c : Cmd) (s : State) (h : acceptance o c s = .drop) :
    runCommand o body c s = s := by simp [runCommand, conclude, h]

/-- A duplicate whose response is cached gets it again, and runs nothing (R42). -/
theorem runCommand_again (o : OpRow) (body : Body) (c : Cmd) (s : State) (r) (h : acceptance o c s = .again r) :
    runCommand o body c s = respondAgain c r (touch c s) := by simp [runCommand, conclude, h]

/-- A command that has to wait joins those held, and answers nothing yet (R44). -/
theorem runCommand_waits (o : OpRow) (body : Body) (c : Cmd) (s : State) (h : acceptance o c s = .wait) :
    runCommand o body c s = holdCommand o.code c s := by simp [runCommand, conclude, h]

/-- A command whose response buffer holds no response is refused (R33, R35). -/
theorem runCommand_tight (o : OpRow) (body : Body) (c : Cmd) (s : State) (k) (h : acceptance o c s = .tight k) :
    runCommand o body c s = refuseTight o body c k (touch c s) := by simp [runCommand, conclude, h]

/-- An accepted command whose body refuses answers the status, and leaves the state as it was before its acceptance. -/
theorem runBody_refused (o : OpRow) (body : Body) (c : Cmd) (call : Call) (s t : State) (st)
    (h : body call (enter call s) = (t, .refuse st)) : runBody o body c call s = respond o c false st [] s := by
  simp [runBody, h]

/-- So does one whose body answers that another holds what it needs. -/
theorem runBody_busy (o : OpRow) (body : Body) (c : Cmd) (call : Call) (s t : State) (holder)
    (h : body call (enter call s) = (t, .busy holder)) :
    runBody o body c call s = respond o c false stBusy holder s := by
  simp [runBody, h]

/-- An accepted command whose body fails on its way answers the status, and keeps what it did. -/
theorem runBody_failed (o : OpRow) (body : Body) (c : Cmd) (call : Call) (s t : State) (st)
    (h : body call (enter call s) = (t, .fail st)) :
    runBody o body c call s = settle o c st [] (respond o c false st [] t) := by
  simp [runBody, h]

/-- An accepted command whose body succeeds within the response's space: ST_OK, its data, its session's record. -/
theorem runBody_ok (o : OpRow) (body : Body) (c : Cmd) (call : Call) (s t : State) (data)
    (h : body call (enter call s) = (t, .ok data)) (l : data.length ≤ call.cap) :
    runBody o body c call s =
      settle o c stOk (carried call data) (respond o c false stOk (carried call data) (written call data t)) := by
  simp [runBody, h, Nat.not_lt.mpr l]

/-- An accepted command whose data does not fit answers ST_RSP_SPACE and changes nothing else (R35). -/
theorem runBody_space (o : OpRow) (body : Body) (c : Cmd) (call : Call) (s t : State) (data)
    (h : body call (enter call s) = (t, .ok data)) (l : call.cap < data.length) :
    runBody o body c call s = respond o c false stRspSpace [] s := by
  simp [runBody, h, l]

/-- Without a reset asked for, none is carried out. -/
theorem finishReset_none (s : State) (h : s.sys.resetWanted = none) : finishReset s = s := by
  simp [finishReset, h]

/-- A command accepted and carried out with no reset asked for: the whole of its effect. -/
theorem runOp_ok (o : OpRow) (body : Body) (c : Cmd) (call : Call) (s t : State) (data)
    (a : acceptance o c s = .run call) (h : body call (enter call (touch c s)) = (t, .ok data))
    (l : data.length ≤ call.cap) (r : t.sys.resetWanted = none) (w : call.dmaOut = false) :
    runOp o body c s = settle o c stOk data (respond o c false stOk data t) := by
  have e : runCommand o body c s = settle o c stOk data (respond o c false stOk data t) := by
    simp [runCommand, conclude, a, runBody_ok o body c call (touch c s) t data h l, carried, written, w]
  unfold runOp
  rw [e, finishReset_none]
  simp [r]

end Sys2Proof.Laws
end

