-- ==== Sys2Proof/Laws/Queue.lean ====
section
/-! SUPPORT. The queue of waiting commands through the operations and bodies below the dispatch: each leaves it as it
was. What is not here (the acceptance of a command, start-up and the resets, and what calls them) is left to a proof. -/

namespace Sys2Proof.Laws

open Sys2Proof Sys2Proof.Machine

set_option maxRecDepth 4000
set_option Elab.async false
set_option linter.unusedTactic false
set_option linter.unreachableTactic false
set_option linter.unnecessarySeqFocus false
set_option linter.unusedSimpArgs false

@[simp] theorem applyAll_pending {α : Type} (f : α → State → State) (h : ∀ a t, (f a t).pending = t.pending) (l : List α) (s : State) :
    (applyAll f l s).pending = s.pending := by
  unfold applyAll
  induction l generalizing s with
  | nil => rfl
  | cons a l ih => simp [ih, h]

@[simp] theorem foldl_pending {α : Type} (f : State → α → State) (h : ∀ t a, (f t a).pending = t.pending) (l : List α) (s : State) :
    (l.foldl f s).pending = s.pending := by
  induction l generalizing s with
  | nil => rfl
  | cons a l ih => simp [ih, h]

@[simp] theorem ite_pending (c : Prop) [Decidable c] (a b : State) :
    (if c then a else b).pending = if c then a.pending else b.pending := by split <;> rfl

@[simp] theorem ite_fst_pending {β : Type} (c : Prop) [Decidable c] (a b : State × β) :
    (if c then a else b).1.pending = if c then a.1.pending else b.1.pending := by split <;> rfl



@[simp] theorem sendMessages_pending (s : State) : (sendMessages s).pending = s.pending := by
  simp [sendMessages]
@[simp] theorem State_advance_pending (s : State) (dt) : (State.advance s dt).pending = s.pending := by
  simp [State.advance]
@[simp] theorem asOf_pending (t) (s : State) : (asOf t s).pending = s.pending := by
  unfold asOf; dsimp only; repeat' split <;> simp
@[simp] theorem timFlag_pending (b) (s : State) : (timFlag b s).pending = s.pending := by
  unfold timFlag; dsimp only; (repeat' (first | rw [applyAll_pending] | rw [foldl_pending] | (intros; split))) <;> (intros; (repeat' split) <;> simp [*])
@[simp] theorem adcFlag_pending (b) (s : State) : (adcFlag b s).pending = s.pending := by
  simp [adcFlag]
@[simp] theorem ptsFlag_pending (b) (s : State) : (ptsFlag b s).pending = s.pending := by
  simp [ptsFlag]
@[simp] theorem dmpFlag_pending (b) (s : State) : (dmpFlag b s).pending = s.pending := by
  simp [dmpFlag]
@[simp] theorem pmuFlag_pending (b) (event) (s : State) : (pmuFlag b event s).pending = s.pending := by
  simp [pmuFlag]
@[simp] theorem mtrFlag_pending (b) (s : State) : (mtrFlag b s).pending = s.pending := by
  simp [mtrFlag]
@[simp] theorem yes_pending (data) (s : State) : (yes data s).1.pending = s.pending := by
  simp [yes]
@[simp] theorem no_pending (st) (s : State) : (no st s).1.pending = s.pending := by
  simp [no]
@[simp] theorem contactBy_pending (call) (s : State) : (contactBy call s).pending = s.pending := by
  simp [contactBy]
@[simp] theorem written_pending (call) (data) (s : State) : (written call data s).pending = s.pending := by
  simp [written]
@[simp] theorem holdCommand_pending (code) (c) (s : State) : (holdCommand code c s).pending = s.pending := by
  simp [holdCommand]
@[simp] theorem refuseTight_pending (o) (body) (c) (call) (s : State) : (refuseTight o body c call s).pending = s.pending := by
  unfold refuseTight; (repeat' split) <;> (first | with_reducible rfl | simp_all)
@[simp] theorem useBraidKey_pending (s : State) : (useBraidKey s).pending = s.pending := by
  unfold useBraidKey; (repeat' split) <;> (first | with_reducible rfl | simp_all)
@[simp] theorem keyFlag_pending (b) (s : State) : (keyFlag b s).pending = s.pending := by
  simp [keyFlag]
@[simp] theorem overwriteSlot_pending (n) (s : State) : (overwriteSlot n s).pending = s.pending := by
  simp [overwriteSlot]
@[simp] theorem revokeSlot_pending (n) (s : State) : (revokeSlot n s).pending = s.pending := by
  simp [revokeSlot]
@[simp] theorem invalidateBelow_pending (n) (s : State) : (invalidateBelow n s).pending = s.pending := by
  simp [invalidateBelow]
@[simp] theorem writeSlot_pending (j) (parentGen) (s : State) : (writeSlot j parentGen s).pending = s.pending := by
  simp [writeSlot]
@[simp] theorem deriveDevice_pending (s : State) : (deriveDevice s).pending = s.pending := by
  unfold deriveDevice; dsimp only; (repeat' (first | rw [applyAll_pending] | rw [foldl_pending] | (intros; split))) <;> (intros; (repeat' split) <;> simp [*])
@[simp] theorem newOwnerRoot_pending (s : State) : (newOwnerRoot s).pending = s.pending := by
  simp [newOwnerRoot]
@[simp] theorem sendControl_pending (f) (s : State) : (sendControl f s).pending = s.pending := by
  simp [sendControl]
@[simp] theorem sendSequenced_pending (tagged) (f) (s : State) : (sendSequenced tagged f s).pending = s.pending := by
  simp [sendSequenced]
@[simp] theorem mirror_pending (tagged) (f) (s : State) : (mirror tagged f s).pending = s.pending := by
  simp [mirror]
@[simp] theorem brdFlag_pending (b) (s : State) : (brdFlag b s).pending = s.pending := by
  simp [brdFlag]
@[simp] theorem sendPoints_pending (records) (s : State) : (sendPoints records s).pending = s.pending := by
  simp [sendPoints]
@[simp] theorem servoStep_pending (units) (s0 : State) : (servoStep units s0).pending = s0.pending := by
  simp [servoStep]
@[simp] theorem judgeHoldover_pending (s : State) : (judgeHoldover s).pending = s.pending := by
  unfold judgeHoldover; dsimp only; repeat' split <;> simp
@[simp] theorem servoValid_pending (s0 : State) : (servoValid s0).pending = s0.pending := by
  simp [servoValid]
@[simp] theorem legalStep_pending (target) (s : State) : (legalStep target s).pending = s.pending := by
  simp [legalStep]
@[simp] theorem legalFromServo_pending (s : State) : (legalFromServo s).pending = s.pending := by
  simp [legalFromServo]
@[simp] theorem enterLocked_pending (s : State) : (enterLocked s).pending = s.pending := by
  simp [enterLocked]
@[simp] theorem beginAcquiring_pending (s : State) : (beginAcquiring s).pending = s.pending := by
  simp [beginAcquiring]
@[simp] theorem servoRate_pending (r) (s0 : State) : (servoRate r s0).pending = s0.pending := by
  simp [servoRate]
@[simp] theorem slew_pending (theta) (t) (s : State) : (slew theta t s).pending = s.pending := by
  simp [slew]
@[simp] theorem enterHoldover_pending (s : State) : (enterHoldover s).pending = s.pending := by
  simp [enterHoldover]
@[simp] theorem judgeAlarm_pending (s : State) : (judgeAlarm s).pending = s.pending := by
  simp [judgeAlarm]
@[simp] theorem slaveLeft_pending (s : State) : (slaveLeft s).pending = s.pending := by
  simp [slaveLeft]
@[simp] theorem restartPort_pending (p) (s : State) : (restartPort p s).pending = s.pending := by
  simp [restartPort]
@[simp] theorem portLeaves_pending (p) (st) (s : State) : (portLeaves p st s).pending = s.pending := by
  unfold portLeaves; dsimp only; repeat' split <;> simp
@[simp] theorem ptpLink_pending (p) (sgmii) (up) (speed) (s : State) : (ptpLink p sgmii up speed s).pending = s.pending := by
  simp [ptpLink]
@[simp] theorem judgeLock_pending (theta) (s : State) : (judgeLock theta s).pending = s.pending := by
  unfold judgeLock; dsimp only; repeat' split <;> simp
@[simp] theorem setLegalRate_pending (s : State) : (setLegalRate s).pending = s.pending := by
  simp [setLegalRate]
@[simp] theorem ownPoint_pending (localIndex) (staleMs) (s : State) : (ownPoint localIndex staleMs s).pending = s.pending := by
  simp [ownPoint]
@[simp] theorem publishOwn_pending (localIndex) (value) (quality) (sample) (s : State) : (publishOwn localIndex value quality sample s).pending = s.pending := by
  simp [publishOwn]
@[simp] theorem dropOwn_pending (localIndex) (s : State) : (dropOwn localIndex s).pending = s.pending := by
  simp [dropOwn]
@[simp] theorem ptsDeclareBody_pending (c) (s : State) : (ptsDeclareBody c s).1.pending = s.pending := by
  unfold ptsDeclareBody; dsimp only; repeat' split <;> simp
@[simp] theorem ptsSnapshotBody_pending (c) (s : State) : (ptsSnapshotBody c s).1.pending = s.pending := by
  simp [ptsSnapshotBody]
@[simp] theorem uppFinish_pending (known) (h) (s : State) : (uppFinish known h s).pending = s.pending := by
  simp [uppFinish]
@[simp] theorem sendAck_pending (u) (seq) (code) (applied) (skipped) (s : State) : (sendAck u seq code applied skipped s).pending = s.pending := by
  simp [sendAck]
@[simp] theorem refuseDatagram_pending (u) (seq) (code) (bad) (off) (s : State) : (refuseDatagram u seq code bad off s).pending = s.pending := by
  simp [refuseDatagram]
@[simp] theorem queueDatagram_pending (d) (s : State) : (queueDatagram d s).pending = s.pending := by
  simp [queueDatagram]
@[simp] theorem recordViolation_pending (u) (s : State) : (recordViolation u s).pending = s.pending := by
  simp [recordViolation]
@[simp] theorem admitDatagram_pending (d) (count) (off) (s : State) : (admitDatagram d count off s).pending = s.pending := by
  simp [admitDatagram]
@[simp] theorem weir_pending (u) (b) (s : State) : (weir u b s).pending = s.pending := by
  unfold weir; (repeat' split) <;> (first | with_reducible rfl | simp_all)
@[simp] theorem uppDatagram_pending (r) (s : State) : (uppDatagram r s).pending = s.pending := by
  simp [uppDatagram]
@[simp] theorem ptsWriteBody_pending (c) (s : State) : (ptsWriteBody c s).1.pending = s.pending := by
  simp [ptsWriteBody]
@[simp] theorem reinitCollector_pending (s : State) : (reinitCollector s).pending = s.pending := by
  simp [reinitCollector]
@[simp] theorem refill_pending (u) (s : State) : (refill u s).pending = s.pending := by
  simp [refill]
@[simp] theorem ptsUnitSetBody_pending (c) (s : State) : (ptsUnitSetBody c s).1.pending = s.pending := by
  simp [ptsUnitSetBody]
@[simp] theorem beginWindow_pending (u) (s : State) : (beginWindow u s).pending = s.pending := by
  simp [beginWindow]
@[simp] theorem slotWindow_pending (u) (s : State) : (slotWindow u s).pending = s.pending := by
  simp [slotWindow]
@[simp] theorem applyDatagram_pending (d) (s : State) : (applyDatagram d s).pending = s.pending := by
  simp [applyDatagram]
@[simp] theorem unitSilent_pending (u) (s : State) : (unitSilent u s).pending = s.pending := by
  simp [unitSilent]
@[simp] theorem ptsReadBody_pending (c) (s : State) : (ptsReadBody c s).1.pending = s.pending := by
  simp [ptsReadBody]
@[simp] theorem engineApply_pending (s : State) : (engineApply s).pending = s.pending := by
  unfold engineApply; dsimp only; (repeat' (first | rw [applyAll_pending] | rw [foldl_pending] | (intros; split))) <;> (intros; (repeat' split) <;> simp [*])
@[simp] theorem throttleEnd_pending (u) (s : State) : (throttleEnd u s).pending = s.pending := by
  unfold throttleEnd; (repeat' split) <;> (first | with_reducible rfl | simp_all)
@[simp] theorem ptsUnitStatusBody_pending (c) (s : State) : (ptsUnitStatusBody c s).1.pending = s.pending := by
  simp [ptsUnitStatusBody]
@[simp] theorem collectorWhole_pending (s : State) : (collectorWhole s).pending = s.pending := by
  simp [collectorWhole]
@[simp] theorem uppHello_pending (known) (h) (s : State) : (uppHello known h s).pending = s.pending := by
  simp [uppHello]
@[simp] theorem applyDeltas_pending (payload) (s : State) : (applyDeltas payload s).pending = s.pending := by
  simp [applyDeltas]
@[simp] theorem dropLoad_pending (p) (s : State) : (dropLoad p s).pending = s.pending := by
  simp [dropLoad]
@[simp] theorem crsBeginBody_pending (c) (s : State) : (crsBeginBody c s).1.pending = s.pending := by
  unfold crsBeginBody; dsimp only; repeat' split <;> simp
@[simp] theorem crsCommitBody_pending (c) (s : State) : (crsCommitBody c s).1.pending = s.pending := by
  unfold crsCommitBody; dsimp only; (repeat' (first | rw [applyAll_pending] | rw [foldl_pending] | (intros; split))) <;> (intros; (repeat' split) <;> simp [*])
@[simp] theorem dropLoadsOf_pending (sid) (s : State) : (dropLoadsOf sid s).pending = s.pending := by
  simp [dropLoadsOf]
@[simp] theorem crsDropBody_pending (c) (s : State) : (crsDropBody c s).1.pending = s.pending := by
  unfold crsDropBody; dsimp only; repeat' split <;> simp
@[simp] theorem recordForecast_pending (payload) (s : State) : (recordForecast payload s).pending = s.pending := by
  simp [recordForecast]
@[simp] theorem crsDeltaBody_pending (c) (s : State) : (crsDeltaBody c s).1.pending = s.pending := by
  unfold crsDeltaBody; dsimp only; repeat' split <;> simp
@[simp] theorem crsDataBody_pending (c) (s : State) : (crsDataBody c s).1.pending = s.pending := by
  unfold crsDataBody; dsimp only; (repeat' (first | rw [applyAll_pending] | rw [foldl_pending] | (intros; split))) <;> (intros; (repeat' split) <;> simp [*])
@[simp] theorem crsInfoBody_pending (c) (s : State) : (crsInfoBody c s).1.pending = s.pending := by
  simp [crsInfoBody]
@[simp] theorem plnFlag_pending (b) (s : State) : (plnFlag b s).pending = s.pending := by
  simp [plnFlag]
@[simp] theorem noPub_pending (s : State) : (noPub s).pending = s.pending := by
  simp [noPub]
@[simp] theorem jobDone_pending (plan) (s : State) : (jobDone plan s).pending = s.pending := by
  simp [jobDone]
@[simp] theorem unfit_pending (s : State) : (unfit s).pending = s.pending := by
  simp [unfit]
@[simp] theorem endUnrun_pending (j) (st) (hash) (s : State) : (endUnrun j st hash s).pending = s.pending := by
  simp [endUnrun]
@[simp] theorem refuseLineage_pending (p) (j) (s : State) : (refuseLineage p j s).pending = s.pending := by
  simp [refuseLineage]
@[simp] theorem judgeHold_pending (s : State) : (judgeHold s).pending = s.pending := by
  simp [judgeHold]
@[simp] theorem loadMicrocode_pending (b) (s : State) : (loadMicrocode b s).pending = s.pending := by
  simp [loadMicrocode]
@[simp] theorem wakeFabric_pending (b) (s : State) : (wakeFabric b s).pending = s.pending := by
  simp [wakeFabric]
@[simp] theorem preemptPlan_pending (s : State) : (preemptPlan s).pending = s.pending := by
  unfold preemptPlan; dsimp only; repeat' split <;> simp
@[simp] theorem restartReaches_pending (p) (r) (s : State) : (restartReaches p r s).pending = s.pending := by
  simp [restartReaches]
@[simp] theorem beginJob_pending (p) (r) (s : State) : (beginJob p r s).pending = s.pending := by
  unfold beginJob; dsimp only; repeat' split <;> simp
@[simp] theorem slvFlag_pending (b) (s : State) : (slvFlag b s).pending = s.pending := by
  simp [slvFlag]
@[simp] theorem stepOne_pending (p) (m) (r) (s : State) : (stepOne p m r s).pending = s.pending := by
  simp [stepOne]
@[simp] theorem startJob_pending (p) (s : State) : (startJob p s).pending = s.pending := by
  unfold startJob; dsimp only; repeat' split <;> simp
@[simp] theorem ledgerReadBody_pending (c) (s : State) : (ledgerReadBody c s).1.pending = s.pending := by
  unfold ledgerReadBody; dsimp only; (repeat' (first | rw [applyAll_pending] | rw [foldl_pending] | (intros; split))) <;> (intros; (repeat' split) <;> simp [*])
@[simp] theorem cutFallback_pending (s : State) : (cutFallback s).pending = s.pending := by
  unfold cutFallback; dsimp only; repeat' split <;> simp
@[simp] theorem showFactor_pending (p) (r) (s : State) : (showFactor p r s).pending = s.pending := by
  simp [showFactor]
@[simp] theorem stopRunning_pending (p) (st) (s : State) : (stopRunning p st s).pending = s.pending := by
  unfold stopRunning; dsimp only; repeat' split <;> simp
@[simp] theorem abortRunning_pending (p) (s : State) : (abortRunning p s).pending = s.pending := by
  unfold abortRunning; (repeat' split) <;> (first | with_reducible rfl | simp_all)
@[simp] theorem abortWaiting_pending (p) (s : State) : (abortWaiting p s).pending = s.pending := by
  unfold abortWaiting; dsimp only; repeat' split <;> simp
@[simp] theorem jobAbortBody_pending (c) (s : State) : (jobAbortBody c s).1.pending = s.pending := by
  unfold jobAbortBody; dsimp only; (repeat' (first | rw [applyAll_pending] | rw [foldl_pending] | (intros; split))) <;> (intros; (repeat' split) <;> simp [*])
@[simp] theorem forecastReplay_pending (s : State) : (forecastReplay s).pending = s.pending := by
  unfold forecastReplay; dsimp only; (repeat' (first | rw [applyAll_pending] | rw [foldl_pending] | (intros; split))) <;> (intros; (repeat' split) <;> simp [*])
@[simp] theorem movePools_pending (p) (q) (r) (r1) (s : State) : (movePools p q r r1 s).pending = s.pending := by
  unfold movePools; dsimp only; repeat' split <;> simp
@[simp] theorem fabricNotes_pending (f) (s : State) : (fabricNotes f s).pending = s.pending := by
  simp [fabricNotes]
@[simp] theorem createRunning_pending (p) (j) (s : State) : (createRunning p j s).pending = s.pending := by
  simp [createRunning]
@[simp] theorem otherTrigger_pending (plan) (why) (deadline) (t0) (s : State) : (otherTrigger plan why deadline t0 s).1.pending = s.pending := by
  unfold otherTrigger; dsimp only; repeat' split <;> simp
@[simp] theorem jobRunBody_pending (c) (s : State) : (jobRunBody c s).1.pending = s.pending := by
  simp [jobRunBody]
@[simp] theorem periodTrigger_pending (plan) (deadline) (t0) (s : State) : (periodTrigger plan deadline t0 s).pending = s.pending := by
  simp [periodTrigger]
@[simp] theorem periodReached_pending (plan) (s : State) : (periodReached plan s).pending = s.pending := by
  simp [periodReached]
@[simp] theorem startFallback_pending (l) (s : State) : (startFallback l s).pending = s.pending := by
  simp [startFallback]
@[simp] theorem fallbackDone_pending (s : State) : (fallbackDone s).pending = s.pending := by
  unfold fallbackDone; dsimp only; (repeat' (first | rw [applyAll_pending] | rw [foldl_pending] | (intros; split))) <;> (intros; (repeat' split) <;> simp [*])
@[simp] theorem endFaulty_pending (p) (s : State) : (endFaulty p s).pending = s.pending := by
  unfold endFaulty; (repeat' split) <;> (first | with_reducible rfl | simp_all)
@[simp] theorem jobDeadline_pending (p) (s : State) : (jobDeadline p s).pending = s.pending := by
  unfold jobDeadline; (repeat' split) <;> (first | with_reducible rfl | simp_all)
@[simp] theorem modRunning_pending (p) (f) (s : State) : (modRunning p f s).pending = s.pending := by
  unfold modRunning; (repeat' split) <;> (first | with_reducible rfl | simp_all)
@[simp] theorem readLedger_pending (ns) (q) (s : State) : (readLedger ns q s).1.pending = s.pending := by
  simp [readLedger]
@[simp] theorem workAvailable_pending (p) (s : State) : (workAvailable p s).pending = s.pending := by
  unfold workAvailable; (repeat' split) <;> (first | with_reducible rfl | simp_all)
@[simp] theorem stampIdle_pending (p) (wide) (s : State) : (stampIdle p wide s).pending = s.pending := by
  simp [stampIdle]
@[simp] theorem resumePlan_pending (s : State) : (resumePlan s).pending = s.pending := by
  unfold resumePlan; dsimp only; repeat' split <;> simp
@[simp] theorem judgePartnerEstimate_pending (r) (st) (s : State) : (judgePartnerEstimate r st s).1.pending = s.pending := by
  simp [judgePartnerEstimate]
@[simp] theorem putLedger_pending (l) (s : State) : (putLedger l s).pending = s.pending := by
  simp [putLedger]
@[simp] theorem publishPlan_pending (r) (st) (s : State) : (publishPlan r st s).1.pending = s.pending := by
  simp [publishPlan]
@[simp] theorem noteEvent_pending (b) (s : State) : (noteEvent b s).pending = s.pending := by
  simp [noteEvent]
@[simp] theorem publishEstimate_pending (r) (st) (s : State) : (publishEstimate r st s).1.pending = s.pending := by
  simp [publishEstimate]
@[simp] theorem endJob_pending (p) (s : State) : (endJob p s).pending = s.pending := by
  unfold endJob; dsimp only; repeat' split <;> simp
@[simp] theorem partSetBody_pending (c) (s : State) : (partSetBody c s).1.pending = s.pending := by
  simp [partSetBody]
@[simp] theorem jobResultBody_pending (c) (s : State) : (jobResultBody c s).1.pending = s.pending := by
  unfold jobResultBody; dsimp only; repeat' split <;> simp
@[simp] theorem countStep_pending (p) (q) (r) (f) (s : State) : (countStep p q r f s).pending = s.pending := by
  unfold countStep; dsimp only; repeat' split <;> simp
@[simp] theorem fabricStep_pending (p) (s : State) : (fabricStep p s).pending = s.pending := by
  unfold fabricStep; dsimp only; repeat' split <;> simp
@[simp] theorem takeIteration_pending (p) (s : State) : (takeIteration p s).pending = s.pending := by
  unfold takeIteration; dsimp only; repeat' split <;> simp
@[simp] theorem noteLow_pending (s : State) : (noteLow s).pending = s.pending := by
  simp [noteLow]
@[simp] theorem eventReached_pending (b) (s0 : State) : (eventReached b s0).pending = s0.pending := by
  simp [eventReached]
@[simp] theorem startPending_pending (p) (s : State) : (startPending p s).pending = s.pending := by
  unfold startPending; dsimp only; repeat' split <;> simp
@[simp] theorem abandonCal_pending (n) (s : State) : (abandonCal n s).pending = s.pending := by
  simp [abandonCal]
@[simp] theorem adcCalSetBody_pending (c) (s : State) : (adcCalSetBody c s).1.pending = s.pending := by
  unfold adcCalSetBody; dsimp only; repeat' split <;> simp
@[simp] theorem publishChannel_pending (n) (x) (s : State) : (publishChannel n x s).pending = s.pending := by
  simp [publishChannel]
@[simp] theorem countEdge_pending (k) (forward) (s : State) : (countEdge k forward s).pending = s.pending := by
  simp [countEdge]
@[simp] theorem calIdle_pending (n) (s : State) : (calIdle n s).pending = s.pending := by
  unfold calIdle; (repeat' split) <;> (first | with_reducible rfl | simp_all)
@[simp] theorem setChannel_pending (n) (r) (s0 : State) : (setChannel n r s0).pending = s0.pending := by
  simp [setChannel]
@[simp] theorem requestUrgent_pending (slot) (n) (s : State) : (requestUrgent slot n s).pending = s.pending := by
  simp [requestUrgent]
@[simp] theorem measureRef_pending (refin) (avdd) (s0 : State) : (measureRef refin avdd s0).pending = s0.pending := by
  simp [measureRef]
@[simp] theorem adcSampleReadBody_pending (c) (s : State) : (adcSampleReadBody c s).1.pending = s.pending := by
  unfold adcSampleReadBody; dsimp only; repeat' split <;> simp
@[simp] theorem storeSample_pending (n) (x) (s : State) : (storeSample n x s).pending = s.pending := by
  simp [storeSample]
@[simp] theorem meteringSampleFront_pending (n) (at') (code) (f) (s : State) : (meteringSampleFront n at' code f s).pending = s.pending := by
  simp [meteringSampleFront]
@[simp] theorem setSequence_pending (k) (es) (s : State) : (setSequence k es s).pending = s.pending := by
  simp [setSequence]
@[simp] theorem refReady_pending (metering) (s0 : State) : (refReady metering s0).pending = s0.pending := by
  simp [refReady]
@[simp] theorem adcSeqSetBody_pending (c) (s : State) : (adcSeqSetBody c s).1.pending = s.pending := by
  simp [adcSeqSetBody]
@[simp] theorem keepStep_pending (n) (y) (s : State) : (keepStep n y s).pending = s.pending := by
  simp [keepStep]
@[simp] theorem adcSyscalBody_pending (m) (c) (s : State) : (adcSyscalBody m c s).1.pending = s.pending := by
  simp [adcSyscalBody]
@[simp] theorem sarDone_pending (k) (code) (f) (s : State) : (sarDone k code f s).pending = s.pending := by
  unfold sarDone; dsimp only; repeat' split <;> simp
@[simp] theorem setGlobal_pending (rate16) (m) (p) (s0 : State) : (setGlobal rate16 m p s0).pending = s0.pending := by
  simp [setGlobal]
@[simp] theorem adcChanSetBody_pending (c) (s : State) : (adcChanSetBody c s).1.pending = s.pending := by
  simp [adcChanSetBody]
@[simp] theorem partnerExcites_pending (on) (s : State) : (partnerExcites on s).pending = s.pending := by
  simp [partnerExcites]
@[simp] theorem urgentStore_pending (k) (u) (code) (f) (s : State) : (urgentStore k u code f s).pending = s.pending := by
  simp [urgentStore]
@[simp] theorem abandonCals_pending (s : State) : (abandonCals s).pending = s.pending := by
  simp [abandonCals]
@[simp] theorem setMtrRecord_pending (n) (r) (s : State) : (setMtrRecord n r s).pending = s.pending := by
  simp [setMtrRecord]
@[simp] theorem mtrChanSetBody_pending (slotOk) (c) (s : State) : (mtrChanSetBody slotOk c s).1.pending = s.pending := by
  simp [mtrChanSetBody]
@[simp] theorem setIdentity_pending (n) (st) (s : State) : (setIdentity n st s).pending = s.pending := by
  simp [setIdentity]
@[simp] theorem judgeExpiry_pending (s : State) : (judgeExpiry s).pending = s.pending := by
  simp [judgeExpiry]
@[simp] theorem publishValues_pending (n) (thermal) (flags) (vals) (s : State) : (publishValues n thermal flags vals s).pending = s.pending := by
  simp [publishValues]
@[simp] theorem dspFault_pending (s : State) : (dspFault s).pending = s.pending := by
  simp [dspFault]
@[simp] theorem meterSample_pending (x) (s : State) : (meterSample x s).pending = s.pending := by
  simp [meterSample]
@[simp] theorem tickChannel_pending (n) (flow) (s : State) : (tickChannel n flow s).pending = s.pending := by
  simp [tickChannel]
@[simp] theorem countVolume_pending (k) (forward) (s : State) : (countVolume k forward s).pending = s.pending := by
  simp [countVolume]
@[simp] theorem mtrTcompSetBody_pending (c) (s : State) : (mtrTcompSetBody c s).1.pending = s.pending := by
  simp [mtrTcompSetBody]
@[simp] theorem spillChannel_pending (n) (gains) (s : State) : (spillChannel n gains s).pending = s.pending := by
  simp [spillChannel]
@[simp] theorem keepRead_pending (n) (chip) (expired) (s : State) : (keepRead n chip expired s).pending = s.pending := by
  unfold keepRead; (repeat' split) <;> (first | with_reducible rfl | simp_all)
@[simp] theorem applyPending_pending (n) (s : State) : (applyPending n s).pending = s.pending := by
  simp [applyPending]
@[simp] theorem applyGlobal_pending (t) (s : State) : (applyGlobal t s).pending = s.pending := by
  unfold applyGlobal; dsimp only; repeat' split <;> simp
@[simp] theorem closeOne_pending (angles) (len) (n) (s : State) : (closeOne angles len n s).pending = s.pending := by
  simp [closeOne]
@[simp] theorem pulseEmit_pending (p) (s : State) : (pulseEmit p s).pending = s.pending := by
  simp [pulseEmit]
@[simp] theorem mtrPulseSetBody_pending (c) (s : State) : (mtrPulseSetBody c s).1.pending = s.pending := by
  simp [mtrPulseSetBody]
@[simp] theorem startRecords_pending (s : State) : (startRecords s).pending = s.pending := by
  simp [startRecords]
@[simp] theorem closeAll_pending (len) (endServo) (endLegal) (s : State) : (closeAll len endServo endLegal s).pending = s.pending := by
  simp [closeAll]
@[simp] theorem takeSnapshot_pending (usableKey) (sgn) (causes) (s : State) : (takeSnapshot usableKey sgn causes s).pending = s.pending := by
  simp [takeSnapshot]
@[simp] theorem periodClose_pending (usableKey) (sgn) (t) (endServo) (endLegal) (s : State) : (periodClose usableKey sgn t endServo endLegal s).pending = s.pending := by
  simp [periodClose]
@[simp] theorem loadBank_pending (b) (s : State) : (loadBank b s).pending = s.pending := by
  simp [loadBank]
@[simp] theorem driveI2c_pending (n) (l) (s : State) : (driveI2c n l s).pending = s.pending := by
  simp [driveI2c]
@[simp] theorem readChip_pending (n) (l) (s : State) : (readChip n l s).pending = s.pending := by
  simp [readChip]
@[simp] theorem readChips_pending (s : State) : (readChips s).pending = s.pending := by
  simp [readChips]
@[simp] theorem mtrReadBody_pending (c) (s : State) : (mtrReadBody c s).1.pending = s.pending := by
  simp [mtrReadBody]
@[simp] theorem mtrSnapReadBody_pending (c) (s : State) : (mtrSnapReadBody c s).1.pending = s.pending := by
  simp [mtrSnapReadBody]
@[simp] theorem accLatch_pending (n) (k) (s : State) : (accLatch n k s).pending = s.pending := by
  simp [accLatch]
@[simp] theorem identityRead_pending (n) (l) (s : State) : (identityRead n l s).pending = s.pending := by
  simp [identityRead]
@[simp] theorem mtrSensorAcceptBody_pending (l) (c) (s0 : State) : (mtrSensorAcceptBody l c s0).1.pending = s0.pending := by
  unfold mtrSensorAcceptBody; dsimp only; repeat' split <;> simp
@[simp] theorem outFlag_pending (b) (s : State) : (outFlag b s).pending = s.pending := by
  simp [outFlag]
@[simp] theorem clampFlag_pending (o) (s : State) : (clampFlag o s).pending = s.pending := by
  unfold clampFlag; dsimp only; repeat' split <;> simp
@[simp] theorem outBindBody_pending (c) (s : State) : (outBindBody c s).1.pending = s.pending := by
  simp [outBindBody]
@[simp] theorem slcFlag_pending (b) (s : State) : (slcFlag b s).pending = s.pending := by
  simp [slcFlag]
@[simp] theorem latchTrip_pending (n) (s : State) : (latchTrip n s).pending = s.pending := by
  simp [latchTrip]
@[simp] theorem latchActive_pending (s : State) : (latchActive s).pending = s.pending := by
  simp [latchActive]
@[simp] theorem outReadBody_pending (c) (s : State) : (outReadBody c s).1.pending = s.pending := by
  simp [outReadBody]
@[simp] theorem clearLatches_pending (mask) (credential) (s : State) : (clearLatches mask credential s).pending = s.pending := by
  simp [clearLatches]
@[simp] theorem slcReleaseBody_pending (c) (s : State) : (slcReleaseBody c s).1.pending = s.pending := by
  simp [slcReleaseBody]
@[simp] theorem slcSafeSetBody_pending (c) (s : State) : (slcSafeSetBody c s).1.pending = s.pending := by
  simp [slcSafeSetBody]
@[simp] theorem releaseHold_pending (s : State) : (releaseHold s).pending = s.pending := by
  simp [releaseHold]
@[simp] theorem slcStatusBody_pending (c) (s : State) : (slcStatusBody c s).1.pending = s.pending := by
  simp [slcStatusBody]
@[simp] theorem engageHold_pending (s : State) : (engageHold s).pending = s.pending := by
  simp [engageHold]
@[simp] theorem outSetBody_pending (c) (s : State) : (outSetBody c s).1.pending = s.pending := by
  unfold outSetBody; dsimp only; repeat' split <;> simp
@[simp] theorem setTripLevel_pending (n) (active) (s : State) : (setTripLevel n active s).pending = s.pending := by
  simp [setTripLevel]
@[simp] theorem releaseTraces_pending (sid) (s : State) : (releaseTraces sid s).pending = s.pending := by
  simp [releaseTraces]
@[simp] theorem lpeFlag_pending (b) (s : State) : (lpeFlag b s).pending = s.pending := by
  simp [lpeFlag]
@[simp] theorem markBit_pending (k) (code) (old) (new) (s : State) : (markBit k code old new s).pending = s.pending := by
  simp [markBit]
@[simp] theorem settleSlot_pending (k) (sp) (ff) (held) (isExpress) (healthy) (bits) (s : State) : (settleSlot k sp ff held isExpress healthy bits s).pending = s.pending := by
  simp [settleSlot]
@[simp] theorem traceSlot_pending (k) (c) (s : State) : (traceSlot k c s).pending = s.pending := by
  unfold traceSlot; dsimp only; (repeat' (first | rw [applyAll_pending] | rw [foldl_pending] | (intros; split))) <;> (intros; (repeat' split) <;> simp [*])
@[simp] theorem publishSlot_pending (k) (t) (s : State) : (publishSlot k t s).pending = s.pending := by
  simp [publishSlot]
@[simp] theorem countEval_pending (s : State) : (countEval s).pending = s.pending := by
  simp [countEval]
@[simp] theorem clampFlags_pending (k) (s : State) : (clampFlags k s).pending = s.pending := by
  simp [clampFlags]
@[simp] theorem evaluateWith_pending (k) (t) (src) (sp) (ff) (held) (isExpress) (s : State) : (evaluateWith k t src sp ff held isExpress s).pending = s.pending := by
  simp [evaluateWith]
@[simp] theorem expressPipeline_pending (k) (n) (s : State) : (expressPipeline k n s).pending = s.pending := by
  unfold expressPipeline; dsimp only; repeat' split <;> simp
@[simp] theorem loopGainSetBody_pending (c) (s : State) : (loopGainSetBody c s).1.pending = s.pending := by
  simp [loopGainSetBody]
@[simp] theorem traceReadBody_pending (c) (s : State) : (traceReadBody c s).1.pending = s.pending := by
  unfold traceReadBody; dsimp only; repeat' split <;> simp
@[simp] theorem loopReadBody_pending (c) (s : State) : (loopReadBody c s).1.pending = s.pending := by
  simp [loopReadBody]
@[simp] theorem setpointSource_pending (ns) (r) (s : State) : (setpointSource ns r s).1.pending = s.pending := by
  unfold setpointSource; dsimp only; repeat' split <;> simp
@[simp] theorem formSetpoint_pending (k) (ns) (s : State) : (formSetpoint k ns s).1.pending = s.pending := by
  simp [formSetpoint]
@[simp] theorem takeRecord_pending (k) (s : State) : (takeRecord k s).pending = s.pending := by
  unfold takeRecord; dsimp only; repeat' split <;> simp
@[simp] theorem runSlot_pending (k) (s0 : State) : (runSlot k s0).pending = s0.pending := by
  unfold runSlot; dsimp only; (repeat' (first | rw [applyAll_pending] | rw [foldl_pending] | (intros; split))) <;> (intros; (repeat' split) <;> simp [*])
@[simp] theorem urgentDone_pending (k) (code) (f) (s : State) : (urgentDone k code f s).pending = s.pending := by
  unfold urgentDone; (repeat' split) <;> (first | with_reducible rfl | simp_all)
@[simp] theorem enableSlot_pending (k) (s : State) : (enableSlot k s).pending = s.pending := by
  simp [enableSlot]
@[simp] theorem disableSlot_pending (k) (s : State) : (disableSlot k s).pending = s.pending := by
  simp [disableSlot]
@[simp] theorem loopEnableBody_pending (c) (s : State) : (loopEnableBody c s).1.pending = s.pending := by
  simp [loopEnableBody]
@[simp] theorem storeSlot_pending (k) (r) (s : State) : (storeSlot k r s).pending = s.pending := by
  simp [storeSlot]
@[simp] theorem loopSetBody_pending (c) (s : State) : (loopSetBody c s).1.pending = s.pending := by
  simp [loopSetBody]
@[simp] theorem evaluateSlot_pending (k) (s : State) : (evaluateSlot k s).pending = s.pending := by
  simp [evaluateSlot]
@[simp] theorem aliveToggle_pending (s : State) : (aliveToggle s).pending = s.pending := by
  simp [aliveToggle]
@[simp] theorem traceArmBody_pending (c) (s : State) : (traceArmBody c s).1.pending = s.pending := by
  unfold traceArmBody; dsimp only; repeat' split <;> simp
@[simp] theorem loopEvaluate_pending (k) (s : State) : (loopEvaluate k s).pending = s.pending := by
  simp [loopEvaluate]
@[simp] theorem integratorSnapshot_pending (s : State) : (integratorSnapshot s).pending = s.pending := by
  simp [integratorSnapshot]
@[simp] theorem modObj_pending (c) (o) (f) (s : State) : (modObj c o f s).pending = s.pending := by
  simp [modObj]
@[simp] theorem canOffer_pending (c) (s : State) : (canOffer c s).pending = s.pending := by
  unfold canOffer; dsimp only; (repeat' (first | rw [applyAll_pending] | rw [foldl_pending] | (intros; split))) <;> (intros; (repeat' split) <;> simp [*])
@[simp] theorem dropRows_pending (c) (s : State) : (dropRows c s).pending = s.pending := by
  simp [dropRows]
@[simp] theorem canRows_pending (c) (s : State) : (canRows c s).pending = s.pending := by
  simp [canRows]
@[simp] theorem placeFrame_pending (c) (o) (f) (s : State) : (placeFrame c o f s).pending = s.pending := by
  simp [placeFrame]
@[simp] theorem canSendBody_pending (c) (s : State) : (canSendBody c s).1.pending = s.pending := by
  simp [canSendBody]
@[simp] theorem heldField_pending (x) (s : State) : (heldField x s).1.pending = s.pending := by
  unfold heldField; (repeat' split) <;> (first | with_reducible rfl | simp_all)
@[simp] theorem encodeValue_pending (c) (o) (v) (s : State) : (encodeValue c o v s).1.pending = s.pending := by
  unfold encodeValue; dsimp only; repeat' split <;> simp
@[simp] theorem applyCanRows_pending (s : State) : (applyCanRows s).pending = s.pending := by
  simp [applyCanRows]
@[simp] theorem answer_pending (d) (st) (data) (s : State) : (answer d st data s).pending = s.pending := by
  simp [answer]
@[simp] theorem answerCancels_pending (c) (o) (st) (s : State) : (answerCancels c o st s).pending = s.pending := by
  simp [answerCancels]
@[simp] theorem finishFrame_pending (c) (o) (result) (s : State) : (finishFrame c o result s).pending = s.pending := by
  simp [finishFrame]
@[simp] theorem arbitrationEnd_pending (c) (won) (s : State) : (arbitrationEnd c won s).pending = s.pending := by
  unfold arbitrationEnd; dsimp only; repeat' split <;> simp
@[simp] theorem measureDelay_pending (c) (s : State) : (measureDelay c s).pending = s.pending := by
  simp [measureDelay]
@[simp] theorem canValue_pending (r) (ns) (s : State) : (canValue r ns s).1.pending = s.pending := by
  unfold canValue; dsimp only; repeat' split <;> simp
@[simp] theorem endObjects_pending (c) (s : State) : (endObjects c s).pending = s.pending := by
  simp [endObjects]
@[simp] theorem canFlag_pending (c) (b) (s : State) : (canFlag c b s).pending = s.pending := by
  simp [canFlag]
@[simp] theorem leaveBus_pending (c) (s : State) : (leaveBus c s).pending = s.pending := by
  simp [leaveBus]
@[simp] theorem busOffEntry_pending (c) (s : State) : (busOffEntry c s).pending = s.pending := by
  unfold busOffEntry; dsimp only; repeat' split <;> simp
@[simp] theorem rejoin_pending (c) (s : State) : (rejoin c s).pending = s.pending := by
  simp [rejoin]
@[simp] theorem frameReceived_pending (c) (age) (f) (s : State) : (frameReceived c age f s).pending = s.pending := by
  unfold frameReceived; dsimp only; repeat' split <;> simp
@[simp] theorem canStatusBody_pending (c) (s : State) : (canStatusBody c s).1.pending = s.pending := by
  simp [canStatusBody]
@[simp] theorem reinitCan_pending (c) (s : State) : (reinitCan c s).pending = s.pending := by
  simp [reinitCan]
@[simp] theorem canObjSetBody_pending (c) (s : State) : (canObjSetBody c s).1.pending = s.pending := by
  simp [canObjSetBody]
@[simp] theorem integrateCans_pending (s : State) : (integrateCans s).pending = s.pending := by
  simp [integrateCans]
@[simp] theorem afterError_pending (c) (o) (e) (s : State) : (afterError c o e s).pending = s.pending := by
  simp [afterError]
@[simp] theorem canRejoin_pending (c) (s : State) : (canRejoin c s).pending = s.pending := by
  simp [canRejoin]
@[simp] theorem frameDone_pending (c) (a) (s : State) : (frameDone c a s).pending = s.pending := by
  simp [frameDone]
@[simp] theorem canDue_pending (c) (o) (s0 : State) : (canDue c o s0).pending = s0.pending := by
  simp [canDue]
@[simp] theorem notePassive_pending (c) (was) (s : State) : (notePassive c was s).pending = s.pending := by
  simp [notePassive]
@[simp] theorem countError_pending (c) (a) (e) (s : State) : (countError c a e s).pending = s.pending := by
  simp [countError]
@[simp] theorem busIntegration_pending (c) (s : State) : (busIntegration c s).pending = s.pending := by
  simp [busIntegration]
@[simp] theorem frameEnd_pending (c) (error) (s : State) : (frameEnd c error s).pending = s.pending := by
  unfold frameEnd; dsimp only; repeat' split <;> simp
@[simp] theorem canChanSetBody_pending (c) (s : State) : (canChanSetBody c s).1.pending = s.pending := by
  simp [canChanSetBody]
@[simp] theorem receiveError_pending (c) (e) (amount) (s : State) : (receiveError c e amount s).pending = s.pending := by
  simp [receiveError]
@[simp] theorem busOffRecovery_pending (c) (s : State) : (busOffRecovery c s).pending = s.pending := by
  simp [busOffRecovery]
@[simp] theorem canCancelBody_pending (c) (s : State) : (canCancelBody c s).1.pending = s.pending := by
  unfold canCancelBody; dsimp only; repeat' split <;> simp
@[simp] theorem dropWaiting_pending (sid) (s : State) : (dropWaiting sid s).pending = s.pending := by
  simp [dropWaiting]
@[simp] theorem closeSession_pending (sid) (s : State) : (closeSession sid s).pending = s.pending := by
  simp [closeSession]
@[simp] theorem closeWhere_pending (p) (s : State) : (closeWhere p s).pending = s.pending := by
  simp [closeWhere]
@[simp] theorem closeAssociation_pending (assoc) (s : State) : (closeAssociation assoc s).pending = s.pending := by
  simp [closeAssociation]
@[simp] theorem sysNopBody_pending (c) (s : State) : (sysNopBody c s).1.pending = s.pending := by
  simp [sysNopBody]
@[simp] theorem sesOpenBody_pending (c) (s : State) : (sesOpenBody c s).1.pending = s.pending := by
  simp [sesOpenBody]
@[simp] theorem closeAllSessions_pending (s : State) : (closeAllSessions s).pending = s.pending := by
  simp [closeAllSessions]
@[simp] theorem sesCloseBody_pending (c) (s : State) : (sesCloseBody c s).1.pending = s.pending := by
  simp [sesCloseBody]
@[simp] theorem idleTimeout_pending (sid) (s : State) : (idleTimeout sid s).pending = s.pending := by
  simp [idleTimeout]
@[simp] theorem sesChallengeBody_pending (c) (s : State) : (sesChallengeBody c s).1.pending = s.pending := by
  simp [sesChallengeBody]
@[simp] theorem closeCredential_pending (n) (s : State) : (closeCredential n s).pending = s.pending := by
  simp [closeCredential]
@[simp] theorem lcEffect_pending (target) (alg) (key) (s : State) : (lcEffect target alg key s).pending = s.pending := by
  unfold lcEffect; dsimp only; repeat' split <;> simp
@[simp] theorem refuseLink_pending (s : State) : (refuseLink s).pending = s.pending := by
  simp [refuseLink]
@[simp] theorem pairKeyChange_pending (before) (s : State) : (pairKeyChange before s).pending = s.pending := by
  unfold pairKeyChange; dsimp only; repeat' split <;> simp
@[simp] theorem putKey_pending (j) (s : State) : (putKey j s).pending = s.pending := by
  simp [putKey]
@[simp] theorem finishKey_pending (j) (s : State) : (finishKey j s).1.pending = s.pending := by
  simp [finishKey]
@[simp] theorem alignVault_pending (s : State) : (alignVault s).pending = s.pending := by
  unfold alignVault; dsimp only; repeat' split <;> simp
@[simp] theorem finishMove_pending (target) (alg) (key) (s : State) : (finishMove target alg key s).1.pending = s.pending := by
  simp [finishMove]
@[simp] theorem vaultRefresh_pending (s : State) : (vaultRefresh s).pending = s.pending := by
  simp [vaultRefresh]
@[simp] theorem pairKeySwitch_pending (s : State) : (pairKeySwitch s).pending = s.pending := by
  unfold pairKeySwitch; dsimp only; repeat' split <;> simp
@[simp] theorem completeJournal_pending (s : State) : (completeJournal s).pending = s.pending := by
  unfold completeJournal; dsimp only; repeat' split <;> simp
@[simp] theorem previousExpiry_pending (s : State) : (previousExpiry s).pending = s.pending := by
  unfold previousExpiry; dsimp only; repeat' split <;> simp
@[simp] theorem serviceEntry_pending (s : State) : (serviceEntry s).pending = s.pending := by
  simp [serviceEntry]
@[simp] theorem completeRoles_pending (s : State) : (completeRoles s).pending = s.pending := by
  unfold completeRoles; dsimp only; repeat' split <;> simp
@[simp] theorem finishRevocations_pending (s : State) : (finishRevocations s).pending = s.pending := by
  simp [finishRevocations]
@[simp] theorem vaultBoot_pending (s : State) : (vaultBoot s).pending = s.pending := by
  simp [vaultBoot]
@[simp] theorem emptySlot_pending (n) (s : State) : (emptySlot n s).pending = s.pending := by
  simp [emptySlot]
@[simp] theorem keyRoleSetBody_pending (c) (s : State) : (keyRoleSetBody c s).1.pending = s.pending := by
  simp [keyRoleSetBody]
@[simp] theorem operationDone_pending (n) (s : State) : (operationDone n s).pending = s.pending := by
  simp [operationDone]
@[simp] theorem keyDestroyBody_pending (stuck) (c) (s : State) : (keyDestroyBody stuck c s).1.pending = s.pending := by
  simp [keyDestroyBody]
@[simp] theorem rescramble_pending (s : State) : (rescramble s).pending = s.pending := by
  simp [rescramble]
@[simp] theorem cutKey_pending (committed) (j) (s : State) : (cutKey committed j s).1.pending = s.pending := by
  simp [cutKey]
@[simp] theorem cutMove_pending (committed) (target) (alg) (key) (s : State) : (cutMove committed target alg key s).1.pending = s.pending := by
  simp [cutMove]
@[simp] theorem afterWipe_pending (s : State) : (afterWipe s).pending = s.pending := by
  simp [afterWipe]
@[simp] theorem tamperDetect_pending (x) (s : State) : (tamperDetect x s).pending = s.pending := by
  simp [tamperDetect]
@[simp] theorem keyStatusBody_pending (c) (s : State) : (keyStatusBody c s).1.pending = s.pending := by
  simp [keyStatusBody]
@[simp] theorem tokenChanged_pending (holds) (s0 : State) : (tokenChanged holds s0).pending = s0.pending := by
  simp [tokenChanged]
@[simp] theorem yieldToken_pending (s : State) : (yieldToken s).pending = s.pending := by
  simp [yieldToken]
@[simp] theorem takeToken_pending (s : State) : (takeToken s).pending = s.pending := by
  simp [takeToken]
@[simp] theorem stopJobs_pending (m) (s : State) : (stopJobs m s).pending = s.pending := by
  simp [stopJobs]
@[simp] theorem stampMode_pending (m) (cause) (s : State) : (stampMode m cause s).pending = s.pending := by
  simp [stampMode]
@[simp] theorem releaseToLoops_pending (value) (s : State) : (releaseToLoops value s).pending = s.pending := by
  simp [releaseToLoops]
@[simp] theorem turnIsland_pending (was) (m) (s : State) : (turnIsland was m s).pending = s.pending := by
  simp [turnIsland]
@[simp] theorem releaseToken_pending (s : State) : (releaseToken s).pending = s.pending := by
  simp [releaseToken]
@[simp] theorem answerHandover_pending (st) (s : State) : (answerHandover st s).pending = s.pending := by
  simp [answerHandover]
@[simp] theorem lapseHandover_pending (s : State) : (lapseHandover s).pending = s.pending := by
  simp [lapseHandover]
@[simp] theorem enterOnce_pending (m) (cause) (s : State) : (enterOnce m cause s).pending = s.pending := by
  simp [enterOnce]
@[simp] theorem enterMode_pending (m) (cause) (s : State) : (enterMode m cause s).pending = s.pending := by
  simp [enterMode]
@[simp] theorem contactExpiry_pending (s : State) : (contactExpiry s).pending = s.pending := by
  unfold contactExpiry; dsimp only; repeat' split <;> simp
@[simp] theorem modeGetBody_pending (c) (s : State) : (modeGetBody c s).1.pending = s.pending := by
  simp [modeGetBody]
@[simp] theorem installPolicy_pending (w) (hash) (s : State) : (installPolicy w hash s).pending = s.pending := by
  simp [installPolicy]
@[simp] theorem islandPolicySetBody_pending (c) (s : State) : (islandPolicySetBody c s).1.pending = s.pending := by
  unfold islandPolicySetBody; dsimp only; repeat' split <;> simp
@[simp] theorem startMoveNow_pending (s : State) : (startMoveNow s).pending = s.pending := by
  simp [startMoveNow]
@[simp] theorem islandLimit_pending (s : State) : (islandLimit s).pending = s.pending := by
  simp [islandLimit]
@[simp] theorem policyStale_pending (s : State) : (policyStale s).pending = s.pending := by
  simp [policyStale]
@[simp] theorem makeRequest_pending (target) (sid) (s : State) : (makeRequest target sid s).pending = s.pending := by
  simp [makeRequest]
@[simp] theorem modeRequestBody_pending (c) (s : State) : (modeRequestBody c s).1.pending = s.pending := by
  unfold modeRequestBody; (repeat' split) <;> (first | with_reducible rfl | simp_all)
@[simp] theorem courseSwap_pending (p) (s : State) : (courseSwap p s).pending = s.pending := by
  unfold courseSwap; dsimp only; repeat' split <;> simp
@[simp] theorem tripToSafe_pending (s : State) : (tripToSafe s).pending = s.pending := by
  simp [tripToSafe]
@[simp] theorem islandPolicyGetBody_pending (c) (s : State) : (islandPolicyGetBody c s).1.pending = s.pending := by
  unfold islandPolicyGetBody; (repeat' split) <;> (first | with_reducible rfl | simp_all)
@[simp] theorem partnerJobs_pending (s : State) : (partnerJobs s).pending = s.pending := by
  unfold partnerJobs; dsimp only; (repeat' (first | rw [applyAll_pending] | rw [foldl_pending] | (intros; split))) <;> (intros; (repeat' split) <;> simp [*])
@[simp] theorem giveUp_pending (s : State) : (giveUp s).pending = s.pending := by
  simp [giveUp]
@[simp] theorem ownInRequest_pending (s0 : State) : (ownInRequest s0).pending = s0.pending := by
  simp [ownInRequest]
@[simp] theorem judgeSplit_pending (s : State) : (judgeSplit s).pending = s.pending := by
  simp [judgeSplit]
@[simp] theorem startHandover_pending (s : State) : (startHandover s).pending = s.pending := by
  simp [startHandover]
@[simp] theorem pairHandoverBody_pending (c) (s : State) : (pairHandoverBody c s).1.pending = s.pending := by
  simp [pairHandoverBody]
@[simp] theorem askNext_pending (s : State) : (askNext s).pending = s.pending := by
  unfold askNext; (repeat' split) <;> (first | with_reducible rfl | simp_all)
@[simp] theorem putFrame_pending (u) (s : State) : (putFrame u s).pending = s.pending := by
  simp [putFrame]
@[simp] theorem takeAck_pending (ack) (s : State) : (takeAck ack s).pending = s.pending := by
  simp [takeAck]
@[simp] theorem ownJobs_pending (s : State) : (ownJobs s).pending = s.pending := by
  simp [ownJobs]
@[simp] theorem linkLost_pending (link) (s : State) : (linkLost link s).pending = s.pending := by
  simp [linkLost]
@[simp] theorem retrain_pending (s : State) : (retrain s).pending = s.pending := by
  simp [retrain]
@[simp] theorem jobsAbove_pending (s : State) : (jobsAbove s).pending = s.pending := by
  simp [jobsAbove]
@[simp] theorem judgeHealth_pending (s : State) : (judgeHealth s).pending = s.pending := by
  simp [judgeHealth]
@[simp] theorem ownInHold_pending (s0 : State) : (ownInHold s0).pending = s0.pending := by
  simp [ownInHold]
@[simp] theorem applyPair_pending (s : State) : (applyPair s).pending = s.pending := by
  simp [applyPair]
@[simp] theorem reinitBraid_pending (s : State) : (reinitBraid s).pending = s.pending := by
  simp [reinitBraid]
@[simp] theorem pairSetBody_pending (c) (s : State) : (pairSetBody c s).1.pending = s.pending := by
  simp [pairSetBody]
@[simp] theorem leaseLapse_pending (s : State) : (leaseLapse s).pending = s.pending := by
  unfold leaseLapse; dsimp only; repeat' split <;> simp
@[simp] theorem requestUnanswered_pending (s : State) : (requestUnanswered s).pending = s.pending := by
  unfold requestUnanswered; dsimp only; repeat' split <;> simp
@[simp] theorem resend_pending (s : State) : (resend s).pending = s.pending := by
  simp [resend]
@[simp] theorem linkUpNow_pending (s : State) : (linkUpNow s).pending = s.pending := by
  simp [linkUpNow]
@[simp] theorem heartbeat_pending (b) (s : State) : (heartbeat b s).pending = s.pending := by
  simp [heartbeat]
@[simp] theorem frameDiscard_pending (seq) (s : State) : (frameDiscard seq s).pending = s.pending := by
  simp [frameDiscard]
@[simp] theorem laneDown_pending (s : State) : (laneDown s).pending = s.pending := by
  simp [laneDown]
@[simp] theorem pairStatusBody_pending (c) (s : State) : (pairStatusBody c s).1.pending = s.pending := by
  simp [pairStatusBody]
@[simp] theorem linkTrain_pending (hello) (s : State) : (linkTrain hello s).pending = s.pending := by
  unfold linkTrain; dsimp only; repeat' split <;> simp
@[simp] theorem heartbeatSend_pending (s : State) : (heartbeatSend s).pending = s.pending := by
  simp [heartbeatSend]
@[simp] theorem engineApplyMirror_pending (s : State) : (engineApplyMirror s).pending = s.pending := by
  simp [engineApplyMirror]
@[simp] theorem applyLedger_pending (l) (s : State) : (applyLedger l s).pending = s.pending := by
  unfold applyLedger; (repeat' split) <;> (first | with_reducible rfl | simp_all)
@[simp] theorem partnerRelease_pending (r) (s : State) : (partnerRelease r s).pending = s.pending := by
  simp [partnerRelease]
@[simp] theorem applyList_pending (payload) (s : State) : (applyList payload s).pending = s.pending := by
  unfold applyList; (repeat' split) <;> (first | with_reducible rfl | simp_all)
@[simp] theorem deltaFrame_pending (tagged) (payload) (s : State) : (deltaFrame tagged payload s).pending = s.pending := by
  simp [deltaFrame]
@[simp] theorem ptsWriteMirror_pending (c) (s : State) : (ptsWriteMirror c s).1.pending = s.pending := by
  unfold ptsWriteMirror; dsimp only; repeat' split <;> simp
@[simp] theorem flushHeld_pending (p) (s : State) : (flushHeld p s).pending = s.pending := by
  simp [flushHeld]
@[simp] theorem workStarted_pending (p) (s : State) : (workStarted p s).pending = s.pending := by
  simp [workStarted]
@[simp] theorem ptsDeclareMirror_pending (c) (s : State) : (ptsDeclareMirror c s).1.pending = s.pending := by
  unfold ptsDeclareMirror; dsimp only; repeat' split <;> simp
@[simp] theorem flushBoth_pending (s : State) : (flushBoth s).pending = s.pending := by
  simp [flushBoth]
@[simp] theorem openCompare_pending (p) (before) (s : State) : (openCompare p before s).pending = s.pending := by
  unfold openCompare; (repeat' split) <;> (first | with_reducible rfl | simp_all)
@[simp] theorem jobStarted_pending (p) (s : State) : (jobStarted p s).pending = s.pending := by
  simp [jobStarted]
@[simp] theorem applyPointDelta_pending (rs) (s : State) : (applyPointDelta rs s).pending = s.pending := by
  simp [applyPointDelta]
@[simp] theorem applyDeclare_pending (payload) (s : State) : (applyDeclare payload s).pending = s.pending := by
  unfold applyDeclare; (repeat' split) <;> (first | with_reducible rfl | simp_all)
@[simp] theorem noteMismatch_pending (x) (s : State) : (noteMismatch x s).pending = s.pending := by
  simp [noteMismatch]
@[simp] theorem noteOutcome_pending (x) (o) (s : State) : (noteOutcome x o s).pending = s.pending := by
  simp [noteOutcome]
@[simp] theorem judgeCompare_pending (n) (s : State) : (judgeCompare n s).pending = s.pending := by
  unfold judgeCompare; dsimp only; repeat' split <;> simp
@[simp] theorem ownHash_pending (p) (r) (s : State) : (ownHash p r s).pending = s.pending := by
  unfold ownHash; dsimp only; repeat' split <;> simp
@[simp] theorem jobEnded_pending (p) (s : State) : (jobEnded p s).pending = s.pending := by
  unfold jobEnded; dsimp only; repeat' split <;> simp
@[simp] theorem partnerStart_pending (j) (s : State) : (partnerStart j s).pending = s.pending := by
  simp [partnerStart]
@[simp] theorem compareFrame_pending (n) (hash) (o) (s : State) : (compareFrame n hash o s).pending = s.pending := by
  unfold compareFrame; (repeat' split) <;> (first | with_reducible rfl | simp_all)
@[simp] theorem modPartner_pending (tagged) (f) (s : State) : (modPartner tagged f s).pending = s.pending := by
  simp [modPartner]
@[simp] theorem partnerGather_pending (tagged) (values) (s : State) : (partnerGather tagged values s).pending = s.pending := by
  simp [partnerGather]
@[simp] theorem partnerIter_pending (tagged) (j) (s : State) : (partnerIter tagged j s).pending = s.pending := by
  simp [partnerIter]
@[simp] theorem pairCompareBody_pending (c) (s : State) : (pairCompareBody c s).1.pending = s.pending := by
  unfold pairCompareBody; (repeat' split) <;> (first | with_reducible rfl | simp_all)
@[simp] theorem transferEnded_pending (i) (s : State) : (transferEnded i s).pending = s.pending := by
  simp [transferEnded]
@[simp] theorem bulkDone_pending (item) (s : State) : (bulkDone item s).pending = s.pending := by
  unfold bulkDone; dsimp only; (repeat' (first | rw [applyAll_pending] | rw [foldl_pending] | (intros; split))) <;> (intros; (repeat' split) <;> simp [*])
@[simp] theorem applyRecords_pending (rs) (s : State) : (applyRecords rs s).pending = s.pending := by
  simp [applyRecords]
@[simp] theorem sentNow_pending (p) (kind) (s : State) : (sentNow p kind s).pending = s.pending := by
  simp [sentNow]
@[simp] theorem sendPtp_pending (p) (kind) (stamp) (fields) (s : State) : (sendPtp p kind stamp fields s).pending = s.pending := by
  simp [sendPtp]
@[simp] theorem ptpInterval_pending (p) (m) (s : State) : (ptpInterval p m s).pending = s.pending := by
  unfold ptpInterval; dsimp only; repeat' split <;> simp
@[simp] theorem hear_pending (p) (a) (s : State) : (hear p a s).pending = s.pending := by
  simp [hear]
@[simp] theorem carryInstants_pending (before) (s : State) : (carryInstants before s).pending = s.pending := by
  simp [carryInstants]
@[simp] theorem servoSample_pending (theta) (interval) (s : State) : (servoSample theta interval s).pending = s.pending := by
  simp [servoSample]
@[simp] theorem syncWhole_pending (p) (origin) (receipt) (s : State) : (syncWhole p origin receipt s).pending = s.pending := by
  simp [syncWhole]
@[simp] theorem ptpSync_pending (p) (m) (s : State) : (ptpSync p m s).pending = s.pending := by
  simp [ptpSync]
@[simp] theorem sourceNone_pending (s : State) : (sourceNone s).pending = s.pending := by
  simp [sourceNone]
@[simp] theorem timReadBody_pending (c) (s : State) : (timReadBody c s).1.pending = s.pending := by
  simp [timReadBody]
@[simp] theorem decideStates_pending (s : State) : (decideStates s).pending = s.pending := by
  simp [decideStates]
@[simp] theorem setLegal_pending (t) (s : State) : (setLegal t s).pending = s.pending := by
  simp [setLegal]
@[simp] theorem timPtpSetBody_pending (c) (s : State) : (timPtpSetBody c s).1.pending = s.pending := by
  simp [timPtpSetBody]
@[simp] theorem delayWhole_pending (p) (received) (s : State) : (delayWhole p received s).pending = s.pending := by
  unfold delayWhole; dsimp only; repeat' split <;> simp
@[simp] theorem answerPeer_pending (p) (s : State) : (answerPeer p s).pending = s.pending := by
  simp [answerPeer]
@[simp] theorem peerWhole_pending (p) (turnaround) (receipt) (s : State) : (peerWhole p turnaround receipt s).pending = s.pending := by
  unfold peerWhole; (repeat' split) <;> (first | with_reducible rfl | simp_all)
@[simp] theorem ptpDelay_pending (p) (m) (s : State) : (ptpDelay p m s).pending = s.pending := by
  unfold ptpDelay; dsimp only; (repeat' (first | rw [applyAll_pending] | rw [foldl_pending] | (intros; split))) <;> (intros; (repeat' split) <;> simp [*])
@[simp] theorem announceTimeout_pending (p) (s : State) : (announceTimeout p s).pending = s.pending := by
  simp [announceTimeout]
@[simp] theorem rtcRealign_pending (s : State) : (rtcRealign s).pending = s.pending := by
  simp [rtcRealign]
@[simp] theorem takeParent_pending (a) (s : State) : (takeParent a s).pending = s.pending := by
  simp [takeParent]
@[simp] theorem timLegalSetBody_pending (c) (s : State) : (timLegalSetBody c s).1.pending = s.pending := by
  simp [timLegalSetBody]
@[simp] theorem holdExpiry_pending (s : State) : (holdExpiry s).pending = s.pending := by
  simp [holdExpiry]
@[simp] theorem ptpAnnounce_pending (p) (a) (s : State) : (ptpAnnounce p a s).pending = s.pending := by
  simp [ptpAnnounce]
@[simp] theorem legalRateSet_pending (s : State) : (legalRateSet s).pending = s.pending := by
  simp [legalRateSet]
@[simp] theorem leapApply_pending (s : State) : (leapApply s).pending = s.pending := by
  simp [leapApply]
@[simp] theorem timServoSetBody_pending (c) (s : State) : (timServoSetBody c s).1.pending = s.pending := by
  simp [timServoSetBody]
@[simp] theorem reinitPtp_pending (p) (s : State) : (reinitPtp p s).pending = s.pending := by
  simp [reinitPtp]
@[simp] theorem deliver_pending (service) (s : State) : (deliver service s).pending = s.pending := by
  simp [deliver]
@[simp] theorem prpJudge_pending (q) (source) (seq) (s : State) : (prpJudge q source seq s).1.pending = s.pending := by
  simp [prpJudge]
@[simp] theorem netFrame_pending (f) (s : State) : (netFrame f s).pending = s.pending := by
  unfold netFrame; dsimp only; repeat' split <;> simp
@[simp] theorem portDown_pending (p) (s : State) : (portDown p s).pending = s.pending := by
  simp [portDown]
@[simp] theorem prpSupervise_pending (q) (s : State) : (prpSupervise q s).pending = s.pending := by
  simp [prpSupervise]
@[simp] theorem sgmiiChange_pending (p) (up) (speed) (s : State) : (sgmiiChange p up speed s).pending = s.pending := by
  simp [sgmiiChange]
@[simp] theorem reinitNet_pending (p) (s : State) : (reinitNet p s).pending = s.pending := by
  simp [reinitNet]
@[simp] theorem ethernetChange_pending (p) (up) (s : State) : (ethernetChange p up s).pending = s.pending := by
  simp [ethernetChange]
@[simp] theorem updFlag_pending (b) (s : State) : (updFlag b s).pending = s.pending := by
  simp [updFlag]
@[simp] theorem keepInactive_pending (before) (s : State) : (keepInactive before s).pending = s.pending := by
  simp [keepInactive]
@[simp] theorem cfgStageBody_pending (c) (s : State) : (cfgStageBody c s).1.pending = s.pending := by
  simp [cfgStageBody]
@[simp] theorem cutCommit_pending (written) (s : State) : (cutCommit written s).1.pending = s.pending := by
  simp [cutCommit]
@[simp] theorem factoryFields_pending (s : State) : (factoryFields s).pending = s.pending := by
  simp [factoryFields]
@[simp] theorem cfgReadBody_pending (c) (s : State) : (cfgReadBody c s).1.pending = s.pending := by
  unfold cfgReadBody; dsimp only; repeat' split <;> simp
@[simp] theorem settleFields_pending (s : State) : (settleFields s).pending = s.pending := by
  simp [settleFields]
@[simp] theorem setTripEnable_pending (n) (on) (s : State) : (setTripEnable n on s).pending = s.pending := by
  simp [setTripEnable]
@[simp] theorem setTripPolarity_pending (n) (high) (s : State) : (setTripPolarity n high s).pending = s.pending := by
  simp [setTripPolarity]
@[simp] theorem setField_pending (id) (i) (v) (s : State) : (setField id i v s).pending = s.pending := by
  unfold setField; dsimp only; repeat' split <;> simp
@[simp] theorem copyBad_pending (s : State) : (copyBad s).pending = s.pending := by
  simp [copyBad]
@[simp] theorem keepHolder_pending (c) (s : State) : (keepHolder c s).pending = s.pending := by
  simp [keepHolder]
@[simp] theorem programChunk_pending (off) (data) (s : State) : (programChunk off data s).pending = s.pending := by
  simp [programChunk]
@[simp] theorem updYes_pending (c) (data) (s : State) : (updYes c data s).1.pending = s.pending := by
  simp [updYes]
@[simp] theorem updDataBody_pending (c) (s : State) : (updDataBody c s).1.pending = s.pending := by
  simp [updDataBody]
@[simp] theorem updArmBody_pending (c) (s : State) : (updArmBody c s).1.pending = s.pending := by
  simp [updArmBody]
@[simp] theorem fuseFloor_pending (n) (s : State) : (fuseFloor n s).pending = s.pending := by
  simp [fuseFloor]
@[simp] theorem fusePending_pending (s : State) : (fusePending s).pending = s.pending := by
  simp [fusePending]
@[simp] theorem confirmSelector_pending (s : State) : (confirmSelector s).pending = s.pending := by
  simp [confirmSelector]
@[simp] theorem updStatusBody_pending (c) (s : State) : (updStatusBody c s).1.pending = s.pending := by
  simp [updStatusBody]
@[simp] theorem holderLapse_pending (s : State) : (holderLapse s).pending = s.pending := by
  simp [holderLapse]
@[simp] theorem confirmTrial_pending (s : State) : (confirmTrial s).pending = s.pending := by
  simp [confirmTrial]
@[simp] theorem verifyPassed_pending (s : State) : (verifyPassed s).pending = s.pending := by
  simp [verifyPassed]
@[simp] theorem cutConfirm_pending (written) (c) (s : State) : (cutConfirm written c s).1.pending = s.pending := by
  simp [cutConfirm]
@[simp] theorem updConfirmBody_pending (c) (s : State) : (updConfirmBody c s).1.pending = s.pending := by
  simp [updConfirmBody]
@[simp] theorem verifyFailed_pending (st) (s : State) : (verifyFailed st s).pending = s.pending := by
  simp [verifyFailed]
@[simp] theorem updVerifyBody_pending (c) (s : State) : (updVerifyBody c s).1.pending = s.pending := by
  simp [updVerifyBody]
@[simp] theorem rollback_pending (s : State) : (rollback s).pending = s.pending := by
  simp [rollback]
@[simp] theorem updAbortBody_pending (c) (s : State) : (updAbortBody c s).1.pending = s.pending := by
  simp [updAbortBody]
@[simp] theorem updLockBody_pending (c) (s : State) : (updLockBody c s).1.pending = s.pending := by
  simp [updLockBody]
@[simp] theorem beginDownload_pending (c) (bytes) (version) (hash) (s : State) : (beginDownload c bytes version hash s).pending = s.pending := by
  simp [beginDownload]
@[simp] theorem updBeginBody_pending (c) (s : State) : (updBeginBody c s).1.pending = s.pending := by
  simp [updBeginBody]
@[simp] theorem recClearBody_pending (c) (s : State) : (recClearBody c s).1.pending = s.pending := by
  simp [recClearBody]
@[simp] theorem shortSummary_pending (s : State) : (shortSummary s).pending = s.pending := by
  unfold shortSummary; dsimp only; repeat' split <;> simp
@[simp] theorem recorderReport_pending (code) (subject) (aux) (data) (s : State) : (recorderReport code subject aux data s).pending = s.pending := by
  simp [recorderReport]
@[simp] theorem cutCapture_pending (s : State) : (cutCapture s).pending = s.pending := by
  unfold cutCapture; dsimp only; repeat' split <;> simp
@[simp] theorem dmpInfoBody_pending (c) (s : State) : (dmpInfoBody c s).1.pending = s.pending := by
  simp [dmpInfoBody]
@[simp] theorem recInfoBody_pending (c) (s : State) : (recInfoBody c s).1.pending = s.pending := by
  simp [recInfoBody]
@[simp] theorem takeLost_pending (s : State) : (takeLost s).pending = s.pending := by
  simp [takeLost]
@[simp] theorem dmpReleaseBody_pending (c) (s : State) : (dmpReleaseBody c s).1.pending = s.pending := by
  simp [dmpReleaseBody]
@[simp] theorem dmpReadBody_pending (c) (s : State) : (dmpReadBody c s).1.pending = s.pending := by
  unfold dmpReadBody; dsimp only; repeat' split <;> simp
@[simp] theorem recordWriteDone_pending (s : State) : (recordWriteDone s).pending = s.pending := by
  unfold recordWriteDone; dsimp only; repeat' split <;> simp
@[simp] theorem fatal_pending (cause) (detail) (short) (s : State) : (fatal cause detail short s).pending = s.pending := by
  unfold fatal; dsimp only; repeat' split <;> simp
@[simp] theorem dumpCaptured_pending (heap) (planner) (collector) (s : State) : (dumpCaptured heap planner collector s).pending = s.pending := by
  unfold dumpCaptured; dsimp only; repeat' split <;> simp
@[simp] theorem recReadBody_pending (c) (s : State) : (recReadBody c s).1.pending = s.pending := by
  simp [recReadBody]
@[simp] theorem latchCount_pending (s : State) : (latchCount s).pending = s.pending := by
  simp [latchCount]
@[simp] theorem writeMask_pending (w) (v) (s : State) : (writeMask w v s).pending = s.pending := by
  simp [writeMask]
@[simp] theorem resetRings_pending (s : State) : (resetRings s).pending = s.pending := by
  simp [resetRings]
@[simp] theorem writeReset_pending (v) (s : State) : (writeReset v s).pending = s.pending := by
  simp [writeReset]
@[simp] theorem clearFlags_pending (w) (v) (raised) (s : State) : (clearFlags w v raised s).pending = s.pending := by
  unfold clearFlags; dsimp only; repeat' split <;> simp
@[simp] theorem clearPending_pending (w) (v) (raised) (s : State) : (clearPending w v raised s).pending = s.pending := by
  simp [clearPending]
@[simp] theorem armVectors_pending (x) (v) (s : State) : (armVectors x v s).pending = s.pending := by
  simp [armVectors]
@[simp] theorem writeBall_pending (b) (v) (s : State) : (writeBall b v s).pending = s.pending := by
  simp [writeBall]
@[simp] theorem writeRoute_pending (n) (v) (s : State) : (writeRoute n v s).pending = s.pending := by
  simp [writeRoute]
@[simp] theorem writeVec_pending (n) (v) (s : State) : (writeVec n v s).pending = s.pending := by
  simp [writeVec]
@[simp] theorem writeEvt_pending (o) (v) (raised) (s : State) : (writeEvt o v raised s).pending = s.pending := by
  simp [writeEvt]
@[simp] theorem writeTail_pending (n) (v) (s : State) : (writeTail n v s).pending = s.pending := by
  simp [writeTail]
@[simp] theorem writeCqHead_pending (n) (v) (s : State) : (writeCqHead n v s).pending = s.pending := by
  simp [writeCqHead]
@[simp] theorem writeRing_pending (n) (v) (s : State) : (writeRing n v s).pending = s.pending := by
  simp [writeRing]
@[simp] theorem writeBase_pending (n) (o) (v) (s : State) : (writeBase n o v s).pending = s.pending := by
  simp [writeBase]
@[simp] theorem writeCmd_pending (o) (v) (raised) (s : State) : (writeCmd o v raised s).pending = s.pending := by
  unfold writeCmd; dsimp only; repeat' split <;> simp
@[simp] theorem clearCan_pending (c) (v) (raised) (s : State) : (clearCan c v raised s).pending = s.pending := by
  simp [clearCan]
@[simp] theorem writePubsel_pending (v) (s : State) : (writePubsel v s).pending = s.pending := by
  simp [writePubsel]
@[simp] theorem writeWindow_pending (w) (o) (v) (raised) (s : State) : (writeWindow w o v raised s).pending = s.pending := by
  unfold writeWindow; (repeat' split) <;> (first | with_reducible rfl | simp_all)
@[simp] theorem functionReset_pending (s : State) : (functionReset s).pending = s.pending := by
  simp [functionReset]
@[simp] theorem latchRegister_pending (offset) (s : State) : (latchRegister offset s).pending = s.pending := by
  simp [latchRegister]
@[simp] theorem busRead_pending (offset) (n) (s : State) : (busRead offset n s).pending = s.pending := by
  simp [busRead]
@[simp] theorem sendHeld_pending (s : State) : (sendHeld s).pending = s.pending := by
  simp [sendHeld]
@[simp] theorem pcieConfig_pending (w) (s : State) : (pcieConfig w s).pending = s.pending := by
  unfold pcieConfig; dsimp only; repeat' split <;> simp
@[simp] theorem perst_pending (s : State) : (perst s).pending = s.pending := by
  simp [perst]
@[simp] theorem unmask_pending (vector) (s : State) : (unmask vector s).pending = s.pending := by
  unfold unmask; dsimp only; repeat' split <;> simp
@[simp] theorem writeReg_pending (offset) (v) (raised) (s : State) : (writeReg offset v raised s).pending = s.pending := by
  simp [writeReg]
@[simp] theorem writeBytes_pending (offset) (data) (s : State) : (writeBytes offset data s).pending = s.pending := by
  simp [writeBytes]
@[simp] theorem bootSlot_pending (b) (s : State) : (bootSlot b s).pending = s.pending := by
  simp [bootSlot]
@[simp] theorem vaultKept_pending (s : State) : (vaultKept s).pending = s.pending := by
  simp [vaultKept]
@[simp] theorem rungFour_pending (s0 : State) : (rungFour s0).pending = s0.pending := by
  simp [rungFour]
@[simp] theorem freeze_pending (s : State) : (freeze s).pending = s.pending := by
  simp [freeze]
@[simp] theorem announce_pending (s : State) : (announce s).pending = s.pending := by
  simp [announce]
@[simp] theorem partnerTakes_pending (s : State) : (partnerTakes s).pending = s.pending := by
  simp [partnerTakes]
@[simp] theorem stepThree_pending (s : State) : (stepThree s).pending = s.pending := by
  simp [stepThree]
@[simp] theorem stepTwo_pending (s : State) : (stepTwo s).pending = s.pending := by
  simp [stepTwo]
@[simp] theorem fallBack_pending (s : State) : (fallBack s).pending = s.pending := by
  simp [fallBack]
@[simp] theorem loadFirmware_pending (s : State) : (loadFirmware s).pending = s.pending := by
  unfold loadFirmware; dsimp only; repeat' split <;> simp
@[simp] theorem stepEight_pending (s : State) : (stepEight s).pending = s.pending := by
  simp [stepEight]
@[simp] theorem markerFlags_pending (s : State) : (markerFlags s).pending = s.pending := by
  simp [markerFlags]
@[simp] theorem recordsInForce_pending (s : State) : (recordsInForce s).pending = s.pending := by
  simp [recordsInForce]
@[simp] theorem tokenAtEnd_pending (s : State) : (tokenAtEnd s).pending = s.pending := by
  unfold tokenAtEnd; (repeat' split) <;> (first | with_reducible rfl | simp_all)
@[simp] theorem missedArm_pending (s : State) : (missedArm s).pending = s.pending := by
  simp [missedArm]
@[simp] theorem rebuildShadow_pending (s : State) : (rebuildShadow s).pending = s.pending := by
  simp [rebuildShadow]
@[simp] theorem afterBoot_pending (fell) (s : State) : (afterBoot fell s).pending = s.pending := by
  simp [afterBoot]
@[simp] theorem endOfBoot_pending (fell) (s : State) : (endOfBoot fell s).pending = s.pending := by
  simp [endOfBoot]
@[simp] theorem stepEleven_pending (s : State) : (stepEleven s).pending = s.pending := by
  simp [stepEleven]
@[simp] theorem measuredStart_pending (s : State) : (measuredStart s).pending = s.pending := by
  simp [measuredStart]
@[simp] theorem stepTen_pending (s : State) : (stepTen s).pending = s.pending := by
  unfold stepTen; dsimp only; repeat' split <;> simp
@[simp] theorem stepOneOfBoot_pending (s : State) : (stepOneOfBoot s).pending = s.pending := by
  simp [stepOneOfBoot]
@[simp] theorem rungThree_pending (code) (s : State) : (rungThree code s).pending = s.pending := by
  simp [rungThree]
@[simp] theorem powerOn_pending (cause) (s : State) : (powerOn cause s).pending = s.pending := by
  simp [powerOn]
@[simp] theorem holdupEvent_pending (e) (s : State) : (holdupEvent e s).pending = s.pending := by
  unfold holdupEvent; (repeat' split) <;> (first | with_reducible rfl | simp_all)
@[simp] theorem fatalError_pending (cause) (detail) (s : State) : (fatalError cause detail s).pending = s.pending := by
  simp [fatalError]
@[simp] theorem holdupTaken_pending (s : State) : (holdupTaken s).pending = s.pending := by
  simp [holdupTaken]
@[simp] theorem holdupBegin_pending (s : State) : (holdupBegin s).pending = s.pending := by
  simp [holdupBegin]
@[simp] theorem holdupRecords_pending (s : State) : (holdupRecords s).pending = s.pending := by
  simp [holdupRecords]
@[simp] theorem activationRefused_pending (st) (s : State) : (activationRefused st s).pending = s.pending := by
  simp [activationRefused]
@[simp] theorem actWaitExpiry_pending (s : State) : (actWaitExpiry s).pending = s.pending := by
  unfold actWaitExpiry; (repeat' split) <;> (first | with_reducible rfl | simp_all)
@[simp] theorem tripInactive_pending (n) (s : State) : (tripInactive n s).pending = s.pending := by
  simp [tripInactive]
@[simp] theorem fatalOpen_pending (cause) (short) (s : State) : (fatalOpen cause short s).pending = s.pending := by
  simp [fatalOpen]
@[simp] theorem thermalTrip_pending (s : State) : (thermalTrip s).pending = s.pending := by
  unfold thermalTrip; dsimp only; (repeat' (first | rw [applyAll_pending] | rw [foldl_pending] | (intros; split))) <;> (intros; (repeat' split) <;> simp [*])
@[simp] theorem pllRelock_pending (p) (s : State) : (pllRelock p s).pending = s.pending := by
  simp [pllRelock]
@[simp] theorem vbatApplied_pending (s : State) : (vbatApplied s).pending = s.pending := by
  simp [vbatApplied]
@[simp] theorem warmth_pending (t) (s : State) : (warmth t s).pending = s.pending := by
  simp [warmth]
@[simp] theorem temperature_pending (sensors) (s : State) : (temperature sensors s).pending = s.pending := by
  simp [temperature]
@[simp] theorem vbatMeasure_pending (mv) (s : State) : (vbatMeasure mv s).pending = s.pending := by
  simp [vbatMeasure]
@[simp] theorem fabLingerExpiry_pending (b) (s : State) : (fabLingerExpiry b s).pending = s.pending := by
  simp [fabLingerExpiry]
@[simp] theorem pllUnlock_pending (p) (s : State) : (pllUnlock p s).pending = s.pending := by
  unfold pllUnlock; dsimp only; repeat' split <;> simp
@[simp] theorem pulseLevel_pending (n) (ns) (s : State) : (pulseLevel n ns s).pending = s.pending := by
  simp [pulseLevel]
@[simp] theorem tripEdge_pending (n) (ns) (s : State) : (tripEdge n ns s).pending = s.pending := by
  simp [tripEdge]
@[simp] theorem lastWrite_pending (s : State) : (lastWrite s).pending = s.pending := by
  unfold lastWrite; (repeat' split) <;> (first | with_reducible rfl | simp_all)
@[simp] theorem outputHoldTimeout_pending (s : State) : (outputHoldTimeout s).pending = s.pending := by
  simp [outputHoldTimeout]
@[simp] theorem dspFailure_pending (s : State) : (dspFailure s).pending = s.pending := by
  simp [dspFailure]
@[simp] theorem stopEngine_pending (s : State) : (stopEngine s).pending = s.pending := by
  simp [stopEngine]
@[simp] theorem reinitReach_pending (i) (s : State) : (reinitReach i s).pending = s.pending := by
  simp [reinitReach]
@[simp] theorem reinitMetering_pending (s : State) : (reinitMetering s).pending = s.pending := by
  simp [reinitMetering]
@[simp] theorem reinitOne_pending (f) (i) (s : State) : (reinitOne f i s).pending = s.pending := by
  unfold reinitOne; (repeat' split) <;> (first | with_reducible rfl | simp_all)
@[simp] theorem funcReinitBody_pending (c) (s : State) : (funcReinitBody c s).1.pending = s.pending := by
  simp [funcReinitBody]
@[simp] theorem closePeriod_pending (at') (endServo) (endLegal) (s : State) : (closePeriod at' endServo endLegal s).pending = s.pending := by
  simp [closePeriod]
@[simp] theorem sysStatusBody_pending (c) (s : State) : (sysStatusBody c s).1.pending = s.pending := by
  simp [sysStatusBody]
@[simp] theorem reinitDone_pending (f) (i) (s : State) : (reinitDone f i s).pending = s.pending := by
  simp [reinitDone]
@[simp] theorem sysInfoBody_pending (c) (s : State) : (sysInfoBody c s).1.pending = s.pending := by
  simp [sysInfoBody]
@[simp] theorem trackOnce_pending (s : State) : (trackOnce s).pending = s.pending := by
  simp [trackOnce]
@[simp] theorem sysDeviceResetBody_pending (c) (s : State) : (sysDeviceResetBody c s).1.pending = s.pending := by
  simp [sysDeviceResetBody]
@[simp] theorem engineRestart_pending (s : State) : (engineRestart s).pending = s.pending := by
  unfold engineRestart; dsimp only; repeat' split <;> simp
@[simp] theorem loseResponse_pending (n) (was) (before) (s : State) : (loseResponse n was before s).pending = s.pending := by
  simp [loseResponse]
@[simp] theorem spiStatus_pending (s : State) : (spiStatus s).pending = s.pending := by
  simp [spiStatus]
@[simp] theorem spiResponse_pending (n) (s : State) : (spiResponse n s).pending = s.pending := by
  simp [spiResponse]
@[simp] theorem runUnassigned_pending (code) (c) (s : State) : (runUnassigned code c s).pending = s.pending := by
  unfold runUnassigned; dsimp only; repeat' split <;> simp
@[simp] theorem keyUpdated_pending (assoc) (s : State) : (keyUpdated assoc s).pending = s.pending := by
  simp [keyUpdated]
@[simp] theorem dtlsHandshake_pending (h) (s : State) : (dtlsHandshake h s).pending = s.pending := by
  unfold dtlsHandshake; dsimp only; repeat' split <;> simp
@[simp] theorem passEntry_pending (n) (s : State) : (passEntry n s).pending = s.pending := by
  simp [passEntry]
@[simp] theorem readStatusPort_pending (address) (s : State) : (readStatusPort address s).pending = s.pending := by
  simp [readStatusPort]
@[simp] theorem writeRingReg_pending (n) (o) (v) (s : State) : (writeRingReg n o v s).pending = s.pending := by
  simp [writeRingReg]
@[simp] theorem takeSnapshots_pending (slots) (s : State) : (takeSnapshots slots s).pending = s.pending := by
  simp [takeSnapshots]

end Sys2Proof.Laws
end

