-- ==== Sys2Proof/Machine/BallMap.lean ====
section
/-! DEFINITION. The ball map: the grid, its regions, the signals in the order in which they take balls (R458 to R461). -/

namespace Sys2Proof.Machine

/-- A signal: its name, its number in the group, what follows the number. -/
structure Signal where
  name : String
  number : Nat := 0
  part : String := ""
deriving DecidableEq, Repr

/-- The five regions of the grid (R459). -/
inductive Region where
  | top
  | left
  | centre
  | right
  | bottom
deriving DecidableEq, Repr

/-- The letters of a row name (R458). -/
def rowLetters : List String :=
  ["A", "B", "C", "D", "E", "F", "G", "H", "J", "K", "L", "M", "N", "P", "T", "U", "V", "W", "Y"]

/-- The name of a row, 1 to 49 (R458): A to Y, AA to AY, BA to BL. -/
def rowName (r : Nat) : String :=
  let letter := rowLetters.getD ((r - 1) % 19) ""
  match (r - 1) / 19 with
  | 0 => letter
  | 1 => "A" ++ letter
  | _ => "B" ++ letter

/-- Numbers from one to another, both taken. -/
def upFrom (a b : Nat) : List Nat := (List.range (b + 1 - a)).map (a + ·)
def downFrom (a b : Nat) : List Nat := (upFrom b a).reverse

/-- The balls of a region as (row, column), in its visiting order (R459, R460). -/
def visiting : Region → List (Nat × Nat)
  | .top => (upFrom 1 8).flatMap (fun r => (upFrom 1 49).map (fun c => (r, c)))
  | .bottom => (downFrom 49 43).flatMap (fun r => (upFrom 1 49).map (fun c => (r, c)))
  | .left => (upFrom 1 7).flatMap (fun c => (upFrom 9 42).map (fun r => (r, c)))
  | .right => (downFrom 49 41).flatMap (fun c => (upFrom 9 42).map (fun r => (r, c)))
  | .centre => (upFrom 9 42).flatMap (fun r => (upFrom 8 40).map (fun c => (r, c)))

/-- Numbered signals: each number of a range with every one of some parts. -/
def numberedSignals (name : String) (n : Nat) (parts : List String := [""]) : List Signal :=
  (List.range n).flatMap (fun k => parts.map (fun p => { name := name, number := k, part := p }))

/-- Signals of one of a kind. -/
def single (names : List String) : List Signal := names.map (fun n => { name := n })

/-- So many balls of a supply, or not connected. -/
def rail (name : String) (n : Nat) : List Signal := List.replicate n { name := name }

/-- The groups of R461, in assignment order. -/
def serdesGroup : List Signal :=
  numberedSignals "NET" 8 ["_TX_P", "_TX_N", "_RX_P", "_RX_N"] ++ single ["BRD_TX_P", "BRD_TX_N", "BRD_RX_P", "BRD_RX_N"]
    ++ numberedSignals "PCIE_TX" 4 ["_P", "_N"] ++ numberedSignals "PCIE_RX" 4 ["_P", "_N"]
    ++ single ["PCIE_REFCLK_P", "PCIE_REFCLK_N", "PCIE_PERST_N", "NET_MDC", "NET_MDIO", "XT25_IN", "XT25_OUT"]

def analogueGroup : List Signal :=
  numberedSignals "MCV" 12 ["_P", "_N", "_CP", "_CN", "_EX"] ++ numberedSignals "AIN" 48
    ++ single ["REFIN", "REFOUT", "REFCAP"] ++ numberedSignals "DAC" 16 ++ numberedSignals "TAMP" 4
    ++ single ["XT32_IN", "XT32_OUT"]

/-- An xSPI bus. -/
def xspi (x : String) : List Signal :=
  single [x ++ "_CK", x ++ "_CS_N"] ++ numberedSignals (x ++ "_DQ") 8 ++ single [x ++ "_DQS", x ++ "_RST_N"]

def serviceGroup : List Signal :=
  xspi "XA" ++ xspi "XB" ++ single ["TCK", "TMS", "TDI", "TDO", "TRST_N", "VMON", "RST_N", "TEST_EN"]

def fieldGroup : List Signal :=
  numberedSignals "TRIP" 32 ++ single ["SLC_RD_N"] ++ numberedSignals "SLC_A" 3 ++ numberedSignals "SLC_D" 8
    ++ single ["OHOLD_N", "OWN_IN", "OWN_OUT"] ++ numberedSignals "EVT" 8 ++ numberedSignals "CAN" 16 ["_TX", "_RX"]
    ++ numberedSignals "I2C" 4 ["_SCL", "_SDA"] ++ single ["SPI_SCK", "SPI_CS_N", "SPI_MOSI", "SPI_MISO"]
    ++ numberedSignals "PWM" 32 ++ numberedSignals "PULSE" 16
    ++ (List.range 32).flatMap (fun k => [{ name := "CNT", number := k }, { name := "DIR", number := k }])
    ++ numberedSignals "GPIO" 64

/-- A DDR5 channel: its name is the part, the signal's number its own. -/
def ddrChannel (c : String) : List Signal :=
  numberedSignals (c ++ "DQ") 72 ++ numberedSignals (c ++ "DQS") 9 ["_P", "_N"] ++ numberedSignals (c ++ "CA") 14
    ++ single [c ++ "CS0_N", c ++ "CS1_N", c ++ "CK_P", c ++ "CK_N", c ++ "RESET_N", c ++ "ALERT_N", c ++ "ZQ"]

def ddrGroup : List Signal := ddrChannel "DDR0_" ++ ddrChannel "DDR1_"

/-- The balls of a region that are not VSS, in order (R459). -/
def regionSignals : Region → List Signal
  | .top => serdesGroup ++ rail "VDD_SRD" 24 ++ rail "VDDH_SRD" 12 ++ rail "NC" 12
  | .left => analogueGroup ++ serviceGroup ++ rail "AVDD" 8 ++ rail "AGND" 24 ++ rail "VIO_18" 6 ++ rail "VBAT" 2
  | .centre => rail "VDD_FAB" 300 ++ rail "VDD_CORE" 120 ++ rail "VDD_AON" 6 ++ rail "VDRAM1" 8 ++ rail "VDRAM2" 24
      ++ rail "VDRAMQ" 24
  | .right => fieldGroup ++ rail "VIO_AON" 6 ++ rail "VIO_FLD" 16
  | .bottom => ddrGroup ++ rail "VDDQ_D5" 40

/-- The regions. -/
def regions : List Region := [.top, .left, .centre, .right, .bottom]

/-- The balls that a signal or a rail takes, as (row, column). -/
def ballsOf (x : Signal) : List (Nat × Nat) :=
  regions.flatMap (fun g => ((regionSignals g).zip (visiting g)).filterMap (fun e => if e.1 = x then some e.2 else none))

/-- The region that a place of the grid lies in (R459). -/
def regionAt (r c : Nat) : Region :=
  if r ≤ 8 then .top else if 43 ≤ r then .bottom else if c ≤ 7 then .left else if c ≤ 40 then .centre else .right

/-- What stands at a place of the grid: its signal or rail, or VSS (R459). -/
def signalAt (r c : Nat) : Signal :=
  let g := regionAt r c
  (((visiting g).zip (regionSignals g)).find? (fun e => decide (e.1 = (r, c)))).elim { name := "VSS" } (·.2)

end Sys2Proof.Machine
end

