-- ==== Sys2Proof/WellFormed.lean ====
section
/-! DEFINITION. What a command's operands may be: the ranges that the spec gives the numbers, fields and frames that a
command brings. A command outside them is none that the outside of the block can send. -/

namespace Sys2Proof

/-- A VCP packet's fields (R29, R35, R36, R48): a payload that a u16 length can name, a ring below 8 on PCIe, host
memory no larger than a descriptor covers. -/
def Cmd.ok (c : Cmd) : Bool :=
  decide (c.payload.length < 65536) && decide (c.transport = .pcie → c.assoc < 8)
    && c.host.all (fun h => decide (h.length ≤ 268435456))

/-- A submission entry is 32 bytes (R47). -/
def SqFetch.ok (f : SqFetch) : Bool :=
  f.entry.all (fun e => decide (e.length = 32)) && f.host.all (fun h => decide (h.length ≤ 268435456))

/-- Frames arrive on one of eight Ethernet ports (R19, R20). -/
def Handshake.ok (h : Handshake) : Bool := decide (h.port < 8)
def DtlsRecord.ok (r : DtlsRecord) : Bool := decide (r.port < 8)
def UppHello.ok (h : UppHello) : Bool := decide (h.port < 8) && h.unit.all (fun u => decide (u < 65536))
def UppRecord.ok (r : UppRecord) : Bool := decide (r.port < 8 ∧ r.unit < 65536)
def NetFrame.ok (f : NetFrame) : Bool := decide (f.port < 8 ∧ f.service ≤ 3) && f.rct.all (fun s => decide (s < 65536))

/-- A mean of corrected samples lies within the corrected scale (R118). -/
def SyscalMean.ok (m : SyscalMean) : Bool := decide (-2147483648 ≤ m.mean ∧ m.mean ≤ 2147483647)

/-- A frame on the bus: an identifier of its width, a length its format has (R54, R317). -/
def CanFrame.ok (f : CanFrame) : Bool :=
  (f.fd || (!f.brs && !f.esi)) &&
  decide (f.id < if f.ide then 2 ^ 29 else 2 ^ 11)
    && (decide (f.data.length ≤ 8) || (f.fd && [12, 16, 20, 24, 32, 48, 64].contains f.data.length))

/-- The fields of an Announce fit the message (IEEE 1588-2019, R346). -/
def ClockData.ok (c : ClockData) : Bool :=
  decide (c.priority1 < 256 ∧ c.clockClass < 256 ∧ c.accuracy < 256 ∧ c.variance < 65536 ∧ c.priority2 < 256
    ∧ c.identity < 2 ^ 64)
def Announce.ok (a : Announce) : Bool :=
  a.grandmaster.ok && decide (a.steps < 65536 ∧ a.sender < 2 ^ 64 ∧ a.senderPort < 65536)

/-- correctionField is a signed number of 64 bits (R345). -/
def Sync.ok (m : Sync) : Bool := decide (-(2 ^ 63) ≤ m.correction ∧ m.correction < 2 ^ 63)

/-- What falls during hold-up names a trip input there is (R93, R301). -/
def HoldupEvent.ok : HoldupEvent → Bool
  | .trip n => decide (n < 32)
  | _ => true

/-- A memory read of register space, BAR0, of at least one byte (R6, R454). -/
def readOk (offset size : Nat) : Bool := decide (1 ≤ size ∧ offset + size ≤ 0x400000)

/-- A heartbeat names a mode, and carries digests of 16 bytes (R52, R360). -/
def Beat.ok (b : Beat) : Bool :=
  decide (b.mode ≤ 11 ∧ b.cfgDigest.length = 16 ∧ b.sig0.length = 16 ∧ b.sig1.length = 16)

/-- A start hash is a SHA-384 (R367). -/
def JobStartInfo.ok (j : JobStartInfo) : Bool := decide (j.startHash.length = 48)

/-- A partition is 0 or 1 (R363). -/
def BulkItem.ok : BulkItem → Bool
  | .course p _ => decide (p < 2)
  | .iterate p _ _ _ _ _ _ => decide (p < 2)
  | .points _ _ => true
  | .ledgers _ _ => true

/-- The table of BAR2 has 64 vectors (R455). -/
def PcieConfig.ok : PcieConfig → Bool
  | .vector v _ _ _ => decide (v < 64)
  | .enumerate _ _ => true
  | .memorySpace _ => true
  | .msix _ _ => true

/-- A policy's hash is a SHA-384, a partition split is 0 to 64 (R71, R223). -/
def PairUpdate.ok (u : PairUpdate) : Bool :=
  u.policy.all (fun p => decide (p.2.length = 48)) && u.part.all (fun n => decide (n ≤ 64))

/-- A command that the outside of the block can send. -/
def wellFormed : Instr → Bool
  | .mainSuppliesValid _ failsAt => failsAt.all (fun n => decide (2 ≤ n ∧ n ≤ 12))
  | .pwrfail _ _ _ during cut => during.all (fun e => e.1.ok) && cut.all (·.cmd.ok)
  | .holdupRestart _ failsAt => failsAt.all (fun n => decide (2 ≤ n ∧ n ≤ 12))
  | .clockLoss _ => true
  | .clockReturn _ failsAt => failsAt.all (fun n => decide (2 ≤ n ∧ n ≤ 12))
  | .rstNLow _ _ => true
  | .pciePerstN _ => true
  | .functionLevelReset _ => true
  | .pllUnlock _ _ => true
  | .pllRelock _ _ => true
  | .temperatureSample _ sensors => !sensors.isEmpty
  | .vbatMeasure _ mv => decide (mv < 65536)
  | .fabLingerExpiry _ _ => true
  | .fatalError _ _ _ => true
  | .dumpCaptured _ _ _ _ => true
  | .shortSummary _ => true
  | .meteringDspFailure _ => true
  | .tripActiveEdge _ n _ => decide (n < 32)
  | .tamperDetect _ _ => true
  | .vaultRefresh _ => true
  | .rtcRealign _ => true
  | .sysResetWrite _ _ => true
  | .timCntLRead _ offset size => readOk offset size
  | .mtrAccLRead _ offset size => readOk offset size
  | .cmdSqDoorbell _ ring _ => decide (ring < 8)
  | .cmdRingWrite _ ring _ => decide (ring < 8)
  | .cmdCtrlWrite _ _ => true
  | .cmdCqHeadWrite _ ring _ => decide (ring < 8)
  | .sqEntryFetch _ ring f => decide (ring < 8) && f.ok
  | .evtVarmWrite _ x _ => decide (x < 2)
  | .evtMaskWrite _ w _ => decide (w < 6)
  | .flagClearWrite _ offset _ _ => decide (offset < 0x150000 ∧ offset % 4 = 0)
  | .keyPubselWrite _ _ => true
  | .registerWrite _ offset data => decide (offset < 0x400000) && !data.isEmpty
  | .msixVectorUnmask _ vector => vector.all (fun v => decide (v < 64))
  | .evtHoldoffExpiry _ v => decide (v < 64)
  | .spiQueueCommand _ _ => true
  | .spiReadStatus _ => true
  | .spiReadResponse _ _ => true
  | .vcpDtlsHandshake _ h => h.ok
  | .vcpDtlsRecord _ r => r.ok
  | .sessionIdleTimeout _ _ => true
  | .dtlsAssociationClose _ _ => true
  | .sesChallenge _ c => c.ok
  | .sesOpen _ c => c.ok
  | .sesClose _ c => c.ok
  | .sysNop _ c => c.ok
  | .sysInfo _ c => c.ok
  | .sysStatus _ c => c.ok
  | .funcReinit _ c => c.ok
  | .sysDeviceReset _ c => c.ok
  | .modeGet _ c => c.ok
  | .modeRequest _ c => c.ok
  | .islandPolicySet _ c => c.ok
  | .islandPolicyGet _ c => c.ok
  | .contactTimerExpiry _ => true
  | .islandLimitExpiry _ => true
  | .startMove _ => true
  | .outputHoldTimeout _ => true
  | .adcChanSet _ c => c.ok
  | .adcSeqSet _ c => c.ok
  | .adcSampleRead _ c => c.ok
  | .adcCalSet _ c => c.ok
  | .adcSyscal _ c m => c.ok && m.ok
  | .calibrationIdleExpiry _ channel => decide (channel < 256)
  | .sarConversionDone _ converter code _ => decide (converter < 2) && decide (code < 65536)
  | .meteringSample _ channel code _ => decide (channel < 32) && decide (-8388608 ≤ code ∧ code ≤ 8388607)
  | .urgentConversionDone _ converter code _ => decide (converter < 2) && decide (code < 65536)
  | .countingEdge _ k _ _ => decide (k < 32)
  | .referenceMeasure _ _ _ => true
  | .referenceReady _ _ => true
  | .meteringPeriodClose _ => true
  | .thermalTick _ n => decide (n < 12)
  | .accumulatorSecondWrite _ => true
  | .pulseEmit _ p => decide (p < 16)
  | .sensorIdentityRead _ n _ => decide (n < 12)
  | .mtrRead _ c => c.ok
  | .mtrSnapRead _ c => c.ok
  | .mtrChanSet _ c => c.ok
  | .mtrTcompSet _ c => c.ok
  | .mtrSensorAccept _ c _ => c.ok
  | .mtrPulseSet _ c => c.ok
  | .uppClientHello _ h => h.ok
  | .uppDatagram _ r => r.ok
  | .pointEngineApply _ => true
  | .slotWindowStart _ unit => decide (unit < 65536)
  | .throttleExpiry _ unit => decide (unit < 65536)
  | .unitSilent _ unit => decide (unit < 65536)
  | .ptsDeclare _ c => c.ok
  | .ptsRead _ c => c.ok
  | .ptsWrite _ c => c.ok
  | .ptsSnapshot _ c => c.ok
  | .ptsUnitSet _ c => c.ok
  | .ptsUnitStatus _ c => c.ok
  | .crsBegin _ c => c.ok
  | .crsData _ c => c.ok
  | .crsCommit _ c => c.ok
  | .courseSwap _ p => decide (p < 2)
  | .crsDelta _ c => c.ok
  | .crsInfo _ c => c.ok
  | .crsDrop _ c => c.ok
  | .jobSet _ c => c.ok
  | .jobRun _ c => c.ok
  | .jobAbort _ c => c.ok
  | .jobResult _ c => c.ok
  | .ledgerRead _ c => c.ok
  | .partSet _ c => c.ok
  | .periodTrigger _ p => decide (p < 2)
  | .eventTrigger _ bit => decide (bit < 32)
  | .jobStart _ p => decide (p < 2)
  | .workAreaAvailable _ p => decide (p < 2)
  | .jobIterationEnd _ p _ => decide (p < 2)
  | .jobDeadline _ p => decide (p < 2)
  | .scheduleStall _ p => decide (p < 2)
  | .jobEnd _ p => decide (p < 2)
  | .pendingJobStart _ p => decide (p < 2)
  | .fallbackWriteDone _ => true
  | .transientHoldRaise _ => true
  | .transientHoldEnd _ => true
  | .forecastReplay _ => true
  | .loopEvaluation _ slot => decide (slot < 1024)
  | .integratorSnapshot _ => true
  | .loopSet _ c => c.ok
  | .loopGainSet _ c => c.ok
  | .loopRead _ c => c.ok
  | .loopEnable _ c => c.ok
  | .traceArm _ c => c.ok
  | .traceRead _ c => c.ok
  | .outSet _ c => c.ok
  | .outBind _ c => c.ok
  | .slcSafeSet _ c => c.ok
  | .slcStatus _ c => c.ok
  | .slcRelease _ c => c.ok
  | .outRead _ c => c.ok
  | .statusPortRead _ address => decide (address < 8)
  | .loopEngineRestart _ => true
  | .canChanSet _ c => c.ok
  | .canObjSet _ c => c.ok
  | .canSend _ c => c.ok
  | .canCancel _ c => c.ok
  | .canStatus _ c => c.ok
  | .canDueInstant _ channel object => decide (channel < 16) && decide (object < 128)
  | .canArbitrationEnd _ channel _ => decide (channel < 16)
  | .canFrameEnd _ channel _ => decide (channel < 16)
  | .canFrameReceived _ channel _ f => decide (channel < 16) && f.ok
  | .canBusOff _ channel => decide (channel < 16)
  | .canBusOffRecovery _ channel => decide (channel < 16)
  | .canBusIntegration _ channel => decide (channel < 16)
  | .timRead _ c => c.ok
  | .timLegalSet _ c => c.ok
  | .timPtpSet _ c => c.ok
  | .timServoSet _ c => c.ok
  | .ptpSync _ port m => decide (port < 8) && m.ok
  | .legalRateSet _ => true
  | .announceReceiptTimeout _ port => decide (port < 8)
  | .holdSExpiry _ => true
  | .ptpAnnounce _ port a => decide (port < 8) && a.ok
  | .leapApply _ => true
  | .sgmiiLinkChange _ port _ speed => decide (port < 8) && decide (speed ≤ 2)
  | .netFrameReceived _ f => f.ok
  | .prpSupervision _ pair => decide (pair < 2)
  | .pairStatus _ c => c.ok
  | .pairSet _ c => c.ok
  | .pairHandover _ c => c.ok
  | .pairCompare _ c => c.ok
  | .braidLinkTrain _ _ => true
  | .braidResendTimeout _ => true
  | .heartbeatSend _ => true
  | .heartbeat _ _ b => b.ok
  | .heartbeatMiss _ => true
  | .leaseLapse _ => true
  | .notice _ _ _ => true
  | .ownInRequest _ => true
  | .ownInHold _ => true
  | .ownInReleased _ => true
  | .requestUnanswered _ => true
  | .integrators _ _ _ => true
  | .pairStatusFrame _ _ u => u.ok
  | .jobStartFrame _ _ j => j.ok
  | .gatherFrame _ _ _ => true
  | .iterDone _ _ _ => true
  | .jobEndFrame _ _ _ hash => decide (hash.length = 48)
  | .compare _ _ _ hash outcome => decide (hash.length = 48) && decide (1 ≤ outcome ∧ outcome ≤ 3)
  | .ledgerFrame _ _ _ => true
  | .deltaFrame _ _ payload => decide (24 ≤ payload.length)
  | .declareFrame _ _ payload => decide (4 ≤ payload.length)
  | .pointDelta _ _ _ => true
  | .recordFrame _ _ _ => true
  | .bulkTransferDone _ item => item.ok
  | .partnerReady _ => true
  | .keyStatus _ c => c.ok
  | .keyDerive _ c => c.ok
  | .keyUpdate _ c => c.ok
  | .keyDestroy _ c _ => c.ok
  | .keyRoleSet _ c => c.ok
  | .lcAdvance _ c => c.ok
  | .keyOperationDone _ slot => decide (slot < 256)
  | .pairKeySwitch _ => true
  | .previousPairKeyExpiry _ => true
  | .updBegin _ c => c.ok
  | .updData _ c => c.ok
  | .updVerify _ c => c.ok
  | .updArm _ c => c.ok
  | .updConfirm _ c => c.ok
  | .updAbort _ c => c.ok
  | .updStatus _ c => c.ok
  | .updLock _ c => c.ok
  | .updateHolderLapse _ => true
  | .activationTime _ => true
  | .confirmWindowExpiry _ => true
  | .cfgRead _ c => c.ok
  | .cfgStage _ c => c.ok
  | .cfgCommit _ c _ => c.ok
  | .recorderReport _ _ _ _ _ => true
  | .recordWriteDone _ => true
  | .recRead _ c => c.ok
  | .recClear _ c => c.ok
  | .recInfo _ c => c.ok
  | .dmpInfo _ c => c.ok
  | .dmpRead _ c => c.ok
  | .dmpRelease _ c => c.ok
  | .tripInputInactive _ n => decide (n < 32)
  | .vbatApplied _ => true
  | .pcieConfigWrite _ w => w.ok
  | .ethernetLinkChange _ port _ => decide (port < 8)
  | .canReceiveError _ channel _ amount => decide (channel < 16) && decide (amount = 1 ∨ amount = 8)
  | .ptpMessageInterval _ port _ => decide (port < 8)
  | .ptpDelayMessage _ port _ => decide (port < 8)
  | .braidLaneDown _ => true
  | .braidFrameDiscard _ _ => true
  | .braidAckFrame _ _ => true
  | .loopAliveToggle _ => true
  | .actWaitExpiry _ => true

end Sys2Proof
end

