-- ==== Sys2Proof/Tests/Slice0.lean ====
section
/-! SUPPORT. The tests of the model: commands that WellFormed refuses, and single steps whose results the spec gives. -/

open Sys2Proof Sys2Proof.Machine

set_option Elab.async false

namespace Sys2Proof.Tests

/-- The session of the tests: role 3 on SPI. -/
def demoSession : Session :=
  { sid := 1, transport := .spi, assoc := 0, role := 3, credential := 7, maxPayload := 8176, high := 0, seen := 1,
    cached := [], outstanding := [], last := 0 }

/-- A running half in a mode: every domain powered, PLLs locked, both views valid, sixty seconds of counter time, PCIe
enumerated, the session of the tests open. -/
def demo (m : Mode) : State :=
  { State.reset with
    board := { vbat := true }
    sys := { mode := m, prev := .boot, started := true, token := true }
    pmu := { powered := 0xFFE, lock := 0x1F, vbatMv := 3000 }
    pcie := { linkUp := true, enumerated := true, memorySpace := true, msix := true, vmask := 0 }
    vcp := { sessions := [demoSession], enable := true, ready := true }
    tim := { counter := 60 * tickS, servo := { valid := true }, legal := { valid := true } }
    rtc := { ticks := 60 * tickS }
    log := { running := true }
    adc := { running := true }
    mtr := { running := true }
    pts := { running := true }
    lpe := { running := true }
    out := { undriven := false } }

/-- The command of the tests: over SPI, in the session, the next sequence. -/
def ask (p : Bytes) : Cmd :=
  { transport := .spi, assoc := 0, tag := 4, rspBuf := 0, flags := 0, seq := 1, sid := 1, payload := p, host := none }

/-- What the body of such a command sees. -/
def seen (p : Bytes) : Call :=
  { payload := p, limit := 16384, cap := 16384, dmaOut := false, transport := .spi, assoc := 0, seq := 1, sid := 1,
    role := 3, credential := 7, tag := 4, rspBuf := 0, flags := 0, config := false }

/-- A converged estimate of the present second. -/
def demoEstimate : Estimate :=
  { job := 1, time := 0, states := [], converged := true, mUsed := 1, mBound := 1, resid := 0 }

/-- A summary of a capture in progress. -/
def demoSummary (short : Bool) : Summary :=
  { cause := 1, detail := 2, short := short, released := false, second := false, legal := {}, counter := 3, opsec := 4,
    cycles := 5, firmware := 6, mode := .steer, slot := false, index := 0, dumpBytes := 0, dumpHash := [],
    windows := [], records := [], free := 0 }

/-- The state after a command; the state before it where it answers none. -/
def after (c : Instr) (s : State) : State := match exec c s with
  | .next t => t
  | .fault _ => s
  | .refused _ => s

/-- The status of the last response that a command got. -/
def statusAfter (c : Instr) (s : State) : Option Half :=
  ((after c s).sent.filterMap (fun e => match e with
    | .response _ _ _ _ _ _ st _ _ _ => some st
    | _ => none)).getLast?

/-- The payload of that response. -/
def answerOf (c : Instr) (s : State) : Option Bytes :=
  ((after c s).sent.filterMap (fun e => match e with
    | .response _ _ _ _ _ _ _ p _ _ => some p
    | _ => none)).getLast?

/-! ### WellFormed refuses -/

/-- A command packet that breaks one of the three checks on packets. -/
def longAsk : Cmd := { ask (zeros 65536) with transport := .udp }
def ringAsk : Cmd := { ask [] with transport := .pcie, assoc := 8 }

/-- A frame of 9 bytes, which no format carries. -/
def oddFrame : CanFrame := { ide := false, id := 0, fd := true, brs := false, esi := false, remote := false, data := zeros 9 }

/-- An Announce of a grandmaster one step away. -/
def demoAnnounce : Announce :=
  { grandmaster := ⟨128, 6, 0x21, 0x4E5D, 128, 5⟩, steps := 1, sender := 5, senderPort := 1, utcOffset := 37
    utcValid := true, li61 := false, li59 := false, dayEnd := 86400 }

/-- One ill-formed command for each check on numbers. -/
def illNumbers : List Instr :=
  [.temperatureSample 0 [], .vbatMeasure 0 65536, .tripActiveEdge 0 32 3, .mtrAccLRead 0 0x400000 1, .timCntLRead 0 0 0,
   .cmdSqDoorbell 0 8 0, .cmdRingWrite 0 8 0, .cmdCqHeadWrite 0 8 0, .evtVarmWrite 0 2 0, .evtMaskWrite 0 6 0,
   .flagClearWrite 0 0x150000 0 0, .flagClearWrite 0 2 0 0, .registerWrite 0 0x400000 [0], .registerWrite 0 0 [],
   .msixVectorUnmask 0 (some 64), .evtHoldoffExpiry 0 64, .calibrationIdleExpiry 0 256,
   .sarConversionDone 0 2 0 ⟨false, false⟩, .sarConversionDone 0 0 65536 ⟨false, false⟩,
   .meteringSample 0 32 0 ⟨false, false⟩, .meteringSample 0 0 8388608 ⟨false, false⟩,
   .urgentConversionDone 0 2 0 ⟨false, false⟩, .urgentConversionDone 0 0 65536 ⟨false, false⟩,
   .countingEdge 0 32 true true, .thermalTick 0 12, .pulseEmit 0 16, .sensorIdentityRead 0 12 []]

/-- More of them. -/
def illPlaces : List Instr :=
  [.slotWindowStart 0 65536, .throttleExpiry 0 65536, .unitSilent 0 65536, .courseSwap 0 2, .periodTrigger 0 2,
   .eventTrigger 0 32, .jobStart 0 2, .workAreaAvailable 0 2, .jobDeadline 0 2, .scheduleStall 0 2, .jobEnd 0 2,
   .pendingJobStart 0 2, .loopEvaluation 0 1024, .statusPortRead 0 8, .canDueInstant 0 16 0, .canDueInstant 0 0 128,
   .canArbitrationEnd 0 16 true, .canFrameEnd 0 16 none, .canBusOff 0 16, .canBusOffRecovery 0 16,
   .canBusIntegration 0 16, .ptpSync 0 8 ⟨false, 0, 0⟩, .ptpSync 0 0 ⟨false, 0, 2 ^ 63⟩, .announceReceiptTimeout 0 8, .sgmiiLinkChange 0 8 true 0,
   .sgmiiLinkChange 0 0 true 3, .prpSupervision 0 2, .keyOperationDone 0 256, .tripInputInactive 0 32,
   .ethernetLinkChange 0 8 true, .canReceiveError 0 16 .crc 1, .canReceiveError 0 0 .crc 2,
   .ptpMessageInterval 0 8 .sync, .ptpDelayMessage 0 8 .pdelayReq,
   .jobIterationEnd 0 2 ⟨[], [], false, false⟩, .mainSuppliesValid 0 (some 13),
   .pwrfail 0 (.vmon 900 2000) false [(.trip 32, true)] none]

/-- One ill-formed command for each check on what a command carries. -/
def illContents : List Instr :=
  [.sysNop 0 ringAsk, .sqEntryFetch 0 8 ⟨none, none, none, false⟩, .sqEntryFetch 0 0 ⟨some [0], none, none, false⟩,
   .vcpDtlsHandshake 0 ⟨0, 8, true, true, []⟩, .vcpDtlsRecord 0 ⟨0, 8, true, [], false⟩,
   .uppClientHello 0 ⟨true, 8, 0, true, true, none, none⟩, .uppClientHello 0 ⟨true, 0, 0, true, true, some 65536, none⟩,
   .uppDatagram 0 ⟨true, 8, 0, true, []⟩, .uppDatagram 0 ⟨true, 0, 65536, true, []⟩,
   .netFrameReceived 0 ⟨8, 64, true, 0, false, 0, none, 0⟩, .netFrameReceived 0 ⟨0, 64, true, 0, false, 0, none, 4⟩,
   .netFrameReceived 0 ⟨0, 64, true, 0, false, 0, some 65536, 0⟩, .adcSyscal 0 (ask []) ⟨1, 2147483648, false⟩,
   .canFrameReceived 0 0 0 { oddFrame with id := 2048, data := [] }, .canFrameReceived 0 0 0 oddFrame,
   .canFrameReceived 0 16 0 { oddFrame with data := [] }, .ptpAnnounce 0 8 demoAnnounce,
   .ptpAnnounce 0 0 { demoAnnounce with senderPort := 65536 }, .jobEndFrame 0 ⟨0, 0, 0⟩ 0 [], .compare 0 ⟨0, 0, 0⟩ 0 [] 1,
   .compare 0 ⟨0, 0, 0⟩ 0 (zeros 48) 4, .deltaFrame 0 ⟨0, 0, 0⟩ [], .declareFrame 0 ⟨0, 0, 0⟩ [],
   .bulkTransferDone 0 (.course 2 []), .bulkTransferDone 0 (.iterate 2 [] 0 0 0 [] []),
   .pcieConfigWrite 0 (.vector 64 0 0 true), .pairStatusFrame 0 ⟨0, 0, 0⟩ ⟨none, [], some (0, []), [], none⟩,
   .pairStatusFrame 0 ⟨0, 0, 0⟩ ⟨none, [], none, [], some 65⟩,
   .jobStartFrame 0 ⟨0, 0, 0⟩ ⟨false, 0, false, none, [], 0, []⟩,
   .heartbeat 0 ⟨0, 0, 0⟩ ⟨12, false, false, false, false, 0, 0, 0, 0, 0, zeros 16, zeros 16, zeros 16, 0⟩,
   .heartbeat 0 ⟨0, 0, 0⟩ ⟨11, false, false, false, false, 0, 0, 0, 0, 0, [], zeros 16, zeros 16, 0⟩]

/-- Every one of them is refused, and so is a payload that a u16 length cannot name. -/
theorem test_wellFormed_refuses :
    (illNumbers ++ illPlaces ++ illContents).all (fun i => !wellFormed i) = true ∧ wellFormed (.sysNop 0 longAsk) = false := by
  decide +kernel

/-- The last number of each kind is well formed. -/
theorem test_wellFormed_accepts :
    [Instr.tripActiveEdge 0 31 3, .evtMaskWrite 0 5 0, .loopEvaluation 0 1023, .canDueInstant 0 15 127,
     .flagClearWrite 0 0x14FFFC 0 0, .sysNop 0 (ask [1]), .netFrameReceived 0 ⟨7, 64, true, 0, false, 0, some 65535, 3⟩].all
      wellFormed = true := by
  decide +kernel

/-! ### Words and digests -/

/-- The check value of R32. -/
theorem test_crc32c_check_value : crc32c (ascii "123456789") = 0xE3069283 := by decide +kernel

/-- SHA-384 of "abc" (FIPS 180-4's example). -/
theorem test_sha384_abc : (sha384 (ascii "abc")).take 8 = [0xCB, 0x00, 0x75, 0x3F, 0x45, 0xA3, 0x5E, 0x8B] := by
  decide +kernel

/-! ### The queue -/

/-- An empty queue idles. -/
theorem test_empty_queue_idles : step State.reset = .next State.reset := by rfl

/-- The front command runs and leaves the rest. -/
theorem test_step_takes_front :
    (match step { demo .steer with pending := [.loopAliveToggle 0, .shortSummary 0] } with
      | .next t => decide (t.pending = [.shortSummary 0] ∧ t.lpe.alive = true)
      | _ => false) = true := by
  decide +kernel

/-- No word spells a command: the table gives no bits. -/
theorem test_no_words : decodeTableWord 32 0 = none ∧ (State.reset.withFetchWord 32 0).pending = [] := ⟨rfl, rfl⟩

/-! ### Acceptance (R33) -/

/-- SYS_NOP echoes its payload. -/
theorem test_nop_echoes : answerOf (.sysNop 0 (ask [1, 2, 3])) (demo .steer) = some [1, 2, 3] := by decide +kernel

/-- The statuses of steps 3, 5, 6, 8, 10 and 12 of R33. -/
theorem test_refusals :
    statusAfter (.sysNop 0 { ask [] with flags := 1 }) (demo .steer) = some 0x0104 ∧
    statusAfter (.sysNop 0 { ask [] with sid := 9 }) (demo .steer) = some 0x0201 ∧
    statusAfter (.sysNop 0 { ask [] with seq := 0x80000001 }) (demo .steer) = some 0x0109 ∧
    statusAfter (.outSet 0 (ask (zeros 8))) (demo .steer) = some 0x0205 ∧
    statusAfter (.outBind 0 (ask [0, 0, 0])) (demo .service) = some 0x0106 ∧
    statusAfter (.outBind 0 (ask [112, 0, 0, 0])) (demo .service) = some 0x0301 := by
  decide +kernel

/-- A role below the opcode's ends with ST_ROLE, and with no other trace. -/
theorem test_role :
    statusAfter (.sysDeviceReset 0 (ask [0x21, 0, 0x56, 0x5A]))
      { demo .steer with vcp := { sessions := [{ demoSession with role := 2 }] } } = some 0x0204 := by
  decide +kernel

/-- A repeated sequence gets its cached response again with DUP set (R42). -/
theorem test_duplicate_gets_dup :
    ((after (.sysNop 0 (ask [5])) (after (.sysNop 0 (ask [5])) (demo .steer))).sent.filterMap (fun e => match e with
      | .response _ _ _ _ _ f _ p _ _ => some (f, p)
      | _ => none)) = [(1, [5]), (9, [5])] := by
  decide +kernel

/-! ### Power, time, modes -/

/-- PWRFAIL ends in VAULT with the hold-up marker complete (R91). -/
theorem test_pwrfail :
    let t := after (.pwrfail 0 (.vmon 900 2000) false [] none) (demo .steer)
    t.sys.mode = .vault ∧ t.pmu.markerDone = true := by
  decide +kernel

/-- One second of ticks is one second of SERVO and LEGAL time (R332). -/
theorem test_second : (servo ((demo .steer).elapse tickS)).s = 61 ∧ (legal ((demo .steer).elapse tickS)).ns = 0 := by
  decide +kernel

/-- While the TIME PLL is unlocked the counter moves on the 40 ns grid (R88). -/
theorem test_grid : (({ demo .steer with tim := { (demo .steer).tim with degraded := true } }).elapse 19).tim.counter = 60 * tickS + 10 := by
  decide +kernel

/-- MODE_GET names STEER (5) and the mode before, BOOT (1) (R61). -/
theorem test_mode_get : (answerOf (.modeGet 0 (ask [])) (demo .steer)).map (·.take 2) = some [5, 1] := by decide +kernel

/-! ### Trips, outputs, counting, recorder -/

/-- An active pulse of 3 ns latches a trip (R301). -/
theorem test_trip_pulse :
    let s := { demo .steer with slc := { locals := 0xFFFFFFFF } }
    (after (.tripActiveEdge 0 4 3) s).slc.latch = 0x10 := by
  decide +kernel

/-- A trip is released by its mask once its input is inactive (R303). -/
theorem test_release : answerOf (.slcRelease 0 (ask [1, 0, 0, 0])) { demo .steer with slc := { latch := 3 } } = some (le32 2) := by
  decide +kernel

/-- A rising edge counts in mode 0, a falling one does not (R121). -/
theorem test_counting :
    let s := { demo .steer with adc := { running := true, records := [(96, { enable := true })] } }
    (countingOf (after (.countingEdge 0 0 true true) s) 0).fwd = 1 ∧ (countingOf (after (.countingEdge 0 0 false true) s) 0).fwd = 0 := by
  decide +kernel

/-- A report on an empty FIFO takes index 0 of the permanent area (R428). -/
theorem test_first_record :
    ((after (.recorderReport 0 3 1 2 4) (demo .steer)).log.fifo.map (fun e => (e.record.index, e.record.code, e.begun))) =
      [(0, 3, true)] := by
  decide +kernel

/-- OUT_BIND writes the binding it names (R296). -/
theorem test_out_bind :
    tget (after (.outBind 0 (ask [47, 0, 0xFF, 3])) (demo .service)).out.binding 47 0xFFFF = 1023 := by
  decide +kernel

/-- A 10 Gbit/s port comes up (R20). -/
theorem test_ethernet_link :
    (netPort (after (.ethernetLinkChange 0 0 true) (demo .steer)) 0).up = true ∧
    (netPort (after (.ethernetLinkChange 0 0 true) (demo .steer)) 0).speed = 3 := by
  decide +kernel

/-- EVT_VARM of a vector with nothing signalling arms it (R454). -/
theorem test_varm :
    (after (.evtVarmWrite 0 0 1) { demo .steer with evt := { armed := 0 } }).evt.armed = 1 := by
  decide +kernel

/-- A sensor read after a day that no chip answers is NO_ANSWER (2) (R152). -/
theorem test_no_chip :
    let s := { demo .steer with mtr := { running := true, channels := [(0, { record := { kind := 3 } })] } }
    (mtrChan (after (.sensorIdentityRead (86400 * tickS) 0 []) s) 0).identity = 2 := by
  decide +kernel

/-- A KEY_DERIVE from a slot that is EMPTY passes the checks of values and meets ST_NOT_FOUND (R385). -/
theorem test_derive_from_empty_parent :
    treeFits State.reset 8 9 polDerive = true ∧ parentCheck State.reset 8 9 polDerive = some stNotFound := by decide

/-- VMON for less than 2 us asserts no PWRFAIL (R90). -/
theorem test_short_dip :
    (after (.pwrfail 0 (.vmon 900 1999) false [] none) (demo .steer)).sys.mode = .steer := by decide +kernel

/-- Three balls where R461 puts them. -/
theorem test_balls :
    ballsOf { name := "PCIE_PERST_N" } = [(2, 6)] ∧ signalAt 42 20 = { name := "VSS" } := by decide +kernel

end Sys2Proof.Tests
end

