-- ==== Sys2Proof/Tests/Witnesses.lean ====
section
/-! SUPPORT. For every statement with hypotheses, states and operands that meet them, clause by clause. -/

open Sys2Proof Sys2Proof.Machine

set_option Elab.async false

namespace Sys2Proof.Tests

/-- The start HOLD with both courses committed and a fit estimate. -/
def demoStart : State :=
  { demo .hold with
    sys := { (demo .hold).sys with startMove := true, contact := some 0 }
    courses := [(0, { resident := some ⟨0, []⟩ }), (1, { resident := some ⟨0, []⟩ })]
    pln := { estimate := some { demoEstimate with time := 60000000000 } } }

/-- A packet with its CRC, as PCIe and SPI carry it (R29, R32). -/
def sealed (b : Bytes) : Bytes := b ++ le32 (crc32c b).toNat

/-- A SYS_NOP packet of the test session, before its CRC. -/
def nopPacket (sid : Byte) : Bytes := [0x56, 0x5A, 1, 0, 1, 0, 0, 0, 4, 0, 0, 0, sid, 0, 0, 0]

/-- A SES_OPEN of role 0 without a proof, on PCIe: command and call. -/
def openPayload : Bytes := zeros 44
def openAsk : Cmd :=
  { transport := .pcie, assoc := 0, tag := 9, rspBuf := 4096, flags := 0, seq := 5, sid := 0, payload := openPayload,
    host := none }
def openSeen : Call :=
  { payload := openPayload, limit := 16384, cap := 4072, dmaOut := false, transport := .pcie, assoc := 0, seq := 5,
    sid := 0, role := 0, credential := 0, tag := 9, rspBuf := 4096, flags := 0, config := false }

/-- A half with an association, its server certificate and a client key. -/
def demoUdp : State :=
  { demo .steer with
    vcp := { (demo .steer).vcp with assocs := [(2, { port := 0, credential := 1 })] }
    key := { slots := [(1, { state := 1 })], roles := [(1, { role := 3, alg := 1, key := [1] })] }
    cfg := { chain := [1] } }

/-- A half with commands in a ring. -/
def demoRing : State :=
  { demo .steer with
    vcp := {
      sessions := [{ demoSession with transport := .pcie, assoc := 7 }], enable := true, ready := true
      rings := [(7, { en := true, sqt := 1 })] } }

/-- An owned part with a slot for each policy. -/
def demoOwned : State :=
  { demo .service with
    key := {
      fuses := 3, root := some (zeros 48), roles := [(63, { role := 3, alg := 1, key := [1] })]
      slots := [(8, { parent := 0, state := 1, policy := 1 }), (9, { parent := 0, state := 1, policy := 2 })] } }

/-- A half in an update. -/
def demoUpd (m : Mode) (stage : Nat) : State :=
  { demo m with upd := { stage := stage, bytes := 65536, version := 1, hash := zeros 48 } }

/-- A half armed for the present second. -/
def demoArmed (m : Mode) (paired lock : Bool) : State :=
  { demo m with
    upd := { stage := 4, arm := some { s := 60, valid := true }, lock := lock, waiting := none }
    brd := { record := { paired := paired }, link := 2 } }

/-- A configuration image without records, and one whose first record is cut short. -/
def stagedEmpty : Memory := memStore [] 0 (le32 0x47465A56 ++ le16 1 ++ le16 0)
def stagedCut : Memory := memStore [] 0 (le32 0x47465A56 ++ le16 1 ++ le16 0 ++ le32 0 ++ le32 4)

/-- A record in the FIFO whose write has begun. -/
def demoIntake (begun : Bool) : Intake :=
  { partner := false, begun := begun, record :=
    { index := 2047, opsec := 0, cycle := 0, code := 1, subject := 0, legalS := 0, legalNs := 0, repeats := 0, aux := 0,
      data := 0 } }

/-- A half with a port in a state, with its record. -/
def demoPort (p state : Nat) (r : PtpRecord) : State :=
  { demo .hold with tim := { (demo .hold).tim with ports := ptpFactory.set p { record := r, state := state } } }

/-- A thermal channel whose last tick had both temperatures, and what its chip answers. -/
def thermalChan (serial : Option Bytes) : MtrChan :=
  { record := { kind := 3, flowSrc := 0, flowIdx := 0 }, serial := serial
    thermal := { nF := 1, countF := 1, sumF := 80, nR := 1, countR := 1, sumR := 40 } }
def chip : Bytes := sealed ([1, 0, 1, 0] ++ zeros 16 ++ le32 20000 ++ le16 240 ++ zeros 34)
def demoThermal (m : Mode) (serial : Option Bytes) : State :=
  { demo m with mtr := { running := true, expiryJudged := true, channels := [(11, thermalChan serial)] } }

/-- A process channel that has a sample. -/
def demoSample : Sample := { raw := 1, v := 2, eng := 0, flags := 0, ts := {}, tick := 0 }

/-- A unit that may report at any time, with its association. -/
def demoUnit : State :=
  { demo .steer with
    pts := { running := true, assocs := [4095], units := [(4095, { enable := true, anySlot := true, balance := 1024 })] } }

/-- A REPORT of unit 4095 with one record. -/
def reportBytes : Bytes :=
  [0x55, 0x50, 1, 1, 0xFF, 0x0F, 1, 0] ++ le32 1 ++ zeros 20 ++ [1, 0, 0, 0] ++ le32 0x3F800000

/-- A datagram in the queue, and a resident point. -/
def demoDatagram : Datagram :=
  { unit := 4095, report := true, seq := 1, time := 0, timeValid := true, arrived := 0, servoValid := true,
    records := [{ index := 1, qual := 0, age := 0, value := 5 }], bytes := 128 }
def demoPoint : Point := { ident := 0x20001 }

/-- A PTS_SNAPSHOT of one position with DMA_OUT, and its call. -/
def snapshotAsk : Cmd :=
  { transport := .pcie, assoc := 7, tag := 4, rspBuf := 28, flags := 4, seq := 1, sid := 1, host := none
    payload := le32 0 ++ le32 1 ++ (le16 1 ++ le16 0 ++ le32 64) ++ (le64 0 ++ le32 64 ++ le32 0) }
def snapshotSeen : Call :=
  { payload := le32 0 ++ le32 1, limit := 268435456, cap := 64, dmaOut := true, transport := .pcie, assoc := 7, seq := 1,
    sid := 1, role := 3, credential := 7, tag := 4, rspBuf := 28, flags := 4, out := [(0, 64)], config := false }

/-- A half with a course image in both partitions, a job in a partition. -/
def demoJob (m : Mode) (img : Memory) (phase : Nat) (ended : Option Half) : State :=
  { demo m with
    courses := [(0, { resident := some ⟨0, img⟩ })]
    slv := { running := [(0, { job := ⟨1, false, .run, none, 0⟩, record := defaultRecord false, phase := phase,
                               d := some 0, ended := ended })] } }

/-- A half that may plan. -/
def demoPlan : State :=
  { demo .steer with
    courses := [(1, { resident := some ⟨0, []⟩ })]
    pln := { estimate := some { demoEstimate with time := 60000000000 }, lowSeen := true, events := 8 } }

/-- An open load of the test session, and a ledger with a transient step. -/
def demoLoad : CourseLoad := { sid := 1, bytes := 1048576, signature := zeros 16, image := [], blocks := [] }
def demoLedger : Ledger :=
  { number := 1, job := 1, t0 := 60, stepS := 3600, horizon := 1, signature := [], published := 0,
    values := [(65535, [(5, 8)])] }
def demoResult : JobResult :=
  { job := 1, plan := false, status := 0, warm := 8, iterations := 1, replaced := 0, pivots := [], hash := zeros 48,
    withdrawn := false }

/-- A recorded forecast, a day old. -/
def demoForecast : Forecast := { payload := [1, 2, 0, 0] ++ zeros 16 ++ le32 0, time := 0, days := 0 }

/-- A PID slot on channel 32, and a half that evaluates it. -/
def pidRecord : Bytes :=
  [0, 0, 0, 0] ++ le32 0 ++ le32 32 ++ le32 0 ++ [0xFF, 0, 0, 0] ++ le32 4 ++ le32 0 ++ le16 0 ++ le16 1
    ++ le32 0x3F800000 ++ le32 0 ++ le32 0 ++ le32 0x41200000 ++ le32 0 ++ le32 0x3F800000 ++ le32 0 ++ le32 0 ++ le32 0
    ++ le32 0 ++ le32 0x3F800000 ++ le32 0 ++ le32 0xFFFFFFFF ++ le32 0 ++ le32 0 ++ le32 0
def demoLoop (m : Mode) (enabled fe : Bool) : State :=
  { demo m with
    adc := { running := true, records := [(32, { enable := true })], samples := [(32, { demoSample with tick := 60 * tickS })] }
    lpe := {
      running := true, slots := [(1023, { record := pidRecord, enabled := enabled, fe := fe })]
      traces := [(7, { state := 3, samples := [1] })] } }

/-- A channel's timing, an object's record, and a half with the object on channel 15. -/
def canTiming : Bytes := [1, 1, 0, 0, 1, 0, 63, 0, 16, 16, 1, 5, 4, 4, 0, 0]
def canRecord (src : Byte) (period : Nat) : Bytes :=
  [1, 0, 0, 15] ++ le32 0x7FF ++ le32 0 ++ [8, src, 1, 0] ++ le32 (if src = 0 then 0 else 0x20001) ++ le32 period ++ le32 0
    ++ [0, 4, 0, 0] ++ le32 0x3F800000 ++ zeros 76
def canDemoFrame : CanFrame := { ide := false, id := 0x7FF, fd := false, brs := false, esi := false, remote := false, data := zeros 8 }
def canTaken (won : Bool) : CanActive := { object := 127, won := won, start := 0, live := true, frame := canDemoFrame }
def demoCan (src : Byte) (period state : Nat) (active : Option CanActive) : State :=
  { demo .steer with
    pts := { running := true, points := [(0, { ident := 0x20001, stored := 0, updated := true })] }
    can := { channels := [(15, {
      record := canTiming, active := active
      objects := [(127, { record := canRecord src period, state := state, data := some canDemoFrame })] })] } }
def demoChannel (busOff integrating : Bool) (tec : Nat) : State :=
  { demo .steer with can := { channels := [(15, {
    record := canTiming, busOff := busOff, integrating := integrating, tecount := tec })] } }

/-- A heartbeat and a paired half. -/
def demoBeat (digest : Bytes) : Beat :=
  { mode := 4, holds := false, leaseValid := true, resetPending := false, plantTrip := false, firmware := 0, ledger := 0,
    topJob := 0, health := 0, cfgSeq := 0, cfgDigest := digest, sig0 := zeros 16, sig1 := zeros 16, offsetNs := 0 }
def demoPair (m : Mode) (token ownIn : Bool) : State :=
  { demo m with
    board := { vbat := true, alone := false, ownIn := ownIn }
    sys := { (demo m).sys with token := token }
    key := { slots := [(8, { state := 1, policy := polBraid })] }
    brd := { record := { paired := true, pairId := 5 }, link := 2, pmode := some 4,
             beat := some (demoBeat (configDigest State.reset)) } }

/-- Frames in order. -/
def nextHead : BraidHead := { seq := 1, ack := 0, tagged := 0xFFFF }
def demoSnap : SlotSnap := { i := 1, u := 2, yPrev := 3, ddPrev := 4, sp := 5 }
def demoUpdate : PairUpdate := { release := none, identity := [], policy := some (0x101, zeros 48), jobs := [], part := some 9 }
def demoMirror (ident : Nat) : MirrorPoint :=
  { ident := ident, reportSeq := 1, value := 2, quality := 0, sample := 3, hostPin := none }
def demoPartnerRecord : PartnerRecord :=
  { opsec := 1, cycle := 2, code := 3, subject := 4, legalS := 5, legalNs := 6, repeats := 7, aux := 8, data := 9 }
def demoStartInfo : JobStartInfo :=
  { plan := false, number := 9, wide := false, deadline := none, record := defaultRecord false, estimate := 0,
    startHash := zeros 48 }

/-- A half in SHADOW that follows job 1 of partition 0. -/
def demoShadow : State :=
  { demoPair .shadow false true with
    courses := [(0, { resident := some ⟨0, []⟩ })]
    slv := { running := [(0, { job := ⟨1, false, .partner, none, 0⟩, record := defaultRecord false, phase := 3 })] }
    pts := { running := true, points := [(0, demoPoint)] }
    lpe := { running := true, slots := [(5, { record := pidRecord })] } }

/-- A half whose database is full. -/
def demoFull (m : Mode) : State :=
  { demo m with
    pts := { running := true, points := List.replicate pointLimit (0, demoPoint) }
    brd := { link := 2 } }
theorem demoFull_room (m : Mode) (l : List Nat) (h : 0x20001 ∉ l ∧ l ≠ []) : roomFor ((demoFull m).elapse 0) l = false := by
  have hp : ((demoFull m).elapse 0).pts.points = List.replicate pointLimit (0, demoPoint) := by
    cases m <;> rfl
  have hf : l.filter (fun i => (findPoint ((demoFull m).elapse 0) i).isNone) = l := by
    rw [List.filter_eq_self]
    intro i hi
    have : i ≠ 0x20001 := fun e => h.1 (e ▸ hi)
    simp [findPoint, hp, demoPoint, Ne.symm this]
  have hl : 0 < l.length := List.length_pos_of_ne_nil h.2
  simp only [roomFor, hf, resident, hp, List.length_replicate, decide_eq_false_iff_not]
  omega
theorem tset_full (n : Nat) (p q : Point) : (tset (List.replicate n (0, p)) 1 q).length = n + 1 := by
  induction n with
  | zero => rfl
  | succ n ih => simp [List.replicate_succ, tset, ih]
theorem demoFull_declare (m : Mode) (l : List Bytes)
    (h : l ≠ [] ∧ ∀ d ∈ l.take 1, u8 d 5 ≠ 1 ∧ u32 d 0 ≠ 0x20001) :
    declareAll ((demoFull m).elapse 0).pts.points l = none := by
  have hp : ((demoFull m).elapse 0).pts.points = List.replicate pointLimit (0, demoPoint) := by
    cases m <;> rfl
  have hf : lowestFree (List.replicate pointLimit (0, demoPoint)) 0 = 1 := by decide +kernel
  cases l with
  | nil => exact absurd rfl h.1
  | cons d l =>
    have hd : u8 d 5 ≠ 1 ∧ ¬ 0x20001 = u32 d 0 :=
      ⟨(h.2 d List.mem_cons_self).1, fun e => (h.2 d List.mem_cons_self).2 e.symm⟩
    have hl : (declare (List.replicate pointLimit (0, demoPoint)) d).length = pointLimit + 1 := by
      have hn : (List.replicate pointLimit (0, demoPoint)).any (fun e => decide (e.2.ident = u32 d 0)) = false := by
        rw [List.any_replicate, if_neg (by decide), decide_eq_false]
        exact hd.2
      simp only [declare, if_neg hd.1, hn, addPoint, hf, tset_full, Bool.false_eq_true, ↓reduceIte]
    rw [hp, declareAll, hl, if_pos (Nat.lt_succ_self _)]

/-- An acknowledgement answers the state after it. -/
theorem ack_next (h : BraidHead) (s : State) :
    exec (.braidAckFrame 0 h) s = .next (after (.braidAckFrame 0 h) s) := rfl

/-- The signature of the demo course (R205). -/
def demoSign : Bytes := [26, 194, 35, 110, 110, 123, 205, 128, 189, 16, 3, 101, 185, 228, 72, 169]

/-- An image with two columns, each a supernode of its own, but for its trailer (R197 to R203). -/
def demoHead : Bytes :=
  le32 0x43535A56 ++ le16 1 ++ [0, 0] ++ demoSign ++ le32 1048576 ++ le32 2 ++ le32 2 ++ le32 2 ++ le64 2 ++ le64 0 ++ le32 0
    ++ le32 0 ++ le32 1 ++ le16 0 ++ [16, 9] ++ le32 0 ++ le32 1 ++ zeros 176
def demoEntry (t o n : Nat) : Bytes := le16 t ++ le16 0 ++ le32 o ++ le32 n ++ le32 0
def demoTable : Bytes :=
  demoEntry 1 512 8 ++ demoEntry 2 576 64 ++ demoEntry 3 640 0 ++ demoEntry 4 640 32 ++ demoEntry 6 704 16
    ++ demoEntry 7 768 2 ++ demoEntry 8 832 16 ++ demoEntry 9 896 64 ++ demoEntry 10 960 16 ++ zeros 112
def demoSections : Bytes :=
  le64 (2 ^ 64 - 1) ++ zeros 56
    ++ le32 0 ++ le32 1 ++ zeros 24 ++ le32 1 ++ le32 1 ++ zeros 16 ++ le64 1
    ++ [1, 0, 0, 0] ++ zeros 12 ++ [1, 0, 0, 0] ++ le32 1 ++ zeros 8 ++ zeros 32
    ++ le64 0 ++ le64 1 ++ zeros 48 ++ [0, 1] ++ zeros 62 ++ zeros 64
    ++ zeros 32 ++ le64 0xFFF0000000000000 ++ le64 0xFFF0000000000000 ++ le64 0x7FF0000000000000 ++ le64 0x7FF0000000000000
    ++ le32 0 ++ le32 5 ++ le16 0 ++ [1, 0] ++ zeros 4
def demoCells : Nat → Bytes → Memory
  | _, [] => []
  | a, b :: bs => (a, b) :: demoCells (a + 1) bs
def demoBody : Memory := (demoCells 0 (demoHead ++ demoTable ++ demoSections)).filter (fun e => decide (e.2 ≠ 0))
def demoDigest : Bytes := sha384 (memLoad demoBody 0 1048512)
def demoImage : Memory := demoBody ++ demoCells 1048512 ((List.range 48).map (fun i => demoDigest.getD i 0))
def demoValid : CourseLoad :=
  { sid := 1, bytes := 1048576, signature := demoSign, image := demoImage, blocks := List.range 16384 }
def demoLoaded : State := { demo .hold with courses := [(0, { load := some demoValid })] }

/-- The course on one reach, and without the bounds that leave its columns free. -/
def demoSmall : Memory := memWrite demoBody 70 1
def demoBound : Memory := demoSmall.filter (fun e => decide (e.1 < 928 ∨ 960 ≤ e.1))

/-- A job that iterates on a course. -/
def demoRun (m : Memory) : Running :=
  { job := ⟨1, false, .run, none, 0⟩, record := defaultRecord false, phase := 3, work := m, iterate := coldStart m }
def demoFabric (m : Memory) : State :=
  { demo .hold with courses := [(0, { resident := some ⟨0, m⟩ })], slv := { running := [(0, demoRun m)] } }
def quiet : FabricNotes := { ecc1 := [], busy := [], doubleEcc := false, overrun := false }

theorem sha384_length (x : Bytes) : (sha384 x).length = 48 := by
  have hl : ∀ n v : Nat, (le n v).length = n := by
    intro n
    induction n with
    | zero => intro v; rfl
    | succ k ih => intro v; exact congrArg (· + 1) (ih _)
  simp only [sha384, List.length_append, be, List.length_reverse, hl]
theorem memRead_appended (l r : Memory) (a : Nat) :
    memRead (l ++ r) a = if l.any (fun e => decide (e.1 = a)) then memRead l a else memRead r a := by
  induction l with
  | nil => rfl
  | cons e l ih =>
    simp only [List.cons_append, memRead, List.any_cons, Bool.or_eq_true, decide_eq_true_eq, ih]
    by_cases h : e.1 = a
    · simp [h]
    · simp [h]
theorem memRead_none (l : Memory) (a : Nat) (h : l.any (fun e => decide (e.1 = a)) = false) : memRead l a = 0 := by
  induction l with
  | nil => rfl
  | cons e l ih =>
    simp only [List.any_cons, Bool.or_eq_false_iff, decide_eq_false_iff_not] at h
    rw [memRead, if_neg h.1, ih h.2]
theorem memRead_cells (bs : Bytes) : ∀ a b, memRead (demoCells a bs) b = if a ≤ b then bs.getD (b - a) 0 else 0 := by
  induction bs with
  | nil => intro a b; simp [demoCells]
  | cons x bs ih =>
    intro a b
    rw [demoCells, memRead, ih]
    by_cases e : a = b
    · simp [e]
    · rw [if_neg e]
      by_cases l : a ≤ b
      · obtain ⟨n, rfl⟩ : ∃ n, b = a + 1 + n := ⟨b - (a + 1), by omega⟩
        rw [if_pos (by omega), if_pos l, show a + 1 + n - (a + 1) = n by omega, show a + 1 + n - a = n + 1 by omega,
          List.getD_cons_succ]
      · rw [if_neg (by omega), if_neg l]
theorem getD_bytes (h : Bytes) (n : h.length = 48) : (List.range 48).map (fun i => h.getD i 0) = h := by
  refine List.ext_getElem (by simp [n]) (fun i h1 h2 => ?_)
  simp only [List.getElem_map, List.getElem_range]
  exact (List.getElem_eq_getD 0).symm
theorem demoImage_read (b : Nat) :
    memRead demoImage b = if b < 1048512 then memRead demoBody b else demoDigest.getD (b - 1048512) 0 := by
  have low : demoBody.all (fun e => decide (e.1 < 1048512)) = true := by decide +kernel
  have len : demoDigest.length = 48 := sha384_length _
  rw [demoImage, getD_bytes _ len, memRead_appended, memRead_cells]
  by_cases h : b < 1048512
  · rw [if_pos h, if_neg (by omega : ¬ 1048512 ≤ b)]
    split
    · rfl
    · rename_i n
      exact (memRead_none _ _ (Bool.eq_false_iff.2 n)).symm
  · have no : ¬ demoBody.any (fun e => decide (e.1 = b)) = true := by
      intro m
      obtain ⟨e, he, hb⟩ := List.any_eq_true.1 m
      have := of_decide_eq_true (List.all_eq_true.1 low e he)
      have := of_decide_eq_true hb
      omega
    rw [if_neg no, if_neg h, if_pos (by omega)]
theorem demoValid_signed :
    memLoad demoValid.image (demoValid.bytes - 64) 48 = sha384 (memLoad demoValid.image 0 (demoValid.bytes - 64)) := by
  have hb : demoValid.bytes - 64 = 1048512 := by decide
  have hi : demoValid.image = demoImage := rfl
  have h0 : memLoad demoImage 0 1048512 = memLoad demoBody 0 1048512 := by
    refine List.map_congr_left (fun i hi => ?_)
    rw [demoImage_read, if_pos (by have := List.mem_range.1 hi; omega)]
  have h1 : memLoad demoImage 1048512 48 = demoDigest := by
    refine Eq.trans (List.map_congr_left (fun i hi => ?_)) (getD_bytes demoDigest (sha384_length _))
    rw [demoImage_read, if_neg (by omega), Nat.add_sub_cancel_left]
  rw [hb, hi, h0, h1, demoDigest]
theorem demoValid_ok : commitCheck (demoLoaded.elapse 0) 0 demoValid = none := by
  have h1 : ¬ demoValid.blocks.length ≠ demoValid.bytes / 64 := by decide +kernel
  have h2 : (!headerOk 0 demoValid.bytes demoValid.image) ≠ true := by decide +kernel
  have h3 : (!(countsOk demoValid.image && partTableOk demoValid.bytes demoValid.image && sumsOk demoValid.image)) ≠ true := by
    decide +kernel
  have h4 : (!contentsOk (coursesOf (demoLoaded.elapse 0) 0).resident demoValid.image) ≠ true := by decide +kernel
  have h5 : ¬ (signatureOf demoValid.image ≠ hSignature demoValid.image ∨ signatureOf demoValid.image ≠ demoValid.signature) := by
    decide +kernel
  have h6 : ¬ hReaches demoValid.image ≠ partitionReaches (demoLoaded.elapse 0).slv.reaches 0 := by decide +kernel
  dsimp only [commitCheck]
  rw [if_neg h1, if_neg (not_not_intro demoValid_signed), if_neg h2, if_neg h3, if_neg h4, if_neg h5, if_neg h6]

theorem demoFabric_ends : ∃ q, runningOf (endFaulty 0 (fabricSteps 0 (iterationSteps (demoRun demoSmall))
    (fabricNotes quiet ((demoFabric demoSmall).elapse 0)))) 0 = some q ∧ q.ended = none ∧ q.fab.stage = .done := by
  have h : (runningOf (endFaulty 0 (fabricSteps 0 (iterationSteps (demoRun demoSmall))
    (fabricNotes quiet ((demoFabric demoSmall).elapse 0)))) 0).any
      (fun q => decide (q.ended = none) && decide (q.fab.stage = .done)) = true := by decide +kernel
  obtain ⟨q, hq, he⟩ := (Option.any_eq_true _ _).1 h
  exact ⟨q, hq, by simpa using he⟩

/-- States and operands that meet the hypotheses of PowerOnStarts, clause by clause. -/
theorem witness_PowerOnStarts :
    (∃ (s u : State) (dt : Nat), u = s.elapse dt ∧ (u.sys.mode = .vault ∨ (u.sys.mode = .boot ∧
      u.sys.started = false))) ∧
    (∃ (s u : State) (dt : Nat), u = s.elapse dt ∧ (¬(u.sys.mode = .vault ∨ (u.sys.mode = .boot ∧
      u.sys.started = false)))) ∧
    (∃ (s u : State) (dt : Nat), u = s.elapse dt ∧ (u.sys.mode = .vault ∧ u.pmu.markerDone = true ∧
      u.pmu.clockLost = false)) ∧
    (∃ (s u : State) (dt : Nat), u = s.elapse dt ∧ ¬(u.sys.mode = .vault ∧ u.pmu.markerDone = true ∧
      u.pmu.clockLost = false)) ∧
    (∃ (s u : State) (dt : Nat), u = s.elapse dt ∧ (u.sys.mode = .vault ∧ u.pmu.clockLost = true)) ∧
    (∃ (s u : State) (dt : Nat), u = s.elapse dt ∧ ¬(u.sys.mode = .vault ∧ u.pmu.clockLost = true)) :=
  ⟨⟨demo .vault, _, 0, rfl, by decide +kernel⟩,
    ⟨demo .steer, _, 0, rfl, by decide +kernel⟩,
    ⟨{ demo .vault with pmu := { markerDone := true } }, _, 0, rfl, by decide +kernel⟩,
    ⟨demo .steer, _, 0, rfl, by decide +kernel⟩,
    ⟨{ demo .vault with pmu := { clockLost := true } }, _, 0, rfl, by decide +kernel⟩,
    ⟨demo .steer, _, 0, rfl, by decide +kernel⟩⟩

/-- States and operands that meet the hypotheses of PowerFailEndsInVault, clause by clause. -/
theorem witness_PowerFailEndsInVault :
    (∃ (s u : State) (dt : Nat) (m : SupplyMonitor), u = s.elapse dt ∧ alwaysOn u = true ∧ asserts m = true) ∧
    (∃ (s u : State) (dt : Nat) (m : SupplyMonitor), u = s.elapse dt ∧ asserts m = false) ∧
    (∃ (s u : State) (dt : Nat), u = s.elapse dt ∧ alwaysOn u = true) ∧
    (∃ (s u : State) (dt : Nat), u = s.elapse dt ∧ alwaysOn u = false) :=
  ⟨⟨demo .steer, _, 0, .vmon 999 2000, rfl, by decide +kernel⟩,
    ⟨demo .steer, _, 0, .vmon 1000 2000, rfl, by decide +kernel⟩,
    ⟨demo .steer, _, 0, rfl, by decide +kernel⟩,
    ⟨{ demo .steer with pmu := { powered := 0 } }, _, 0, rfl, by decide +kernel⟩⟩

/-- States and operands that meet the hypotheses of ResetsAndPllLocksFollow, clause by clause. -/
theorem witness_ResetsAndPllLocksFollow :
    (∃ (s u : State) (dt ns : Nat), u = s.elapse dt ∧ alwaysOn u = true ∧ 1000 ≤ ns) ∧
    (∃ (s u : State) (dt ns : Nat), u = s.elapse dt ∧ alwaysOn u = true ∧ ns < 100) ∧
    (∃ (s u : State) (dt ns : Nat), u = s.elapse dt ∧ alwaysOn u = true ∧ 100 ≤ ns ∧ ns < 1000) ∧
    (∃ (s u : State) (dt : Nat), u = s.elapse dt ∧ alwaysOn u = true ∧ reachable u = true ∧
      pd u (windowDomain 0) = true) ∧
    (∃ (s u : State) (dt : Nat) (v : Word), u = s.elapse dt ∧ alwaysOn u = true ∧ u.sys.resetWanted = none ∧
      (reachable u = false ∨ pd u (windowDomain 0) = false ∨ v ≠ 0x5A560021)) ∧
    (∃ (s u : State) (dt : Nat) (c : Cmd) (call : Call), u = s.elapse dt ∧ alwaysOn u = true ∧
      Accepted rowSysDeviceReset c u call ∧ call.payload.length = 4 ∧ u32 call.payload 0 = 0x5A560021) ∧
    (∃ (s u : State) (dt : Nat) (c : Cmd) (call : Call), u = s.elapse dt ∧ alwaysOn u = true ∧
      Accepted rowDmpRelease c u call ∧ call.payload = []) ∧
    (∃ (s u : State) (dt : Nat) (p : Pll), u = s.elapse dt ∧ pllLocked u p = true) ∧
    (∃ (s u : State) (dt : Nat), u = s.elapse dt ∧ pllLocked u .time = true) ∧
    (∃ (s u : State) (dt : Nat), u = s.elapse dt ∧ pllLocked u .fab = true ∧ fabAgain u = false) ∧
    (∃ (s u : State) (dt : Nat) (p : Pll), u = s.elapse dt ∧ pllLocked u p = true ∧ (p = .fab ∧
      fabAgain u = true ∨ p = .sys ∨ p = .app ∨ p = .loop) ∧ mOps u.sys.mode = true ∧ u.sys.stopped = false ∧
      u.dmp.capturing = none) ∧
    (∃ (s u : State) (dt : Nat) (p : Pll), u = s.elapse dt ∧ pllLocked u p = false) ∧
    (∃ (s u : State) (dt : Nat) (p : Pll), u = s.elapse dt ∧ pllLost u p = true) ∧
    (∃ (s u : State) (dt : Nat) (p : Pll), u = s.elapse dt ∧ pllLost u p = false) :=
  ⟨⟨demo .steer, _, 0, 1000, rfl, by decide +kernel⟩,
    ⟨demo .steer, _, 0, 99, rfl, by decide +kernel⟩,
    ⟨demo .steer, _, 0, 100, rfl, by decide +kernel⟩,
    ⟨demo .steer, _, 0, rfl, by decide +kernel⟩,
    ⟨demo .steer, _, 0, 0x5A560020, rfl, by decide +kernel⟩,
    ⟨demo .steer, _, 0, ask [0x21, 0, 0x56, 0x5A], seen [0x21, 0, 0x56, 0x5A], rfl, by decide +kernel,
      ⟨by decide +kernel, rfl⟩, by decide +kernel⟩,
    ⟨demo .dump, _, 0, ask [], seen [], rfl, by decide +kernel, ⟨by decide +kernel, rfl⟩, by decide +kernel⟩,
    ⟨demo .steer, _, 0, .sys, rfl, by decide +kernel⟩,
    ⟨demo .steer, _, 0, rfl, by decide +kernel⟩,
    ⟨demo .steer, _, 0, rfl, by decide +kernel⟩,
    ⟨demo .steer, _, 0, .loop, rfl, by decide +kernel⟩,
    ⟨{ demo .steer with pmu := { powered := 0xFFE, lock := 0 } }, _, 0, .time, rfl, by decide +kernel⟩,
    ⟨{ demo .steer with pmu := { powered := 0xFFE, lock := 0 } }, _, 0, .time, rfl, by decide +kernel⟩,
    ⟨demo .steer, _, 0, .time, rfl, by decide +kernel⟩⟩

/-- States and operands that meet the hypotheses of HeatBatteryAndFabricAct, clause by clause. -/
theorem witness_HeatBatteryAndFabricAct :
    (∃ (s u : State) (dt : Nat) (sensors : List Half), u = s.elapse dt ∧ alwaysOn u = true ∧ sensors ≠ [] ∧
      everyDue u u.pmu.tempAt tickMs = true ∧ hottest sensors < 1600) ∧
    (∃ (s u : State) (dt : Nat) (sensors : List Half), u = s.elapse dt ∧ alwaysOn u = true ∧ sensors ≠ [] ∧
      everyDue u u.pmu.tempAt tickMs = true ∧ 1600 ≤ hottest sensors ∧ hottest sensors < 1760) ∧
    (∃ (s u : State) (dt : Nat) (sensors : List Half), u = s.elapse dt ∧ alwaysOn u = true ∧ sensors ≠ [] ∧
      everyDue u u.pmu.tempAt tickMs = true ∧ 1760 ≤ hottest sensors ∧ (u.pmu.hot && !u.pmu.fabBarred) = false) ∧
    (∃ (s u : State) (dt : Nat) (sensors : List Half), u = s.elapse dt ∧ alwaysOn u = true ∧ sensors ≠ [] ∧
      everyDue u u.pmu.tempAt tickMs = true ∧ 1760 ≤ hottest sensors ∧ (u.pmu.hot && !u.pmu.fabBarred) = true) ∧
    (∃ (s u : State) (dt : Nat) (sensors : List Half), u = s.elapse dt ∧
      (alwaysOn u = false ∨ sensors = [] ∨ everyDue u u.pmu.tempAt tickMs = false)) ∧
    (∃ (s u : State) (dt : Nat), u = s.elapse dt ∧ alwaysOn u = true ∧ everyDue u u.pmu.vbatAt tickS = true) ∧
    (∃ (s u : State) (dt : Nat), u = s.elapse dt ∧ (alwaysOn u = false ∨ everyDue u u.pmu.vbatAt tickS = false)) ∧
    (∃ (s u : State) (dt : Nat), u = s.elapse dt ∧ pd u 6 = true ∧ fabricBusy false u = false ∧
      passed u u.pmu.fabAIdle (u.pmu.fabLinger * tickMs) = true) ∧
    (∃ (s u : State) (dt : Nat), u = s.elapse dt ∧ pd u 7 = true ∧ fabricBusy true u = false ∧
      passed u u.pmu.fabBIdle (u.pmu.fabLinger * tickMs) = true) ∧
    (∃ (s u : State) (dt : Nat), u = s.elapse dt ∧
      (pd u 6 && !fabricBusy false u && passed u u.pmu.fabAIdle (u.pmu.fabLinger * tickMs)) = false) ∧
    (∃ (s u : State) (dt : Nat), u = s.elapse dt ∧
      (pd u 7 && !fabricBusy true u && passed u u.pmu.fabBIdle (u.pmu.fabLinger * tickMs)) = false) :=
  ⟨⟨demo .steer, _, 0, [1599], rfl, by decide +kernel⟩,
    ⟨demo .steer, _, 0, [1600], rfl, by decide +kernel⟩,
    ⟨demo .steer, _, 0, [1760], rfl, by decide +kernel⟩,
    ⟨{ demo .steer with pmu := { powered := 0xFFE, lock := 0x1F, hot := true } }, _, 0, [1760], rfl,
      by decide +kernel⟩,
    ⟨demo .steer, _, 0, [], rfl, by decide +kernel⟩,
    ⟨demo .steer, _, 0, rfl, by decide +kernel⟩,
    ⟨{ demo .steer with pmu := { powered := 0 } }, _, 0, rfl, by decide +kernel⟩,
    ⟨demo .steer, _, 0, rfl, by decide +kernel⟩,
    ⟨demo .steer, _, 0, rfl, by decide +kernel⟩,
    ⟨{ demo .steer with pmu := { powered := 0xFFE, lock := 0x1F, fabAIdle := 60 * tickS } }, _, 0, rfl,
      by decide +kernel⟩,
    ⟨{ demo .steer with pmu := { powered := 0xFFE, lock := 0x1F, fabBIdle := 60 * tickS } }, _, 0, rfl,
      by decide +kernel⟩⟩

/-- States and operands that meet the hypotheses of FatalErrorsAreCaptured, clause by clause. -/
theorem witness_FatalErrorsAreCaptured :
    (∃ (s u : State) (dt : Nat), u = s.elapse dt ∧ alwaysOn u = true ∧ u.sys.mode.live = true ∧
      u.sys.mode ≠ .dump ∧ u.sys.stopped = false ∧ u.dmp.capturing = none) ∧
    (∃ (s u : State) (dt : Nat) (x : Summary), u = s.elapse dt ∧ alwaysOn u = true ∧ u.dmp.capturing = some x) ∧
    (∃ (s u : State) (dt : Nat), u = s.elapse dt ∧ alwaysOn u = true ∧
      (u.sys.mode.live = false ∨ u.sys.mode = .dump ∨ u.sys.stopped = true) ∧ u.dmp.capturing = none) ∧
    (∃ (s u : State) (dt : Nat), u = s.elapse dt ∧ alwaysOn u = false) ∧
    (∃ (s u : State) (dt : Nat) (x : Summary), u = s.elapse dt ∧ u.dmp.capturing = some x ∧ x.short = false ∧
      u.sys.mode.live = true) ∧
    (∃ (s u : State) (dt : Nat) (x : Summary), u = s.elapse dt ∧
      (u.dmp.capturing = none ∨ u.sys.mode.live = false ∨ u.dmp.capturing = some x ∧ x.short = true)) ∧
    (∃ (s u : State) (dt : Nat) (x : Summary), u = s.elapse dt ∧ u.dmp.capturing = some x ∧
      (x.short = true ∨ passed u u.dmp.fatalAt (5 * tickS) = true)) ∧
    (∃ (s u : State) (dt : Nat) (x : Summary), u = s.elapse dt ∧
      (u.dmp.capturing = none ∨ u.dmp.capturing = some x ∧ x.short = false ∧
      passed u u.dmp.fatalAt (5 * tickS) = false)) ∧
    (∃ (s u : State) (dt : Nat), u = s.elapse dt ∧ meteringOn u = true ∧ dspFailsAgain u = false) ∧
    (∃ (s u : State) (dt : Nat), u = s.elapse dt ∧ meteringOn u = true ∧ dspFailsAgain u = true) ∧
    (∃ (s u : State) (dt : Nat), u = s.elapse dt ∧ meteringOn u = false) :=
  ⟨⟨demo .steer, _, 0, rfl, by decide +kernel⟩,
    ⟨{ demo .safe with dmp := { capturing := some (demoSummary false) } }, _, 0, demoSummary false, rfl,
      by decide +kernel⟩,
    ⟨demo .dump, _, 0, rfl, by decide +kernel⟩,
    ⟨{ demo .steer with pmu := { powered := 0 } }, _, 0, rfl, by decide +kernel⟩,
    ⟨{ demo .safe with dmp := { capturing := some (demoSummary false) } }, _, 0, demoSummary false, rfl,
      by decide +kernel⟩,
    ⟨demo .safe, _, 0, demoSummary false, rfl, by decide +kernel⟩,
    ⟨{ demo .safe with dmp := { capturing := some (demoSummary true) } }, _, 0, demoSummary true, rfl,
      by decide +kernel⟩,
    ⟨{ demo .safe with dmp := { capturing := some (demoSummary false), fatalAt := 60 * tickS } }, _, 0,
      demoSummary false, rfl, by decide +kernel⟩,
    ⟨demo .steer, _, 0, rfl, by decide +kernel⟩,
    ⟨{ demo .steer with mtr := { running := true, failedAt := some (60 * tickS) } }, _, 0, rfl, by decide +kernel⟩,
    ⟨{ demo .steer with pmu := { powered := 0 } }, _, 0, rfl, by decide +kernel⟩⟩

/-- States and operands that meet the hypotheses of TripsLatchAndAreReleased, clause by clause. -/
theorem witness_TripsLatchAndAreReleased :
    (∃ (s u : State) (dt n ns : Nat), u = s.elapse dt ∧ n < 32 ∧ 3 ≤ ns ∧ alwaysOn u = true ∧
      u.slc.enable.getLsbD n = true) ∧
    (∃ (s u : State) (dt n ns : Nat), u = s.elapse dt ∧ n < 32 ∧
      (ns = 0 ∨ alwaysOn u = false ∨ u.slc.enable.getLsbD n = false)) ∧
    (∃ (s u : State) (dt n ns : Nat), u = s.elapse dt ∧ n < 32 ∧ 1 ≤ ns ∧ ns < 3) ∧
    (∃ (s u : State) (dt n : Nat), u = s.elapse dt ∧ n < 32) ∧
    (∃ (s u : State) (dt : Nat), u = s.elapse dt ∧ alwaysOn u = true) ∧
    (∃ (s u : State) (dt : Nat), u = s.elapse dt ∧ alwaysOn u = false) ∧
    (∃ (s u : State) (dt : Nat) (c : Cmd) (call : Call), u = s.elapse dt ∧ Accepted rowSlcStatus c u call ∧
      call.payload = [] ∧ 12 ≤ call.cap) ∧
    (∃ (s u : State) (dt : Nat) (c : Cmd) (call : Call), u = s.elapse dt ∧ Accepted rowSlcRelease c u call ∧
      call.payload.length = 4 ∧ 4 ≤ call.cap ∧ (∀ n,
      n < 32 → (w32 call.payload 0).getLsbD n = true → mayRelease u n = true)) ∧
    (∃ (s u : State) (dt : Nat) (c : Cmd) (call : Call), u = s.elapse dt ∧ Accepted rowSlcRelease c u call ∧
      call.payload.length = 4 ∧ (¬(∀ n, n < 32 → (w32 call.payload 0).getLsbD n = true → mayRelease u n = true))) ∧
    (∃ (s u : State) (dt : Nat), u = s.elapse dt ∧ u.out.hold.isSome = true ∧ u.sys.token = true ∧
      passed u u.out.holdAt (30 * tickS) = true ∧ reinitRuns u 2 0 = false) ∧
    (∃ (s u : State) (dt : Nat), u = s.elapse dt ∧
      (u.out.hold.isSome && u.sys.token && passed u u.out.holdAt (30 * tickS) && !reinitRuns u 2 0) = false) :=
  ⟨⟨demo .steer, _, 0, 31, 3, rfl, by decide +kernel⟩,
    ⟨demo .steer, _, 0, 31, 0, rfl, by decide +kernel⟩,
    ⟨demo .steer, _, 0, 31, 2, rfl, by decide +kernel⟩,
    ⟨demo .steer, _, 0, 31, rfl, by decide +kernel⟩,
    ⟨demo .steer, _, 0, rfl, by decide +kernel⟩,
    ⟨{ demo .steer with pmu := { powered := 0 } }, _, 0, rfl, by decide +kernel⟩,
    ⟨demo .steer, _, 0, ask [], seen [], rfl, ⟨by decide +kernel, rfl⟩, by decide +kernel⟩,
    ⟨{ demo .steer with slc := { latch := 1 } }, _, 0, ask [1, 0, 0, 0], seen [1, 0, 0, 0], rfl,
      ⟨by decide +kernel, rfl⟩, by decide +kernel⟩,
    ⟨{ demo .steer with slc := { latch := 1, inactive := [(0, 60 * tickS)] } }, _, 0, ask [1, 0, 0, 0],
      seen [1, 0, 0, 0], rfl, ⟨by decide +kernel, rfl⟩, by decide +kernel⟩,
    ⟨{ demo .steer with out := { hold := some [], holdAt := 30 * tickS } }, _, 0, rfl, by decide +kernel⟩,
    ⟨{ demo .steer with out := { hold := some [], holdAt := 31 * tickS } }, _, 0, rfl, by decide +kernel⟩⟩

/-- States and operands that meet the hypotheses of ModesAreRequestedAndTimed, clause by clause. -/
theorem witness_ModesAreRequestedAndTimed :
    (∃ (s u : State) (dt : Nat) (c : Cmd) (call : Call), u = s.elapse dt ∧ Accepted rowModeGet c u call ∧
      call.payload = [] ∧ 20 ≤ call.cap) ∧
    (∃ (s u : State) (dt : Nat) (c : Cmd) (call : Call) (m : Mode), u = s.elapse dt ∧
      Accepted rowModeRequest c u call ∧ call.payload = [BitVec.ofNat 8 (modeCode m), 0, 0, 0] ∧ m = u.sys.mode) ∧
    (∃ (s u : State) (dt : Nat) (c : Cmd) (call : Call) (m : Mode) (role : Nat), u = s.elapse dt ∧
      Accepted rowModeRequest c u call ∧ call.payload = [BitVec.ofNat 8 (modeCode m), 0, 0, 0] ∧ m ≠ u.sys.mode ∧
      requestRow u m = some (role, true) ∧ role ≤ call.role ∧ (plantLatched u && mOps m) = false) ∧
    (∃ (s u : State) (dt : Nat) (c : Cmd) (call : Call) (m : Mode) (role : Nat), u = s.elapse dt ∧
      Accepted rowModeRequest c u call ∧ call.payload = [BitVec.ofNat 8 (modeCode m), 0, 0, 0] ∧ m ≠ u.sys.mode ∧
      requestRow u m = some (role, true) ∧ role ≤ call.role ∧ (plantLatched u && mOps m) = true) ∧
    (∃ (s u : State) (dt : Nat) (c : Cmd) (call : Call) (m : Mode) (role : Nat) (met : Bool), u = s.elapse dt ∧
      Accepted rowModeRequest c u call ∧ call.payload = [BitVec.ofNat 8 (modeCode m), 0, 0, 0] ∧ m ≠ u.sys.mode ∧
      requestRow u m = some (role, met) ∧ call.role < role) ∧
    (∃ (s u : State) (dt : Nat) (c : Cmd) (call : Call) (m : Mode) (role : Nat), u = s.elapse dt ∧
      Accepted rowModeRequest c u call ∧ call.payload = [BitVec.ofNat 8 (modeCode m), 0, 0, 0] ∧ m ≠ u.sys.mode ∧
      (requestRow u m = none ∨ requestRow u m = some (role, false) ∧ role ≤ call.role)) ∧
    (∃ (s u : State) (dt c0 : Nat), u = s.elapse dt ∧ plantLatched u = false ∧ u.sys.contact = some c0 ∧
      passed u c0 (u.sys.islandAfter * tickS) = true ∧ u.sys.mode = .steer) ∧
    (∃ (s u : State) (dt c0 : Nat), u = s.elapse dt ∧ plantLatched u = false ∧ u.sys.contact = some c0 ∧
      passed u c0 (u.sys.islandAfter * tickS) = true ∧ u.sys.mode = .manual) ∧
    (∃ (s u : State) (dt : Nat), u = s.elapse dt ∧ plantLatched u = false ∧ u.sys.mode = .island ∧
      passed u u.sys.since (limitH (policyWord u) * 3600 * tickS) = true) ∧
    (∃ (s u : State) (dt : Nat), u = s.elapse dt ∧ plantLatched u = false ∧ u.sys.startMove = true ∧
      u.sys.mode = .hold ∧ committed u 0 = true ∧ committed u 1 = true ∧ fitNow u = true ∧
      u.sys.contact.isSome = true) ∧
    (∃ (s u : State) (dt : Nat), u = s.elapse dt ∧ plantLatched u = false ∧ u.sys.startMove = true ∧
      u.sys.mode = .hold ∧ committed u 0 = true ∧ committed u 1 = true ∧ fitNow u = true ∧ u.sys.contact = none ∧
      policyValid u = true) ∧
    (∃ (s u : State) (dt c0 : Nat), u = s.elapse dt ∧ u.sys.contact = some c0 ∧
      passed u c0 (u.sys.islandAfter * tickS) = true ∧ u.sys.mode.live = true ∧ u.sys.mode ≠ .steer ∧
      u.sys.mode ≠ .manual) ∧
    (∃ (s u : State) (dt c0 : Nat), u = s.elapse dt ∧
      (u.sys.contact = none ∨ u.sys.mode.live = false ∨ u.sys.contact = some c0 ∧
      passed u c0 (u.sys.islandAfter * tickS) = false)) ∧
    (∃ (s u : State) (dt : Nat), u = s.elapse dt ∧
      (u.sys.mode ≠ .island ∨ passed u u.sys.since (limitH (policyWord u) * 3600 * tickS) = false)) ∧
    (∃ (s u : State) (dt : Nat), u = s.elapse dt ∧
      (u.sys.startMove = false ∨ u.sys.mode ≠ .hold ∨ committed u 0 = false ∨ committed u 1 = false ∨ fitNow u = false ∨ u.sys.contact = none ∧
      policyValid u = false)) :=
  ⟨⟨demo .steer, _, 0, ask [], seen [], rfl, ⟨by decide +kernel, rfl⟩, by decide +kernel⟩,
    ⟨demo .steer, _, 0, ask [5, 0, 0, 0], seen [5, 0, 0, 0], .steer, rfl, ⟨by decide +kernel, rfl⟩,
      by decide +kernel⟩,
    ⟨demo .steer, _, 0, ask [6, 0, 0, 0], seen [6, 0, 0, 0], .hold, 1, rfl, ⟨by decide +kernel, rfl⟩,
      by decide +kernel⟩,
    ⟨{ demo .commission with slc := { latch := 1 }, cfg := { inForce := 1, copyA := memStore [] 6 [1] } }, _, 0,
      ask [6, 0, 0, 0], seen [6, 0, 0, 0], .hold, 2, rfl, ⟨by decide +kernel, rfl⟩, by decide +kernel⟩,
    ⟨{ demo .hold with vcp := { (demo .hold).vcp with sessions := [{ demoSession with role := 1 }] } }, _, 0,
      ask [BitVec.ofNat 8 (modeCode .commission), 0, 0, 0],
      { seen [BitVec.ofNat 8 (modeCode .commission), 0, 0, 0] with role := 1 }, .commission, 2, true, rfl,
      ⟨by decide +kernel, rfl⟩, by decide +kernel⟩,
    ⟨demo .steer, _, 0, ask [BitVec.ofNat 8 (modeCode .provision), 0, 0, 0],
      seen [BitVec.ofNat 8 (modeCode .provision), 0, 0, 0], .provision, 0, rfl, ⟨by decide +kernel, rfl⟩,
      by decide +kernel⟩,
    ⟨{ demo .steer with sys := { (demo .steer).sys with contact := some 0, islandAfter := 60 } }, _, 0, 0, rfl,
      by decide +kernel⟩,
    ⟨{ demo .manual with sys := { (demo .manual).sys with contact := some 0, islandAfter := 60 } }, _, 0, 0, rfl,
      by decide +kernel⟩,
    ⟨{ demo .island with sys := { (demo .island).sys with since := 0 } }, _, 0, rfl, by decide +kernel⟩,
    ⟨demoStart, _, 0, rfl, by decide +kernel⟩,
    ⟨{ demoStart with sys := { (demo .hold).sys with startMove := true }, policy := some { word := 0x101, hash := zeros 48, approved := {}, stale := false } },
      _, 0, rfl, by decide +kernel⟩,
    ⟨{ demo .hold with sys := { (demo .hold).sys with contact := some 0, islandAfter := 60 } }, _, 0, 0, rfl,
      by decide +kernel⟩,
    ⟨demo .hold, _, 0, 0, rfl, by decide +kernel⟩,
    ⟨demo .hold, _, 0, rfl, by decide +kernel⟩,
    ⟨demo .hold, _, 0, rfl, by decide +kernel⟩⟩

/-- States and operands that meet the hypotheses of IslandPolicyIsKept, clause by clause. -/
theorem witness_IslandPolicyIsKept :
    (∃ (s u : State) (dt : Nat) (c : Cmd) (call : Call) (p : Policy), u = s.elapse dt ∧
      Accepted rowIslandPolicyGet c u call ∧ call.payload = [] ∧ 68 ≤ call.cap ∧ u.policy = some p) ∧
    (∃ (s u : State) (dt : Nat) (c : Cmd) (call : Call), u = s.elapse dt ∧ Accepted rowIslandPolicyGet c u call ∧
      call.payload = [] ∧ 68 ≤ call.cap ∧ u.policy = none) ∧
    (∃ (s u : State) (dt : Nat) (c : Cmd) (call : Call) (r : Course), u = s.elapse dt ∧
      Accepted rowIslandPolicySet c u call ∧ call.payload.length = 52 ∧ policyWordOk (w32 call.payload 0) = true ∧
      residentCourse u 1 = some r ∧ call.payload.drop 4 = policyDigest (w32 call.payload 0) u (hSignature r.image)) ∧
    (∃ (s u : State) (dt : Nat) (c : Cmd) (call : Call) (r : Course), u = s.elapse dt ∧
      Accepted rowIslandPolicySet c u call ∧ call.payload.length = 52 ∧
      (policyWordOk (w32 call.payload 0) = false ∨ residentCourse u 1 = some r ∧
      call.payload.drop 4 ≠ policyDigest (w32 call.payload 0) u (hSignature r.image))) ∧
    (∃ (s u : State) (dt : Nat) (c : Cmd) (call : Call), u = s.elapse dt ∧ Accepted rowIslandPolicySet c u call ∧
      call.payload.length = 52 ∧ policyWordOk (w32 call.payload 0) = true ∧ residentCourse u 1 = none) :=
  ⟨⟨{ demo .hold with policy := some { word := 0x101, hash := zeros 48, approved := {}, stale := false } }, _, 0,
    ask [], seen [], { word := 0x101, hash := zeros 48, approved := {}, stale := false }, rfl, ⟨by decide +kernel,
    rfl⟩, by decide +kernel⟩,
    ⟨demo .hold, _, 0, ask [], seen [], rfl, ⟨by decide +kernel, rfl⟩, by decide +kernel⟩,
    ⟨{ demo .hold with courses := [(1, { resident := some ⟨0, []⟩ })] }, _, 0,
      ask ([1, 1, 0, 0] ++ policyDigest 0x101 (demo .hold) (zeros 16)),
      seen ([1, 1, 0, 0] ++ policyDigest 0x101 (demo .hold) (zeros 16)), ⟨0, []⟩, rfl, ⟨by decide +kernel, rfl⟩,
      by decide +kernel⟩,
    ⟨demo .hold, _, 0, ask (zeros 52), seen (zeros 52), ⟨0, []⟩, rfl, ⟨by decide +kernel, rfl⟩, by decide +kernel⟩,
    ⟨demo .hold, _, 0, ask ([1, 1, 0, 0] ++ zeros 48), seen ([1, 1, 0, 0] ++ zeros 48), rfl, ⟨by decide +kernel,
      rfl⟩, by decide +kernel⟩⟩

/-- States and operands that meet the hypotheses of RingsAreCommanded, clause by clause. -/
theorem witness_RingsAreCommanded :
    (∃ (s u : State) (dt n : Nat) (v : Word), u = s.elapse dt ∧ n < 8 ∧ reachable u = true ∧
      v.toNat % 1024 < 2 ^ (ringOf u n).sqLog) ∧
    (∃ (s u : State) (dt n : Nat) (v : Word), u = s.elapse dt ∧ n < 8 ∧ reachable u = true ∧
      2 ^ (ringOf u n).sqLog ≤ v.toNat % 1024) ∧
    (∃ (s u : State) (dt n : Nat) (v : Word), u = s.elapse dt ∧ n < 8 ∧ reachable u = true ∧
      (ringOf u n).en = false ∧ v.getLsbD 31 = true ∧ 4 ≤ v.toNat / 16 % 16 ∧ v.toNat / 16 % 16 ≤ 10 ∧
      4 ≤ v.toNat % 16 ∧ v.toNat % 16 ≤ 10) ∧
    (∃ (s u : State) (dt n : Nat) (v : Word), u = s.elapse dt ∧ n < 8 ∧ reachable u = true ∧
      (ringOf u n).en = false ∧ v.getLsbD 31 = true ∧ ¬(4 ≤ v.toNat / 16 % 16 ∧ v.toNat / 16 % 16 ≤ 10 ∧
      4 ≤ v.toNat % 16 ∧ v.toNat % 16 ≤ 10)) ∧
    (∃ (s u : State) (dt n : Nat) (v : Word), u = s.elapse dt ∧ n < 8 ∧ reachable u = true ∧
      (ringOf u n).en = false ∧ v.getLsbD 31 = false) ∧
    (∃ (s u : State) (dt n : Nat) (v : Word), u = s.elapse dt ∧ n < 8 ∧ reachable u = true ∧
      (ringOf u n).en = true ∧ v.getLsbD 31 = false ∧ (ringOf u n).waiting = 0) ∧
    (∃ (s u : State) (dt n : Nat) (v : Word), u = s.elapse dt ∧ n < 8 ∧ reachable u = true ∧
      (ringOf u n).en = true ∧ v.getLsbD 31 = false ∧ (ringOf u n).waiting ≠ 0) ∧
    (∃ (s u : State) (dt n : Nat) (v : Word), u = s.elapse dt ∧ n < 8 ∧ reachable u = true ∧
      (ringOf u n).en = true ∧ v.getLsbD 31 = true) ∧
    (∃ (s u : State) (dt n : Nat), u = s.elapse dt ∧ n < 8 ∧ reachable u = true) ∧
    (∃ (s u : State) (dt n : Nat), u = s.elapse dt ∧ n < 8 ∧ reachable u = true) ∧
    (∃ (s u : State) (dt n : Nat), u = s.elapse dt ∧ n < 8 ∧ reachable u = false) ∧
    (∃ (s u : State) (dt n : Nat), u = s.elapse dt ∧ n < 8 ∧ reachable u = false) ∧
    (∃ (s u : State) (dt n : Nat), u = s.elapse dt ∧ n < 8 ∧ reachable u = false) ∧
    (∃ (s u : State) (dt n : Nat), u = s.elapse dt ∧ n < 8 ∧ reachable u = false) :=
  ⟨⟨demo .steer, _, 0, 7, 15, rfl, by decide +kernel⟩,
    ⟨demo .steer, _, 0, 7, 16, rfl, by decide +kernel⟩,
    ⟨demo .steer, _, 0, 7, 0x800000AA, rfl, by decide +kernel⟩,
    ⟨demo .steer, _, 0, 7, 0x800000BA, rfl, by decide +kernel⟩,
    ⟨demo .steer, _, 0, 7, 0xAA, rfl, by decide +kernel⟩,
    ⟨{ demo .steer with vcp := { rings := [(7, { en := true })] } }, _, 0, 7, 0, rfl, by decide +kernel⟩,
    ⟨{ demo .steer with vcp := { rings := [(7, { en := true, waiting := 1 })] } }, _, 0, 7, 0, rfl,
      by decide +kernel⟩,
    ⟨{ demo .steer with vcp := { rings := [(7, { en := true })] } }, _, 0, 7, 0x80000000, rfl, by decide +kernel⟩,
    ⟨demo .steer, _, 0, 7, rfl, by decide +kernel⟩,
    ⟨demo .steer, _, 0, 7, rfl, by decide +kernel⟩,
    ⟨{ demo .steer with pcie := {} }, _, 0, 7, rfl, by decide +kernel⟩,
    ⟨{ demo .steer with pcie := {} }, _, 0, 7, rfl, by decide +kernel⟩,
    ⟨{ demo .steer with pcie := {} }, _, 0, 7, rfl, by decide +kernel⟩,
    ⟨{ demo .steer with pcie := {} }, _, 0, 7, rfl, by decide +kernel⟩⟩

/-- States and operands that meet the hypotheses of EventRegistersAct, clause by clause. -/
theorem witness_EventRegistersAct :
    (∃ (s u : State) (dt w : Nat), u = s.elapse dt ∧ reachable u = true ∧ alwaysOn u = true ∧ w < 6) ∧
    (∃ (s u : State) (dt x : Nat), u = s.elapse dt ∧ reachable u = true ∧ alwaysOn u = true ∧ x < 2) ∧
    (∃ (s u : State) (dt : Nat), u = s.elapse dt ∧ (reachable u = false ∨ alwaysOn u = false)) ∧
    (∃ (s u : State) (dt : Nat), u = s.elapse dt ∧ (reachable u = false ∨ alwaysOn u = false)) ∧
    (∃ (s u : State) (dt v : Nat), u = s.elapse dt ∧ messageDue u v = true ∧ v < 64) ∧
    (∃ (s u : State) (dt v : Nat), u = s.elapse dt ∧ messageDue u v = false) :=
  ⟨⟨demo .steer, _, 0, 5, rfl, by decide +kernel⟩,
    ⟨demo .steer, _, 0, 1, rfl, by decide +kernel⟩,
    ⟨{ demo .steer with pcie := {} }, _, 0, rfl, by decide +kernel⟩,
    ⟨{ demo .steer with pcie := {} }, _, 0, rfl, by decide +kernel⟩,
    ⟨{ demo .steer with evt := { pend := 1, mask := 0, routes := [(0, { ven := true, vector := 63 })] } }, _, 0,
      63, rfl, by decide +kernel⟩,
    ⟨demo .steer, _, 0, 63, rfl, by decide +kernel⟩⟩

/-- States and operands that meet the hypotheses of FlagsClearAndGatedWritesAreDiscarded, clause by clause. -/
theorem witness_FlagsClearAndGatedWritesAreDiscarded :
    (∃ (s u : State) (dt offset : Nat), u = s.elapse dt ∧ isFlagRegister offset = false) ∧
    (∃ (s u : State) (dt offset : Nat), u = s.elapse dt ∧ reachable u = true ∧ pd u 1 = true ∧
      pd u (windowDomain (offset / 0x10000)) = true ∧ offset < 0x150000 ∧ offset % 4 = 0 ∧
      isFlagRegister offset = true) ∧
    (∃ (s u : State) (dt o : Nat) (data : Bytes), u = s.elapse dt ∧ (reachable u = false ∨ (o / 0x10000 < 21 ∧
      pd u (windowDomain (o / 0x10000)) = false)) ∧ u.sys.resetWanted = none ∧ data.length = 4 ∧ o % 4 = 0) ∧
    (∃ (s u : State) (dt o : Nat), u = s.elapse dt ∧ (reachable u = false ∨ (o / 0x10000 < 21 ∧
      pd u (windowDomain (o / 0x10000)) = false))) :=
  ⟨⟨demo .steer, _, 0, 0x70004, rfl, by decide +kernel⟩,
    ⟨{ demo .steer with brd := { flags := 0x3F } }, _, 0, 0xF0004, rfl, by decide +kernel⟩,
    ⟨{ demo .steer with pmu := { powered := 0xFFA } }, _, 0, 0x40004, [1, 0, 0, 0], rfl, by decide +kernel⟩,
    ⟨{ demo .steer with pcie := {} }, _, 0, 0x40004, rfl, by decide +kernel⟩⟩

/-- States and operands that meet the hypotheses of RegistersAreReadAndWritten, clause by clause. -/
theorem witness_RegistersAreReadAndWritten :
    (∃ (s u : State) (dt o size : Nat), u = s.elapse dt ∧ reachable u = true ∧ pd u 1 = true ∧ o ≤ 0x8000B ∧
      0x80008 < o + size) ∧
    (∃ (s u : State) (dt o size : Nat), u = s.elapse dt ∧ reachable u = true ∧ 1 ≤ size ∧ ¬(o ≤ 0x8000B ∧
      0x80008 < o + size)) ∧
    (∃ (s u : State) (dt n k o size a : Nat), u = s.elapse dt ∧ reachable u = true ∧ n < 12 ∧ k < 8 ∧
      a = 0x51000 + 0x40 * n + 8 * k ∧ pd u 1 = true ∧ pd u 3 = true ∧ o < a + 4 ∧ a < o + size) ∧
    (∃ (s u : State) (dt : Nat), u = s.elapse dt ∧ reachable u = true ∧ pd u 5 = true) ∧
    (∃ (s u : State) (dt k o : Nat) (data : Bytes), u = s.elapse dt ∧ reachable u = true ∧ data.length = 4 ∧
      pd u 1 = true ∧ u.sys.resetWanted = none ∧ k < 8 ∧ o = 0x20080 + 4 * k) ∧
    (∃ (s u : State) (dt o : Nat) (data : Bytes), u = s.elapse dt ∧ reachable u = true ∧ data.length = 4 ∧
      pd u 1 = true ∧ o = 0x30 ∧ w32 data 0 = 0x5A560021) ∧
    (∃ (s u : State) (dt : Nat), u = s.elapse dt ∧ pd u 11 = true ∧ u.pcie.linkUp = true ∧ reachable u = false) ∧
    (∃ (s u : State) (dt : Nat), u = s.elapse dt ∧ pd u 11 = true ∧ u.pcie.linkUp = true ∧ reachable u = false) ∧
    (∃ (s u : State) (dt : Nat), u = s.elapse dt ∧ (pd u 11 = false ∨ u.pcie.linkUp = false)) ∧
    (∃ (s u : State) (dt : Nat), u = s.elapse dt ∧ (pd u 11 = false ∨ u.pcie.linkUp = false)) ∧
    (∃ (s u : State) (dt : Nat), u = s.elapse dt ∧ (reachable u = false ∨ pd u 5 = false)) ∧
    (∃ (s u : State) (dt o : Nat) (data : Bytes), u = s.elapse dt ∧ u.sys.resetWanted = none ∧ (∀ r,
      o ≤ 4 * r → ¬ 4 * r + 4 ≤ o + data.length)) ∧
    (∃ (s u : State) (dt o : Nat) (data : Bytes), u = s.elapse dt ∧ data.length = 4 ∧ o % 4 = 0 ∧
      u.sys.resetWanted = none ∧ ((o / 0x10000 = 0 ∧
      o ≠ 0x30) ∨ o / 0x10000 = 7 ∨ o / 0x10000 = 20 ∨ 21 ≤ o / 0x10000)) :=
  ⟨⟨demo .steer, _, 0, 0x80008, 4, rfl, by decide +kernel⟩,
    ⟨demo .steer, _, 0, 0x8000C, 4, rfl, by decide +kernel⟩,
    ⟨demo .steer, _, 0, 11, 7, 0x512F8, 4, _, rfl, by decide +kernel, by decide +kernel, by decide +kernel, rfl,
      by decide +kernel⟩,
    ⟨demo .steer, _, 0, rfl, by decide +kernel⟩,
    ⟨demo .steer, _, 0, 7, _, [3, 0, 0, 0], rfl, by decide +kernel, by decide +kernel, by decide +kernel,
      by decide +kernel, by decide +kernel, rfl⟩,
    ⟨demo .steer, _, 0, 0x30, [0x21, 0, 0x56, 0x5A], rfl, by decide +kernel⟩,
    ⟨{ demo .steer with pcie := { linkUp := true } }, _, 0, rfl, by decide +kernel⟩,
    ⟨{ demo .steer with pcie := { linkUp := true } }, _, 0, rfl, by decide +kernel⟩,
    ⟨{ demo .steer with pcie := {} }, _, 0, rfl, by decide +kernel⟩,
    ⟨{ demo .steer with pcie := {} }, _, 0, rfl, by decide +kernel⟩,
    ⟨{ demo .steer with pcie := {} }, _, 0, rfl, by decide +kernel⟩,
    ⟨demo .steer, _, 0, 1, [1, 2], rfl, by decide +kernel,
      (by
      intro r h; simp only [List.length_cons,List.length_nil]; omega)⟩,
    ⟨demo .steer, _, 0, 0x150000, [3, 0, 0, 0], rfl, by decide +kernel⟩⟩

/-- States and operands that meet the hypotheses of PcieIsConfiguredAndReset, clause by clause. -/
theorem witness_PcieIsConfiguredAndReset :
    (∃ (s u : State) (dt : Nat), u = s.elapse dt ∧ pd u 11 = true ∧ u.pcie.linkUp = true) ∧
    (∃ (s u : State) (dt : Nat), u = s.elapse dt ∧ pd u 11 = true ∧ u.pcie.linkUp = true) ∧
    (∃ (s u : State) (dt : Nat), u = s.elapse dt ∧ pd u 11 = true ∧ u.pcie.linkUp = true) ∧
    (∃ (s u : State) (dt v : Nat), u = s.elapse dt ∧ pd u 11 = true ∧ u.pcie.linkUp = true ∧ reachable u = true ∧
      v < 64) ∧
    (∃ (s u : State) (dt : Nat), u = s.elapse dt ∧ pd u 11 = true ∧ u.pcie.linkUp = true) ∧
    (∃ (s u : State) (dt v : Nat), u = s.elapse dt ∧ pd u 11 = true ∧ u.pcie.linkUp = true ∧ reachable u = true ∧
      v < 64) ∧
    (∃ (s u : State) (dt : Nat), u = s.elapse dt ∧ pd u 11 = true ∧ u.pcie.linkUp = true ∧
      u.pcie.enumerated = true) ∧
    (∃ (s u : State) (dt : Nat), u = s.elapse dt ∧ pd u 11 = true) ∧
    (∃ (s u : State) (dt : Nat), u = s.elapse dt ∧ (pd u 11 = false ∨ u.pcie.linkUp = false)) ∧
    (∃ (s u : State) (dt : Nat), u = s.elapse dt ∧ (pd u 11 = false ∨ u.pcie.linkUp = false)) ∧
    (∃ (s u : State) (dt : Nat), u = s.elapse dt ∧ (pd u 11 = false ∨ u.pcie.linkUp = false)) ∧
    (∃ (s u : State) (dt : Nat), u = s.elapse dt ∧ (pd u 11 = false ∨ u.pcie.linkUp = false)) ∧
    (∃ (s u : State) (dt : Nat), u = s.elapse dt ∧ (pd u 11 = false ∨ u.pcie.enumerated = false)) ∧
    (∃ (s u : State) (dt : Nat), u = s.elapse dt ∧ pd u 11 = false) :=
  ⟨⟨demo .steer, _, 0, rfl, by decide +kernel⟩,
    ⟨demo .steer, _, 0, rfl, by decide +kernel⟩,
    ⟨demo .steer, _, 0, rfl, by decide +kernel⟩,
    ⟨demo .steer, _, 0, 63, rfl, by decide +kernel⟩,
    ⟨{ demo .steer with pcie := { (demo .steer).pcie with pba := 0x8000000000000000, vmask := 0 } }, _, 0, rfl,
      by decide +kernel⟩,
    ⟨{ demo .steer with pcie := { (demo .steer).pcie with pba := 0x8000000000000000, vmask := 0x8000000000000000 } },
      _, 0, 63, rfl, by decide +kernel⟩,
    ⟨demo .steer, _, 0, rfl, by decide +kernel⟩,
    ⟨demo .steer, _, 0, rfl, by decide +kernel⟩,
    ⟨{ demo .steer with pcie := {} }, _, 0, rfl, by decide +kernel⟩,
    ⟨{ demo .steer with pcie := {} }, _, 0, rfl, by decide +kernel⟩,
    ⟨{ demo .steer with pcie := {} }, _, 0, rfl, by decide +kernel⟩,
    ⟨{ demo .steer with pcie := {} }, _, 0, rfl, by decide +kernel⟩,
    ⟨{ demo .steer with pcie := {} }, _, 0, rfl, by decide +kernel⟩,
    ⟨{ demo .steer with pmu := { powered := 0 } }, _, 0, rfl, by decide +kernel⟩⟩

/-- States and operands that meet the hypotheses of SessionsOpenCloseAndEnd, clause by clause. -/
theorem witness_SessionsOpenCloseAndEnd :
    (∃ (s u : State) (dt : Nat) (c : Cmd) (call : Call), u = s.elapse dt ∧ Accepted rowSesChallenge c u call ∧
      call.payload = [] ∧ 32 ≤ call.cap) ∧
    (∃ (s u : State) (dt : Nat) (c : Cmd) (call : Call), u = s.elapse dt ∧ Accepted rowSesOpen c u call ∧
      44 ≤ call.payload.length ∧ call.payload.length = 44 + u16 call.payload 40 ∧ 12 ≤ call.cap ∧
      openFieldsOk call.transport call.payload = true ∧ (∀ r,
      roleLimit (lifecycle u) = some r → r < u8 call.payload 0)) ∧
    (∃ (s u : State) (dt : Nat) (c : Cmd) (call : Call), u = s.elapse dt ∧ Accepted rowSesOpen c u call ∧
      44 ≤ call.payload.length ∧ call.payload.length = 44 + u16 call.payload 40 ∧ 12 ≤ call.cap ∧
      openFieldsOk call.transport call.payload = true ∧ (∃ r, roleLimit (lifecycle u) = some r ∧
      u8 call.payload 0 ≤ r) ∧ sessionsFull call.transport call.assoc u = true) ∧
    (∃ (s u : State) (dt : Nat) (c : Cmd) (call : Call), u = s.elapse dt ∧ Accepted rowSesOpen c u call ∧
      44 ≤ call.payload.length ∧ call.payload.length = 44 + u16 call.payload 40 ∧ 12 ≤ call.cap ∧
      openFieldsOk call.transport call.payload = true ∧ (∃ r, roleLimit (lifecycle u) = some r ∧
      u8 call.payload 0 ≤ r) ∧ sessionsFull call.transport call.assoc u = false ∧
      (nonceValid u call.transport (slice call.payload 8 32) && openProof call.transport call.assoc call.payload u) = false) ∧
    (∃ (s u : State) (dt : Nat) (c : Cmd) (call : Call), u = s.elapse dt ∧ Accepted rowSesOpen c u call ∧
      44 ≤ call.payload.length ∧ call.payload.length = 44 + u16 call.payload 40 ∧ 12 ≤ call.cap ∧
      openFieldsOk call.transport call.payload = true ∧ (∃ r, roleLimit (lifecycle u) = some r ∧
      u8 call.payload 0 ≤ r) ∧ sessionsFull call.transport call.assoc u = false ∧
      nonceValid u call.transport (slice call.payload 8 32) = true ∧
      openProof call.transport call.assoc call.payload u = true) ∧
    (∃ (s u : State) (dt : Nat) (c : Cmd) (call : Call), u = s.elapse dt ∧ Accepted rowSesClose c u call ∧
      call.payload = []) ∧
    (∃ (s u : State) (dt : Nat) (c : Cmd) (call : Call), u = s.elapse dt ∧ Accepted rowSysNop c u call ∧
      call.payload.length ≤ 64 ∧ call.payload.length ≤ call.cap) ∧
    (∃ (s u : State) (dt : Nat) (sid : Word) (x : Session), u = s.elapse dt ∧ x ∈ u.vcp.sessions ∧ x.sid = sid ∧
      passed u x.last (300 * tickS) = true) ∧
    (∃ (s u : State) (dt : Nat) (sid : Word), u = s.elapse dt ∧ (∀ y ∈ u.vcp.sessions,
      y.sid = sid → passed u y.last (300 * tickS) = false)) ∧
    (∃ (s u : State) (dt : Nat) (h : Handshake) (n : _), u = s.elapse dt ∧ served .udp u = true ∧
      u.net.bindVcp.testBit h.port = true ∧ serverReady u = true ∧ h.profile = true ∧ h.certOk = true ∧
      clientEntry u h.key = some n) ∧
    (∃ (s u : State) (dt : Nat) (h : Handshake), u = s.elapse dt ∧ served .udp u = true ∧
      u.net.bindVcp.testBit h.port = true ∧
      (serverReady u = false ∨ h.profile = false ∨ h.certOk = false ∨ clientEntry u h.key = none)) ∧
    (∃ (s u : State) (dt : Nat) (h : Handshake), u = s.elapse dt ∧ served .udp u = true ∧
      u.net.bindVcp.testBit h.port = false) ∧
    (∃ (s u : State) (dt : Nat), u = s.elapse dt ∧ served .udp u = false) :=
  ⟨⟨demo .steer, _, 0, ask [], seen [], rfl, ⟨by decide +kernel, rfl⟩, by decide +kernel⟩,
    ⟨demo .steer, _, 0, { openAsk with payload := [4] ++ zeros 43 }, { openSeen with payload := [4] ++ zeros 43 },
      rfl, ⟨by decide +kernel, rfl⟩, by decide +kernel, by decide +kernel, by decide +kernel, by decide +kernel,
      (fun r h => by
      have e : some r = some 3 := h.symm.trans (by decide +kernel)
      cases e; decide +kernel)⟩,
    ⟨demo .steer, _, 0, { ask openPayload with sid := 0 },
      { seen openPayload with sid := 0, role := 0, credential := 0 }, rfl, ⟨by decide +kernel, rfl⟩,
      by decide +kernel, by decide +kernel, by decide +kernel, by decide +kernel, ⟨3, by decide +kernel⟩,
      by decide +kernel⟩,
    ⟨demo .steer, _, 0, { openAsk with payload := [1] ++ zeros 43 }, { openSeen with payload := [1] ++ zeros 43 },
      rfl, ⟨by decide +kernel, rfl⟩, by decide +kernel, by decide +kernel, by decide +kernel, by decide +kernel,
      ⟨3, by decide +kernel⟩, by decide +kernel⟩,
    ⟨{ demo .steer with vcp := { (demo .steer).vcp with nonces := [⟨zeros 32, .pcie, 30 * tickS⟩] } }, _, 0,
      openAsk, openSeen, rfl, ⟨by decide +kernel, rfl⟩, by decide +kernel, by decide +kernel, by decide +kernel,
      by decide +kernel, ⟨3, by decide +kernel⟩, by decide +kernel⟩,
    ⟨demo .steer, _, 0, ask [], seen [], rfl, ⟨by decide +kernel, rfl⟩, by decide +kernel⟩,
    ⟨demo .steer, _, 0, ask (zeros 64), seen (zeros 64), rfl, ⟨by decide +kernel, rfl⟩, by decide +kernel⟩,
    ⟨{ demo .steer with tim := { counter := 300 * tickS } }, _, 0, 1, demoSession, rfl, by decide +kernel⟩,
    ⟨demo .steer, _, 0, 1, rfl, by decide +kernel⟩,
    ⟨demoUdp, _, 0, { assoc := 3, port := 0, profile := true, certOk := true, key := [1] }, 1, rfl,
      by decide +kernel⟩,
    ⟨demoUdp, _, 0, { assoc := 3, port := 0, profile := false, certOk := true, key := [1] }, rfl,
      by decide +kernel⟩,
    ⟨demoUdp, _, 0, { assoc := 3, port := 7, profile := true, certOk := true, key := [1] }, rfl, by decide +kernel⟩,
    ⟨{ demo .boot with vcp := {} }, _, 0, rfl, by decide +kernel⟩⟩

/-- States and operands that meet the hypotheses of TransportsCarryPackets, clause by clause. -/
theorem witness_TransportsCarryPackets :
    (∃ (s u : State) (dt : Nat) (p : Bytes) (st : Half) (w : _), u = s.elapse dt ∧
      w = { u with vcp := { u.vcp with spiBusy := true } } ∧ spiOn u = true ∧ u.vcp.spiBusy = false ∧
      u.vcp.spiRsp = none ∧ 20 ≤ p.length ∧
      st = framingStatus (transportLimit .spi (sessionOf w .spi 0 (w32 p 12))) .spi p ∧ st = stOk) ∧
    (∃ (s u : State) (dt : Nat) (p : Bytes) (st : Half) (w : _), u = s.elapse dt ∧
      w = { u with vcp := { u.vcp with spiBusy := true } } ∧ spiOn u = true ∧ u.vcp.spiBusy = false ∧
      u.vcp.spiRsp = none ∧ 20 ≤ p.length ∧
      st = framingStatus (transportLimit .spi (sessionOf w .spi 0 (w32 p 12))) .spi p ∧ st ≠ stOk ∧
      u.sys.resetWanted = none) ∧
    (∃ (s u : State) (dt : Nat), u = s.elapse dt ∧ spiOn u = true ∧ (u.vcp.spiBusy || u.vcp.spiRsp.isSome) = true ∧
      u.sys.resetWanted = none) ∧
    (∃ (s u : State) (dt : Nat), u = s.elapse dt ∧ spiOn u = true) ∧
    (∃ (s u : State) (dt : Nat), u = s.elapse dt ∧ spiOn u = true) ∧
    (∃ (s u : State) (dt : Nat), u = s.elapse dt ∧ spiOn u = false) ∧
    (∃ (s u : State) (dt : Nat), u = s.elapse dt ∧ spiOn u = false) ∧
    (∃ (s u : State) (dt : Nat) (r : DtlsRecord), u = s.elapse dt ∧ served .udp u = true ∧
      u.net.bindVcp.testBit r.port = true ∧ r.authentic = true ∧ (tfind u.vcp.assocs r.assoc).isSome = true ∧
      r.keyUpdate = false ∧ 16 ≤ r.packet.length ∧
      framingStatus (transportLimit .udp (sessionOf u .udp r.assoc (w32 r.packet 12))) .udp r.packet = stOk) ∧
    (∃ (s u : State) (dt : Nat) (r : DtlsRecord), u = s.elapse dt ∧ served .udp u = true ∧
      u.net.bindVcp.testBit r.port = true ∧ u.sys.resetWanted = none ∧
      (r.authentic = false ∨ tfind u.vcp.assocs r.assoc = none)) ∧
    (∃ (s u : State) (dt : Nat) (r : DtlsRecord) (x : Assoc), u = s.elapse dt ∧ served .udp u = true ∧
      u.net.bindVcp.testBit r.port = true ∧ u.sys.resetWanted = none ∧ r.authentic = true ∧ r.keyUpdate = true ∧
      tfind u.vcp.assocs r.assoc = some x) ∧
    (∃ (s u : State) (dt n : Nat) (f : SqFetch) (e b : Bytes), u = s.elapse dt ∧ mayFetch u n = true ∧
      f.entry = some e ∧ 20 ≤ u32 e 16 ∧ u32 e 16 ≤ 16404 ∧ f.packet = some b ∧ b.length = u32 e 16 ∧
      f.rspFault = false ∧ framingStatus (transportLimit .pcie (sessionOf u .pcie n (w32 b 12))) .pcie b = stOk) ∧
    (∃ (s u : State) (dt n : Nat) (f : SqFetch), u = s.elapse dt ∧ u.sys.resetWanted = none ∧ mayFetch u n = true ∧
      f.entry = none) ∧
    (∃ (s u : State) (dt n : Nat) (f : SqFetch) (e : Bytes), u = s.elapse dt ∧ u.sys.resetWanted = none ∧
      mayFetch u n = true ∧ f.entry = some e ∧ f.rspFault = false ∧ (u32 e 16 < 20 ∨ 16404 < u32 e 16)) ∧
    (∃ (s u : State) (dt n : Nat), u = s.elapse dt ∧ u.sys.resetWanted = none ∧ mayFetch u n = false) :=
  ⟨⟨demo .steer, _, 0, sealed (nopPacket 1), stOk, _, rfl, rfl, by decide +kernel⟩,
    ⟨demo .steer, _, 0, nopPacket 1 ++ zeros 4, _, _, rfl, rfl, by decide +kernel, by decide +kernel,
      by decide +kernel, by decide +kernel, rfl, by decide +kernel⟩,
    ⟨{ demo .steer with vcp := { spiRsp := some [1, 2] } }, _, 0, rfl, by decide +kernel⟩,
    ⟨demo .steer, _, 0, rfl, by decide +kernel⟩,
    ⟨{ demo .steer with vcp := { (demo .steer).vcp with spiRsp := some [1, 2] } }, _, 0, rfl, by decide +kernel⟩,
    ⟨{ demo .boot with pmu := { powered := 0 } }, _, 0, rfl, by decide +kernel⟩,
    ⟨{ demo .boot with pmu := { powered := 0 } }, _, 0, rfl, by decide +kernel⟩,
    ⟨demoUdp, _, 0, { assoc := 2, port := 0, authentic := true, packet := nopPacket 1 }, rfl, by decide +kernel⟩,
    ⟨demoUdp, _, 0, { assoc := 2, port := 0, authentic := false, packet := nopPacket 1 }, rfl, by decide +kernel⟩,
    ⟨demoUdp, _, 0, { assoc := 2, port := 0, authentic := true, packet := [], keyUpdate := true },
      { port := 0, credential := 1 }, rfl, by decide +kernel⟩,
    ⟨demoRing, _, 0, 7,
      { entry := some (zeros 16 ++ le32 20 ++ zeros 12), packet := some (sealed (nopPacket 1)), host := none, rspFault := false },
      zeros 16 ++ le32 20 ++ zeros 12, sealed (nopPacket 1), rfl, by decide +kernel⟩,
    ⟨demoRing, _, 0, 7, { entry := none, packet := none, host := none, rspFault := false }, rfl, by decide +kernel⟩,
    ⟨demoRing, _, 0, 7,
      { entry := some (zeros 16 ++ le32 19 ++ zeros 12), packet := none, host := none, rspFault := false },
      zeros 16 ++ le32 19 ++ zeros 12, rfl, by decide +kernel⟩,
    ⟨demo .steer, _, 0, 7, rfl, by decide +kernel⟩⟩

/-- States and operands that meet the hypotheses of SystemCommandsAnswer, clause by clause. -/
theorem witness_SystemCommandsAnswer :
    (∃ (s u : State) (dt : Nat) (c : Cmd) (call : Call), u = s.elapse dt ∧ Accepted rowSysInfo c u call ∧
      call.payload = [] ∧ 24 ≤ call.cap) ∧
    (∃ (s u : State) (dt : Nat) (c : Cmd) (call : Call), u = s.elapse dt ∧ Accepted rowSysStatus c u call ∧
      call.payload = [] ∧ 24 ≤ call.cap) ∧
    (∃ (s u : State) (dt : Nat) (c : Cmd) (call : Call), u = s.elapse dt ∧ Accepted rowFuncReinit c u call ∧
      call.payload.length = 4 ∧ functionOk (u16 call.payload 0) (u16 call.payload 2) = true) ∧
    (∃ (s u : State) (dt : Nat) (c : Cmd) (call : Call), u = s.elapse dt ∧ Accepted rowFuncReinit c u call ∧
      call.payload.length = 4 ∧ functionOk (u16 call.payload 0) (u16 call.payload 2) = false) ∧
    (∃ (s u : State) (dt : Nat), u = s.elapse dt ∧ (∃ x ∈ u.sys.reinit, x.func = 2)) ∧
    (∃ (s u : State) (dt : Nat), u = s.elapse dt ∧ (∀ x ∈ u.sys.reinit, x.func ≠ 2)) :=
  ⟨⟨demo .steer, _, 0, ask [], seen [], rfl, ⟨by decide +kernel, rfl⟩, by decide +kernel⟩,
    ⟨demo .steer, _, 0, ask [], seen [], rfl, ⟨by decide +kernel, rfl⟩, by decide +kernel⟩,
    ⟨demo .steer, _, 0, ask [8, 0, 7, 0], seen [8, 0, 7, 0], rfl, ⟨by decide +kernel, rfl⟩, by decide +kernel⟩,
    ⟨demo .steer, _, 0, ask [2, 0, 1, 0], seen [2, 0, 1, 0], rfl, ⟨by decide +kernel, rfl⟩, by decide +kernel⟩,
    ⟨{ demo .steer with sys := { (demo .steer).sys with reinit := [{ func := 2, unit := 0, ends := none }] } }, _,
      0, rfl, ⟨{ func := 2, unit := 0, ends := none }, by decide +kernel, by decide⟩⟩,
    ⟨demo .steer, _, 0, rfl, by decide +kernel⟩⟩

/-- States and operands that meet the hypotheses of TamperZeroises, clause by clause. -/
theorem witness_TamperZeroises :
    (∃ (s u : State) (dt : Nat) (x : Byte), u = s.elapse dt ∧ u.board.vbat = true ∧ tamperSources u x ≠ 0 ∧
      u.sys.mode = .vault) ∧
    (∃ (s u : State) (dt : Nat) (x : Byte), u = s.elapse dt ∧ u.board.vbat = true ∧ tamperSources u x ≠ 0 ∧
      u.sys.mode ≠ .vault ∧ pd u 5 = true) ∧
    (∃ (s u : State) (dt : Nat) (x : Byte), u = s.elapse dt ∧ u.board.vbat = true ∧ tamperSources u x ≠ 0 ∧
      u.sys.mode ≠ .vault ∧ pd u 5 = false) ∧
    (∃ (s u : State) (dt : Nat) (x : Byte), u = s.elapse dt ∧ (u.board.vbat = false ∨ tamperSources u x = 0)) :=
  ⟨⟨demo .vault, _, 0, 0x10, rfl, by decide +kernel⟩,
    ⟨demo .steer, _, 0, 1, rfl, by decide +kernel⟩,
    ⟨{ demo .steer with pmu := { powered := 2 } }, _, 0, 1, rfl, by decide +kernel⟩,
    ⟨demo .steer, _, 0, 0, rfl, by decide +kernel⟩⟩

/-- States and operands that meet the hypotheses of KeysAreReadDerivedAndUpdated, clause by clause. -/
theorem witness_KeysAreReadDerivedAndUpdated :
    (∃ (s u : State) (dt : Nat) (c : Cmd) (call : Call) (p : Bytes), u = s.elapse dt ∧ p = call.payload ∧
      Accepted rowKeyStatus c u call ∧ p.length = 4 ∧ 12 ≤ call.cap ∧ allZero (slice p 1 3) = true) ∧
    (∃ (s u : State) (dt : Nat) (c : Cmd) (call : Call) (p : Bytes), u = s.elapse dt ∧ p = call.payload ∧
      Accepted rowKeyStatus c u call ∧ p.length = 4 ∧ 12 ≤ call.cap ∧ allZero (slice p 1 3) = false) ∧
    (∃ (s u : State) (dt : Nat) (c : Cmd) (call : Call) (p : Bytes), u = s.elapse dt ∧ p = call.payload ∧
      Accepted rowKeyDerive c u call ∧ p.length = 8 + u8 p 4 ∧ u8 p 4 ≤ 64 ∧ 4 ≤ call.cap ∧ lifecycle u = 3 ∧
      treeFits u (u8 p 0) (u8 p 1) (u16 p 2) = true ∧ allZero (slice p 5 3) = true ∧
      parentCheck u (u8 p 0) (u8 p 1) polDerive = none) ∧
    (∃ (s u : State) (dt : Nat) (c : Cmd) (call : Call) (p : Bytes) (st : Half), u = s.elapse dt ∧
      p = call.payload ∧ Accepted rowKeyDerive c u call ∧ p.length = 8 + u8 p 4 ∧ u8 p 4 ≤ 64 ∧ 4 ≤ call.cap ∧
      lifecycle u = 3 ∧ treeFits u (u8 p 0) (u8 p 1) (u16 p 2) = true ∧ allZero (slice p 5 3) = true ∧
      parentCheck u (u8 p 0) (u8 p 1) polDerive = some st) ∧
    (∃ (s u : State) (dt : Nat) (c : Cmd) (call : Call) (p : Bytes), u = s.elapse dt ∧ p = call.payload ∧
      Accepted rowKeyDerive c u call ∧ p.length = 8 + u8 p 4 ∧ u8 p 4 ≤ 64 ∧ 4 ≤ call.cap ∧ lifecycle u = 3 ∧
      (treeFits u (u8 p 0) (u8 p 1) (u16 p 2) && allZero (slice p 5 3)) = false) ∧
    (∃ (s u : State) (dt : Nat) (c : Cmd) (call : Call) (p : Bytes), u = s.elapse dt ∧ p = call.payload ∧
      Accepted rowKeyDerive c u call ∧ p.length = 8 + u8 p 4 ∧ u8 p 4 ≤ 64 ∧ 4 ≤ call.cap ∧ lifecycle u ≠ 3) ∧
    (∃ (s u : State) (dt : Nat) (c : Cmd) (call : Call) (p : Bytes), u = s.elapse dt ∧ p = call.payload ∧
      Accepted rowKeyUpdate c u call ∧ p.length = 188 ∧ 4 ≤ call.cap ∧ lifecycle u = 3 ∧
      treeFits u (u8 p 0) (u8 p 4) (u16 p 6) = true ∧ u32 p 8 = keyGen u (u8 p 4) ∧ allZero (slice p 1 3) = true ∧
      u8 p 5 = 0 ∧ allZero (slice p 109 3) = true ∧ parentCheck u (u8 p 0) (u8 p 4) polWrap = none) ∧
    (∃ (s u : State) (dt : Nat) (c : Cmd) (call : Call) (p : Bytes) (st : Half), u = s.elapse dt ∧
      p = call.payload ∧ Accepted rowKeyUpdate c u call ∧ p.length = 188 ∧ 4 ≤ call.cap ∧ lifecycle u = 3 ∧
      treeFits u (u8 p 0) (u8 p 4) (u16 p 6) = true ∧ u32 p 8 = keyGen u (u8 p 4) ∧ allZero (slice p 1 3) = true ∧
      u8 p 5 = 0 ∧ allZero (slice p 109 3) = true ∧ parentCheck u (u8 p 0) (u8 p 4) polWrap = some st) ∧
    (∃ (s u : State) (dt : Nat) (c : Cmd) (call : Call) (p : Bytes), u = s.elapse dt ∧ p = call.payload ∧
      Accepted rowKeyUpdate c u call ∧ p.length = 188 ∧ 4 ≤ call.cap ∧ lifecycle u = 3 ∧
      (treeFits u (u8 p 0) (u8 p 4) (u16 p 6) = false ∨ u32 p 8 ≠ keyGen u (u8 p 4) ∨ allZero (slice p 1 3) = false ∨ u8 p 5 ≠ 0 ∨ allZero (slice p 109 3) = false)) ∧
    (∃ (s u : State) (dt : Nat) (c : Cmd) (call : Call) (p : Bytes), u = s.elapse dt ∧ p = call.payload ∧
      Accepted rowKeyUpdate c u call ∧ p.length = 188 ∧ 4 ≤ call.cap ∧ lifecycle u ≠ 3) :=
  ⟨⟨demoOwned, _, 0, ask [8, 0, 0, 0], seen [8, 0, 0, 0], _, rfl, rfl, ⟨by decide +kernel, rfl⟩, by decide +kernel⟩,
    ⟨demoOwned, _, 0, ask [8, 1, 0, 0], seen [8, 1, 0, 0], _, rfl, rfl, ⟨by decide +kernel, rfl⟩,
      by decide +kernel⟩,
    ⟨demoOwned, _, 0, ask ([10, 8, 1, 0, 64, 0, 0, 0] ++ zeros 64), seen ([10, 8, 1, 0, 64, 0, 0, 0] ++ zeros 64),
      _, rfl, rfl, ⟨by decide +kernel, rfl⟩, by decide +kernel⟩,
    ⟨demoOwned, _, 0, ask ([10, 11, 1, 0, 0, 0, 0, 0]), seen ([10, 11, 1, 0, 0, 0, 0, 0]), _, stNotFound, rfl, rfl,
      ⟨by decide +kernel, rfl⟩, by decide +kernel⟩,
    ⟨demoOwned, _, 0, ask ([7, 8, 1, 0, 0, 0, 0, 0]), seen ([7, 8, 1, 0, 0, 0, 0, 0]), _, rfl, rfl,
      ⟨by decide +kernel, rfl⟩, by decide +kernel⟩,
    ⟨demo .service, _, 0, ask ([10, 8, 1, 0, 0, 0, 0, 0]), seen ([10, 8, 1, 0, 0, 0, 0, 0]), _, rfl, rfl,
      ⟨by decide +kernel, rfl⟩, by decide +kernel⟩,
    ⟨demoOwned, _, 0, ask ([10, 0, 0, 0, 9, 0, 1, 0] ++ zeros 180), seen ([10, 0, 0, 0, 9, 0, 1, 0] ++ zeros 180),
      _, rfl, rfl, ⟨by decide +kernel, rfl⟩, by decide +kernel⟩,
    ⟨demoOwned, _, 0, ask ([10, 0, 0, 0, 11, 0, 1, 0] ++ zeros 180),
      seen ([10, 0, 0, 0, 11, 0, 1, 0] ++ zeros 180), _, stNotFound, rfl, rfl, ⟨by decide +kernel, rfl⟩,
      by decide +kernel⟩,
    ⟨demoOwned, _, 0, ask ([10, 1, 0, 0, 9, 0, 1, 0] ++ zeros 180), seen ([10, 1, 0, 0, 9, 0, 1, 0] ++ zeros 180),
      _, rfl, rfl, ⟨by decide +kernel, rfl⟩, by decide +kernel⟩,
    ⟨demo .service, _, 0, ask ([10, 0, 0, 0, 9, 0, 1, 0] ++ zeros 180),
      seen ([10, 0, 0, 0, 9, 0, 1, 0] ++ zeros 180), _, rfl, rfl, ⟨by decide +kernel, rfl⟩, by decide +kernel⟩⟩

/-- States and operands that meet the hypotheses of KeysAreDestroyedAndVaultEventsAct, clause by clause. -/
theorem witness_KeysAreDestroyedAndVaultEventsAct :
    (∃ (s u : State) (dt : Nat) (c : Cmd) (call : Call) (p : Bytes), u = s.elapse dt ∧ p = call.payload ∧
      Accepted rowKeyDestroy c u call ∧ p.length = 4 ∧ 8 ≤ u8 p 0 ∧ allZero (slice p 1 3) = true ∧
      (keySlot u (u8 p 0)).state ≠ 0) ∧
    (∃ (s u : State) (dt : Nat) (c : Cmd) (call : Call) (p : Bytes), u = s.elapse dt ∧ p = call.payload ∧
      Accepted rowKeyDestroy c u call ∧ p.length = 4 ∧ 8 ≤ u8 p 0 ∧ allZero (slice p 1 3) = true ∧
      (keySlot u (u8 p 0)).state ≠ 0) ∧
    (∃ (s u : State) (dt : Nat) (c : Cmd) (call : Call) (p : Bytes), u = s.elapse dt ∧ p = call.payload ∧
      Accepted rowKeyDestroy c u call ∧ p.length = 4 ∧ 8 ≤ u8 p 0 ∧ allZero (slice p 1 3) = true ∧
      (keySlot u (u8 p 0)).state = 0) ∧
    (∃ (s u : State) (dt : Nat) (c : Cmd) (call : Call) (p : Bytes), u = s.elapse dt ∧ p = call.payload ∧
      Accepted rowKeyDestroy c u call ∧ p.length = 4 ∧ (u8 p 0 < 8 ∨ allZero (slice p 1 3) = false)) ∧
    (∃ (s u : State) (dt : Nat) (c : Cmd) (call : Call) (p : Bytes), u = s.elapse dt ∧ p = call.payload ∧
      Accepted rowKeyRoleSet c u call ∧ p.length = 8 + u16 p 4 ∧ u8 p 0 ≤ 63 ∧ (u8 p 1 ≤ 3 ∨ u8 p 1 = 5) ∧
      u8 p 2 ≤ 2 ∧ u16 p 4 = keyBytes (u8 p 2) ∧ u8 p 3 = 0 ∧ u16 p 6 = 0 ∧
      ((withRole (u8 p 0) (u8 p 1) (u8 p 2) (p.drop 8) u).any (fun e => decide (e.2.role = 3))) = true) ∧
    (∃ (s u : State) (dt : Nat) (c : Cmd) (call : Call) (p : Bytes), u = s.elapse dt ∧ p = call.payload ∧
      Accepted rowKeyRoleSet c u call ∧ p.length = 8 + u16 p 4 ∧
      (63 < u8 p 0 ∨ ¬(u8 p 1 ≤ 3 ∨ u8 p 1 = 5) ∨ 2 < u8 p 2 ∨ u16 p 4 ≠ keyBytes (u8 p 2) ∨ u8 p 3 ≠ 0 ∨ u16 p 6 ≠ 0 ∨ ((withRole (u8 p 0) (u8 p 1) (u8 p 2) (p.drop 8) u).any (fun e => decide (e.2.role = 3))) = false)) ∧
    (∃ (s u : State) (dt : Nat) (c : Cmd) (call : Call) (p k : Bytes), u = s.elapse dt ∧ p = call.payload ∧
      Accepted rowLcAdvance c u call ∧ 12 ≤ p.length ∧ p.length = 12 + u16 p 10 + u16 p 6 ∧
      lcMove (lifecycle u) (u8 p 0) u.key.fuses = true ∧ allZero (slice p 1 3) = true ∧ u8 p 9 = 0 ∧
      signerOk u (lifecycle u) (u8 p 4) (u8 p 5) = true ∧ (u8 p 5 = 1 ∨ u8 p 5 = 2) ∧ u16 p 6 = sigSize (u8 p 5) ∧
      u8 p 8 ≤ 2 ∧ u16 p 10 = keyBytes (u8 p 8) ∧ (u8 p 8 ≠ 0 ↔ u8 p 0 = 2) ∧
      signerKey u (u8 p 4) (u8 p 5) = some k) ∧
    (∃ (s u : State) (dt : Nat) (c : Cmd) (call : Call) (p : Bytes), u = s.elapse dt ∧ p = call.payload ∧
      Accepted rowLcAdvance c u call ∧ 12 ≤ p.length ∧ p.length = 12 + u16 p 10 + u16 p 6 ∧
      lcMove (lifecycle u) (u8 p 0) u.key.fuses = false) ∧
    (∃ (s u : State) (dt n : Nat), u = s.elapse dt ∧ u.key.inFlight.contains n = true ∧ (keySlot u n).state ≠ 2) ∧
    (∃ (s u : State) (dt n : Nat), u = s.elapse dt ∧ u.key.inFlight.contains n = true ∧ (keySlot u n).state = 2) ∧
    (∃ (s u : State) (dt n : Nat), u = s.elapse dt ∧ u.key.inFlight.contains n = false) ∧
    (∃ (s u : State) (dt x : Nat), u = s.elapse dt ∧ u.key.switchAt = some x ∧ x ≤ now u) ∧
    (∃ (s u : State) (dt x : Nat), u = s.elapse dt ∧ (u.key.switchAt = none ∨ u.key.switchAt = some x ∧ now u < x)) ∧
    (∃ (s u : State) (dt x : Nat) (k : Bytes), u = s.elapse dt ∧ u.key.previous = some (k, x) ∧ x ≤ rtcSeconds u) ∧
    (∃ (s u : State) (dt x : Nat) (k : Bytes), u = s.elapse dt ∧ (u.key.previous = none ∨ u.key.previous = some (k,
      x) ∧ rtcSeconds u < x)) ∧
    (∃ (s u : State) (dt : Nat), u = s.elapse dt ∧ u.board.vbat = true ∧ u.key.refreshed < rtcSeconds u) ∧
    (∃ (s u : State) (dt : Nat), u = s.elapse dt ∧ (u.board.vbat = false ∨ rtcSeconds u ≤ u.key.refreshed)) ∧
    (∃ (s u : State) (dt : Nat), u = s.elapse dt ∧ u.board.vbat = true ∧ u.tim.legal.valid = true ∧
      (u.rtc.aligned = true → passed u u.rtc.last (60 * tickS) = true)) ∧
    (∃ (s u : State) (dt : Nat), u = s.elapse dt ∧
      (u.board.vbat = false ∨ u.tim.legal.valid = false ∨ u.rtc.aligned = true ∧
      passed u u.rtc.last (60 * tickS) = false)) :=
  ⟨⟨demoOwned, _, 0, ask [8, 0, 0, 0], seen [8, 0, 0, 0], _, rfl, rfl, ⟨by decide +kernel, rfl⟩, by decide +kernel⟩,
    ⟨demoOwned, _, 0, ask [8, 0, 0, 0], seen [8, 0, 0, 0], _, rfl, rfl, ⟨by decide +kernel, rfl⟩,
      by decide +kernel⟩,
    ⟨demoOwned, _, 0, ask [255, 0, 0, 0], seen [255, 0, 0, 0], _, rfl, rfl, ⟨by decide +kernel, rfl⟩,
      by decide +kernel⟩,
    ⟨demoOwned, _, 0, ask [7, 0, 0, 0], seen [7, 0, 0, 0], _, rfl, rfl, ⟨by decide +kernel, rfl⟩,
      by decide +kernel⟩,
    ⟨demoOwned, _, 0, ask ([62, 3, 1, 0, 97, 0, 0, 0] ++ zeros 97), seen ([62, 3, 1, 0, 97, 0, 0, 0] ++ zeros 97),
      _, rfl, rfl, ⟨by decide +kernel, rfl⟩, by decide +kernel⟩,
    ⟨demoOwned, _, 0, ask ([64, 3, 1, 0, 97, 0, 0, 0] ++ zeros 97), seen ([64, 3, 1, 0, 97, 0, 0, 0] ++ zeros 97),
      _, rfl, rfl, ⟨by decide +kernel, rfl⟩, by decide +kernel⟩,
    ⟨{ demo .provision with key := { fuses := 2, roles := [(63, { role := 3, alg := 1, key := [1] })] } }, _, 0,
      ask ([3, 0, 0, 0, 63, 1, 96, 0, 0, 0, 0, 0] ++ zeros 96),
      seen ([3, 0, 0, 0, 63, 1, 96, 0, 0, 0, 0, 0] ++ zeros 96), _, [1], rfl, rfl, ⟨by decide +kernel, rfl⟩,
      by decide +kernel⟩,
    ⟨{ demo .service with key := { fuses := 3, roles := [(63, { role := 3, alg := 1, key := [1] })] } }, _, 0,
      ask ([3, 0, 0, 0, 63, 1, 96, 0, 0, 0, 0, 0] ++ zeros 96),
      seen ([3, 0, 0, 0, 63, 1, 96, 0, 0, 0, 0, 0] ++ zeros 96), _, rfl, rfl, ⟨by decide +kernel, rfl⟩,
      by decide +kernel⟩,
    ⟨{ demo .steer with key := { inFlight := [9], slots := [(9, { state := 1 })] } }, _, 0, 9, rfl,
      by decide +kernel⟩,
    ⟨{ demo .steer with key := { inFlight := [9], slots := [(9, { state := 2 })] } }, _, 0, 9, rfl,
      by decide +kernel⟩,
    ⟨demo .steer, _, 0, 9, rfl, by decide +kernel⟩,
    ⟨{ demo .steer with key := { switchAt := some (60 * tickS) } }, _, 0, 60 * tickS, rfl, by decide +kernel⟩,
    ⟨demo .steer, _, 0, 0, rfl, by decide +kernel⟩,
    ⟨{ demo .steer with key := { previous := some ([1], 60) } }, _, 0, 60, [1], rfl, by decide +kernel⟩,
    ⟨demo .steer, _, 0, 0, [], rfl, by decide +kernel⟩,
    ⟨{ demo .steer with key := { refreshed := 59 } }, _, 0, rfl, by decide +kernel⟩,
    ⟨{ demo .steer with key := { refreshed := 60 } }, _, 0, rfl, by decide +kernel⟩,
    ⟨{ demo .steer with rtc := { aligned := true, last := 0 } }, _, 0, rfl, by decide +kernel⟩,
    ⟨{ demo .steer with rtc := { aligned := true, last := 1 } }, _, 0, rfl, by decide +kernel⟩⟩

/-- States and operands that meet the hypotheses of BundlesAreDownloaded, clause by clause. -/
theorem witness_BundlesAreDownloaded :
    (∃ (s u : State) (dt : Nat) (c : Cmd) (call : Call) (p : Bytes), u = s.elapse dt ∧ p = call.payload ∧
      Accepted rowUpdBegin c u call ∧ p.length = 56 ∧ 4 ≤ call.cap ∧
      (u.board.slotA.fitted = false ∨ u.board.slotB.fitted = false ∨ (selector u).trial = true)) ∧
    (∃ (s u : State) (dt : Nat) (c : Cmd) (call : Call) (p : Bytes), u = s.elapse dt ∧ p = call.payload ∧
      Accepted rowUpdBegin c u call ∧ p.length = 56 ∧ 4 ≤ call.cap ∧ u.board.slotA.fitted = true ∧
      u.board.slotB.fitted = true ∧ (selector u).trial = false ∧ u.upd.lock = true) ∧
    (∃ (s u : State) (dt : Nat) (c : Cmd) (call : Call) (p : Bytes), u = s.elapse dt ∧ p = call.payload ∧
      Accepted rowUpdBegin c u call ∧ p.length = 56 ∧ 4 ≤ call.cap ∧ u.board.slotA.fitted = true ∧
      u.board.slotB.fitted = true ∧ (selector u).trial = false ∧ u.upd.lock = false ∧ vbatLow u = true) ∧
    (∃ (s u : State) (dt : Nat) (c : Cmd) (call : Call) (p : Bytes), u = s.elapse dt ∧ p = call.payload ∧
      Accepted rowUpdBegin c u call ∧ p.length = 56 ∧ 4 ≤ call.cap ∧ u.board.slotA.fitted = true ∧
      u.board.slotB.fitted = true ∧ (selector u).trial = false ∧ u.upd.lock = false ∧ vbatLow u = false ∧
      beginFieldsOk (u32 p 0) (u16 p 4) (u8 p 6) (u8 p 7) = false) ∧
    (∃ (s u : State) (dt : Nat) (c : Cmd) (call : Call) (p : Bytes), u = s.elapse dt ∧ p = call.payload ∧
      Accepted rowUpdBegin c u call ∧ p.length = 56 ∧ 4 ≤ call.cap ∧ u.board.slotA.fitted = true ∧
      u.board.slotB.fitted = true ∧ (selector u).trial = false ∧ u.upd.lock = false ∧ vbatLow u = false ∧
      beginFieldsOk (u32 p 0) (u16 p 4) (u8 p 6) (u8 p 7) = true ∧ u16 p 4 < u.upd.floor) ∧
    (∃ (s u : State) (dt : Nat) (c : Cmd) (call : Call) (p : Bytes), u = s.elapse dt ∧ p = call.payload ∧
      Accepted rowUpdBegin c u call ∧ p.length = 56 ∧ 4 ≤ call.cap ∧ u.board.slotA.fitted = true ∧
      u.board.slotB.fitted = true ∧ (selector u).trial = false ∧ u.upd.lock = false ∧ vbatLow u = false ∧
      beginFieldsOk (u32 p 0) (u16 p 4) (u8 p 6) (u8 p 7) = true ∧ u.upd.floor ≤ u16 p 4 ∧
      (u.upd.stage = 0 ∨ ¬(u.upd.bytes = u32 p 0 ∧ u.upd.version = u16 p 4 ∧ u.upd.hash = slice p 8 48) ∧
      u8 p 6 = 1 ∧ call.role = 3 ∧ u.upd.version < u16 p 4)) ∧
    (∃ (s u : State) (dt : Nat) (c : Cmd) (call : Call) (p : Bytes), u = s.elapse dt ∧ p = call.payload ∧
      Accepted rowUpdBegin c u call ∧ p.length = 56 ∧ 4 ≤ call.cap ∧ u.board.slotA.fitted = true ∧
      u.board.slotB.fitted = true ∧ (selector u).trial = false ∧ u.upd.lock = false ∧ vbatLow u = false ∧
      beginFieldsOk (u32 p 0) (u16 p 4) (u8 p 6) (u8 p 7) = true ∧ u.upd.floor ≤ u16 p 4 ∧ u.upd.stage ≠ 0 ∧
      u.upd.bytes = u32 p 0 ∧ u.upd.version = u16 p 4 ∧ u.upd.hash = slice p 8 48 ∧
      updElsewhere u call.credential = false) ∧
    (∃ (s u : State) (dt : Nat) (c : Cmd) (call : Call) (p : Bytes), u = s.elapse dt ∧ p = call.payload ∧
      Accepted rowUpdBegin c u call ∧ p.length = 56 ∧ 4 ≤ call.cap ∧ u.board.slotA.fitted = true ∧
      u.board.slotB.fitted = true ∧ (selector u).trial = false ∧ u.upd.lock = false ∧ vbatLow u = false ∧
      beginFieldsOk (u32 p 0) (u16 p 4) (u8 p 6) (u8 p 7) = true ∧ u.upd.floor ≤ u16 p 4 ∧ u.upd.stage ≠ 0 ∧
      u.upd.bytes = u32 p 0 ∧ u.upd.version = u16 p 4 ∧ u.upd.hash = slice p 8 48 ∧
      updElsewhere u call.credential = true) ∧
    (∃ (s u : State) (dt : Nat) (c : Cmd) (call : Call) (p : Bytes), u = s.elapse dt ∧ p = call.payload ∧
      Accepted rowUpdBegin c u call ∧ p.length = 56 ∧ 4 ≤ call.cap ∧ u.board.slotA.fitted = true ∧
      u.board.slotB.fitted = true ∧ (selector u).trial = false ∧ u.upd.lock = false ∧ vbatLow u = false ∧
      beginFieldsOk (u32 p 0) (u16 p 4) (u8 p 6) (u8 p 7) = true ∧ u.upd.floor ≤ u16 p 4 ∧ u.upd.stage ≠ 0 ∧
      ¬(u.upd.bytes = u32 p 0 ∧ u.upd.version = u16 p 4 ∧ u.upd.hash = slice p 8 48) ∧ u8 p 6 = 1 ∧ call.role = 3 ∧
      u16 p 4 ≤ u.upd.version) ∧
    (∃ (s u : State) (dt : Nat) (c : Cmd) (call : Call) (p : Bytes), u = s.elapse dt ∧ p = call.payload ∧
      Accepted rowUpdBegin c u call ∧ p.length = 56 ∧ 4 ≤ call.cap ∧ u.board.slotA.fitted = true ∧
      u.board.slotB.fitted = true ∧ (selector u).trial = false ∧ u.upd.lock = false ∧ vbatLow u = false ∧
      beginFieldsOk (u32 p 0) (u16 p 4) (u8 p 6) (u8 p 7) = true ∧ u.upd.floor ≤ u16 p 4 ∧ u.upd.stage ≠ 0 ∧
      ¬(u.upd.bytes = u32 p 0 ∧ u.upd.version = u16 p 4 ∧ u.upd.hash = slice p 8 48) ∧ ¬(u8 p 6 = 1 ∧
      call.role = 3)) ∧
    (∃ (s u : State) (dt : Nat) (c : Cmd) (call : Call) (p : Bytes), u = s.elapse dt ∧ p = call.payload ∧
      Accepted rowUpdData c u call ∧ 68 ≤ p.length ∧ p.length ≤ 4194308 ∧ p.length % 64 = 4 ∧ 4 ≤ call.cap ∧
      u.upd.lock = true) ∧
    (∃ (s u : State) (dt : Nat) (c : Cmd) (call : Call) (p : Bytes), u = s.elapse dt ∧ p = call.payload ∧
      Accepted rowUpdData c u call ∧ 68 ≤ p.length ∧ p.length ≤ 4194308 ∧ p.length % 64 = 4 ∧ 4 ≤ call.cap ∧
      u.upd.lock = false ∧ updElsewhere u call.credential = false ∧ u.upd.stage = 1 ∧ u32 p 0 ≤ u.upd.held ∧
      u.upd.held < u32 p 0 + (p.length - 4) ∧ u32 p 0 + (p.length - 4) ≤ u.upd.bytes) ∧
    (∃ (s u : State) (dt : Nat) (c : Cmd) (call : Call) (p : Bytes), u = s.elapse dt ∧ p = call.payload ∧
      Accepted rowUpdData c u call ∧ 68 ≤ p.length ∧ p.length ≤ 4194308 ∧ p.length % 64 = 4 ∧ 4 ≤ call.cap ∧
      u.upd.lock = false ∧ updElsewhere u call.credential = false ∧ u.upd.stage = 1 ∧
      u32 p 0 + (p.length - 4) ≤ u.upd.held ∧ u32 p 0 + (p.length - 4) ≤ u.upd.bytes) ∧
    (∃ (s u : State) (dt : Nat) (c : Cmd) (call : Call) (p : Bytes), u = s.elapse dt ∧ p = call.payload ∧
      Accepted rowUpdData c u call ∧ 68 ≤ p.length ∧ p.length ≤ 4194308 ∧ p.length % 64 = 4 ∧ 4 ≤ call.cap ∧
      u.upd.lock = false ∧ updElsewhere u call.credential = false ∧ u.upd.stage = 1 ∧
      (u.upd.held < u32 p 0 ∨ u.upd.bytes < u32 p 0 + (p.length - 4))) ∧
    (∃ (s u : State) (dt : Nat) (c : Cmd) (call : Call) (p : Bytes), u = s.elapse dt ∧ p = call.payload ∧
      Accepted rowUpdData c u call ∧ 68 ≤ p.length ∧ p.length ≤ 4194308 ∧ p.length % 64 = 4 ∧ 4 ≤ call.cap ∧
      u.upd.lock = false ∧ updElsewhere u call.credential = false ∧ u.upd.stage ≠ 1) ∧
    (∃ (s u : State) (dt : Nat) (c : Cmd) (call : Call) (p : Bytes), u = s.elapse dt ∧ p = call.payload ∧
      Accepted rowUpdData c u call ∧ 68 ≤ p.length ∧ p.length ≤ 4194308 ∧ p.length % 64 = 4 ∧ 4 ≤ call.cap ∧
      u.upd.lock = false ∧ updElsewhere u call.credential = true) :=
  ⟨⟨{ demo .hold with board := { vbat := true, slotB := {} } }, _, 0,
    ask (le32 65536 ++ le16 1 ++ [0, 0] ++ zeros 48), seen (le32 65536 ++ le16 1 ++ [0, 0] ++ zeros 48), _, rfl,
    rfl, ⟨by decide +kernel, rfl⟩, by decide +kernel⟩,
    ⟨{ demo .hold with upd := { lock := true } }, _, 0, ask (le32 65536 ++ le16 1 ++ [0, 0] ++ zeros 48),
      seen (le32 65536 ++ le16 1 ++ [0, 0] ++ zeros 48), _, rfl, rfl, ⟨by decide +kernel, rfl⟩, by decide +kernel⟩,
    ⟨{ demo .hold with pmu := { powered := 0xFFE, lock := 0x1F } }, _, 0,
      ask (le32 65536 ++ le16 1 ++ [0, 0] ++ zeros 48), seen (le32 65536 ++ le16 1 ++ [0, 0] ++ zeros 48), _, rfl,
      rfl, ⟨by decide +kernel, rfl⟩, by decide +kernel⟩,
    ⟨demo .hold, _, 0, ask (zeros 56), seen (zeros 56), _, rfl, rfl, ⟨by decide +kernel, rfl⟩, by decide +kernel⟩,
    ⟨{ demo .hold with upd := { floor := 2 } }, _, 0, ask (le32 65536 ++ le16 1 ++ [0, 0] ++ zeros 48),
      seen (le32 65536 ++ le16 1 ++ [0, 0] ++ zeros 48), _, rfl, rfl, ⟨by decide +kernel, rfl⟩, by decide +kernel⟩,
    ⟨demo .hold, _, 0, ask (le32 65536 ++ le16 1 ++ [0, 0] ++ zeros 48),
      seen (le32 65536 ++ le16 1 ++ [0, 0] ++ zeros 48), _, rfl, rfl, ⟨by decide +kernel, rfl⟩, by decide +kernel⟩,
    ⟨demoUpd .hold 1, _, 0, ask (le32 65536 ++ le16 1 ++ [0, 0] ++ zeros 48),
      seen (le32 65536 ++ le16 1 ++ [0, 0] ++ zeros 48), _, rfl, rfl, ⟨by decide +kernel, rfl⟩, by decide +kernel⟩,
    ⟨{ demoUpd .hold 1 with upd := { (demoUpd .hold 1).upd with holder := some 9 } }, _, 0,
      ask (le32 65536 ++ le16 1 ++ [0, 0] ++ zeros 48), seen (le32 65536 ++ le16 1 ++ [0, 0] ++ zeros 48), _, rfl,
      rfl, ⟨by decide +kernel, rfl⟩, by decide +kernel⟩,
    ⟨demoUpd .hold 1, _, 0, ask (le32 65536 ++ le16 1 ++ [1, 0] ++ [1] ++ zeros 47),
      seen (le32 65536 ++ le16 1 ++ [1, 0] ++ [1] ++ zeros 47), _, rfl, rfl, ⟨by decide +kernel, rfl⟩,
      by decide +kernel⟩,
    ⟨demoUpd .hold 1, _, 0, ask (le32 65536 ++ le16 1 ++ [0, 0] ++ [1] ++ zeros 47),
      seen (le32 65536 ++ le16 1 ++ [0, 0] ++ [1] ++ zeros 47), _, rfl, rfl, ⟨by decide +kernel, rfl⟩,
      by decide +kernel⟩,
    ⟨{ demoUpd .hold 1 with upd := { (demoUpd .hold 1).upd with lock := true } }, _, 0, ask (le32 0 ++ zeros 64),
      seen (le32 0 ++ zeros 64), _, rfl, rfl, ⟨by decide +kernel, rfl⟩, by decide +kernel⟩,
    ⟨demoUpd .hold 1, _, 0, ask (le32 0 ++ zeros 64), seen (le32 0 ++ zeros 64), _, rfl, rfl, ⟨by decide +kernel,
      rfl⟩, by decide +kernel⟩,
    ⟨{ demoUpd .hold 1 with upd := { (demoUpd .hold 1).upd with held := 64 } }, _, 0, ask (le32 0 ++ zeros 64),
      seen (le32 0 ++ zeros 64), _, rfl, rfl, ⟨by decide +kernel, rfl⟩, by decide +kernel⟩,
    ⟨demoUpd .hold 1, _, 0, ask (le32 64 ++ zeros 64), seen (le32 64 ++ zeros 64), _, rfl, rfl, ⟨by decide +kernel,
      rfl⟩, by decide +kernel⟩,
    ⟨demoUpd .hold 3, _, 0, ask (le32 0 ++ zeros 64), seen (le32 0 ++ zeros 64), _, rfl, rfl, ⟨by decide +kernel,
      rfl⟩, by decide +kernel⟩,
    ⟨{ demoUpd .hold 1 with upd := { (demoUpd .hold 1).upd with holder := some 9 } }, _, 0,
      ask (le32 0 ++ zeros 64), seen (le32 0 ++ zeros 64), _, rfl, rfl, ⟨by decide +kernel, rfl⟩,
      by decide +kernel⟩⟩

/-- States and operands that meet the hypotheses of BundlesAreVerifiedArmedAndSettled, clause by clause. -/
theorem witness_BundlesAreVerifiedArmedAndSettled :
    (∃ (s u : State) (dt : Nat) (c : Cmd) (call : Call) (p : Bytes), u = s.elapse dt ∧ p = call.payload ∧
      Accepted rowUpdVerify c u call ∧ p = [] ∧ u.upd.lock = true) ∧
    (∃ (s u : State) (dt : Nat) (c : Cmd) (call : Call) (p : Bytes), u = s.elapse dt ∧ p = call.payload ∧
      Accepted rowUpdVerify c u call ∧ p = [] ∧ u.upd.lock = false ∧ updElsewhere u call.credential = false ∧
      u.upd.stage = 1 ∧ u.upd.held = u.upd.bytes) ∧
    (∃ (s u : State) (dt : Nat) (c : Cmd) (call : Call) (p : Bytes), u = s.elapse dt ∧ p = call.payload ∧
      Accepted rowUpdVerify c u call ∧ p = [] ∧ u.upd.lock = false ∧ updElsewhere u call.credential = false ∧
      (u.upd.stage = 3 ∨ u.upd.stage = 4)) ∧
    (∃ (s u : State) (dt : Nat) (c : Cmd) (call : Call) (p : Bytes), u = s.elapse dt ∧ p = call.payload ∧
      Accepted rowUpdVerify c u call ∧ p = [] ∧ u.upd.lock = false ∧ updElsewhere u call.credential = false ∧
      u.upd.stage ≠ 3 ∧ u.upd.stage ≠ 4 ∧ (u.upd.stage ≠ 1 ∨ u.upd.held ≠ u.upd.bytes)) ∧
    (∃ (s u : State) (dt : Nat) (c : Cmd) (call : Call) (p : Bytes), u = s.elapse dt ∧ p = call.payload ∧
      Accepted rowUpdVerify c u call ∧ p = [] ∧ u.upd.lock = false ∧ updElsewhere u call.credential = true) ∧
    (∃ (s u : State) (dt : Nat) (c : Cmd) (call : Call) (p : Bytes), u = s.elapse dt ∧ p = call.payload ∧
      Accepted rowUpdArm c u call ∧ p.length = 16 ∧ (u.upd.stage = 0 ∨ u.upd.stage = 6)) ∧
    (∃ (s u : State) (dt : Nat) (c : Cmd) (call : Call) (p : Bytes), u = s.elapse dt ∧ p = call.payload ∧
      Accepted rowUpdArm c u call ∧ p.length = 16 ∧ u.upd.stage ≠ 0 ∧ u.upd.stage ≠ 6 ∧ u.upd.stage ≠ 3 ∧
      u.upd.stage ≠ 4) ∧
    (∃ (s u : State) (dt : Nat) (c : Cmd) (call : Call) (p : Bytes), u = s.elapse dt ∧ p = call.payload ∧
      Accepted rowUpdArm c u call ∧ p.length = 16 ∧ (u.upd.stage = 3 ∨ u.upd.stage = 4) ∧ u.upd.lock = true) ∧
    (∃ (s u : State) (dt : Nat) (c : Cmd) (call : Call) (p : Bytes), u = s.elapse dt ∧ p = call.payload ∧
      Accepted rowUpdArm c u call ∧ p.length = 16 ∧ (u.upd.stage = 3 ∨ u.upd.stage = 4) ∧ u.upd.lock = false ∧
      vbatLow u = true) ∧
    (∃ (s u : State) (dt : Nat) (c : Cmd) (call : Call) (p : Bytes), u = s.elapse dt ∧ p = call.payload ∧
      Accepted rowUpdArm c u call ∧ p.length = 16 ∧ (u.upd.stage = 3 ∨ u.upd.stage = 4) ∧ u.upd.lock = false ∧
      vbatLow u = false ∧ u.sys.mode = .manual) ∧
    (∃ (s u : State) (dt : Nat) (c : Cmd) (call : Call) (p : Bytes), u = s.elapse dt ∧ p = call.payload ∧
      Accepted rowUpdArm c u call ∧ p.length = 16 ∧ (u.upd.stage = 3 ∨ u.upd.stage = 4) ∧ u.upd.lock = false ∧
      vbatLow u = false ∧ u.sys.mode ≠ .manual ∧ u8 p 15 = 0) ∧
    (∃ (s u : State) (dt : Nat) (c : Cmd) (call : Call) (p : Bytes), u = s.elapse dt ∧ p = call.payload ∧
      Accepted rowUpdArm c u call ∧ p.length = 16 ∧ (u.upd.stage = 3 ∨ u.upd.stage = 4) ∧ u.upd.lock = false ∧
      vbatLow u = false ∧ u.sys.mode ≠ .manual ∧ u8 p 15 = 1 ∧ armRange u (tsField p 0) = true ∧
      armInHold u (tsField p 0) = false) ∧
    (∃ (s u : State) (dt : Nat) (c : Cmd) (call : Call) (p : Bytes), u = s.elapse dt ∧ p = call.payload ∧
      Accepted rowUpdArm c u call ∧ p.length = 16 ∧ (u.upd.stage = 3 ∨ u.upd.stage = 4) ∧ u.upd.lock = false ∧
      vbatLow u = false ∧ u.sys.mode ≠ .manual ∧ u8 p 15 = 1 ∧ armRange u (tsField p 0) = true ∧
      armInHold u (tsField p 0) = true) ∧
    (∃ (s u : State) (dt : Nat) (c : Cmd) (call : Call) (p : Bytes), u = s.elapse dt ∧ p = call.payload ∧
      Accepted rowUpdArm c u call ∧ p.length = 16 ∧ (u.upd.stage = 3 ∨ u.upd.stage = 4) ∧ u.upd.lock = false ∧
      vbatLow u = false ∧ u.sys.mode ≠ .manual ∧ (1 < u8 p 15 ∨ u8 p 15 = 1 ∧ armRange u (tsField p 0) = false)) ∧
    (∃ (s u : State) (dt : Nat) (c : Cmd) (call : Call) (p : Bytes), u = s.elapse dt ∧ p = call.payload ∧
      Accepted rowUpdStatus c u call ∧ p = [] ∧ 20 ≤ call.cap) ∧
    (∃ (s u : State) (dt : Nat) (c : Cmd) (call : Call) (p : Bytes), u = s.elapse dt ∧ p = call.payload ∧
      Accepted rowUpdLock c u call ∧ p.length = 4 ∧ u8 p 0 ≤ 1 ∧ allZero (slice p 1 3) = true) ∧
    (∃ (s u : State) (dt : Nat) (c : Cmd) (call : Call) (p : Bytes), u = s.elapse dt ∧ p = call.payload ∧
      Accepted rowUpdLock c u call ∧ p.length = 4 ∧ (1 < u8 p 0 ∨ allZero (slice p 1 3) = false)) ∧
    (∃ (s u : State) (dt : Nat) (c : Cmd) (call : Call), u = s.elapse dt ∧ Accepted rowUpdConfirm c u call ∧
      call.payload = [] ∧ u.upd.stage = 6) ∧
    (∃ (s u : State) (dt : Nat) (c : Cmd) (call : Call), u = s.elapse dt ∧ Accepted rowUpdConfirm c u call ∧
      call.payload = [] ∧ u.upd.stage ≠ 6) ∧
    (∃ (s u : State) (dt : Nat) (c : Cmd) (call : Call), u = s.elapse dt ∧ Accepted rowUpdAbort c u call ∧
      call.payload = [] ∧ u.upd.stage = 0) ∧
    (∃ (s u : State) (dt : Nat) (c : Cmd) (call : Call), u = s.elapse dt ∧ Accepted rowUpdAbort c u call ∧
      call.payload = [] ∧ (u.upd.holder = some call.credential ∨ call.role = 3) ∧ u.upd.stage ≠ 0 ∧
      u.upd.stage ≠ 6) ∧
    (∃ (s u : State) (dt : Nat) (c : Cmd) (call : Call), u = s.elapse dt ∧ Accepted rowUpdAbort c u call ∧
      call.payload = [] ∧ (u.upd.holder = some call.credential ∨ call.role = 3) ∧ u.upd.stage = 6 ∧
      alwaysOn u = true) ∧
    (∃ (s u : State) (dt : Nat) (c : Cmd) (call : Call), u = s.elapse dt ∧ Accepted rowUpdAbort c u call ∧
      call.payload = [] ∧ u.upd.holder ≠ some call.credential ∧ call.role ≠ 3 ∧ u.upd.stage ≠ 0) ∧
    (∃ (s u : State) (dt : Nat), u = s.elapse dt ∧ u.upd.holder ≠ none ∧ u.upd.lapsed = false ∧
      passed u u.upd.last (3600 * tickS) = true) ∧
    (∃ (s u : State) (dt : Nat), u = s.elapse dt ∧
      (u.upd.holder = none ∨ u.upd.lapsed = true ∨ passed u u.upd.last (3600 * tickS) = false)) :=
  ⟨⟨{ demoUpd .hold 1 with upd := { (demoUpd .hold 1).upd with lock := true } }, _, 0, ask [], seen [], _, rfl,
    rfl, ⟨by decide +kernel, rfl⟩, rfl, by decide +kernel⟩,
    ⟨{ demo .hold with upd := { stage := 1 } }, _, 0, ask [], seen [], _, rfl, rfl, ⟨by decide +kernel, rfl⟩, rfl,
      by decide +kernel⟩,
    ⟨demoUpd .hold 3, _, 0, ask [], seen [], _, rfl, rfl, ⟨by decide +kernel, rfl⟩, rfl, by decide +kernel⟩,
    ⟨demoUpd .hold 1, _, 0, ask [], seen [], _, rfl, rfl, ⟨by decide +kernel, rfl⟩, rfl, by decide +kernel⟩,
    ⟨{ demoUpd .hold 3 with upd := { (demoUpd .hold 3).upd with holder := some 9 } }, _, 0, ask [], seen [], _,
      rfl, rfl, ⟨by decide +kernel, rfl⟩, rfl, by decide +kernel⟩,
    ⟨demoUpd .hold 6, _, 0, ask (le64 120 ++ zeros 6 ++ [0, 1]), seen (le64 120 ++ zeros 6 ++ [0, 1]), _, rfl, rfl,
      ⟨by decide +kernel, rfl⟩, by decide +kernel⟩,
    ⟨demoUpd .hold 1, _, 0, ask (le64 120 ++ zeros 6 ++ [0, 1]), seen (le64 120 ++ zeros 6 ++ [0, 1]), _, rfl, rfl,
      ⟨by decide +kernel, rfl⟩, by decide +kernel⟩,
    ⟨{ demoUpd .hold 3 with upd := { (demoUpd .hold 3).upd with lock := true } }, _, 0,
      ask (le64 120 ++ zeros 6 ++ [0, 1]), seen (le64 120 ++ zeros 6 ++ [0, 1]), _, rfl, rfl, ⟨by decide +kernel,
      rfl⟩, by decide +kernel⟩,
    ⟨{ demoUpd .hold 3 with pmu := { powered := 0xFFE, lock := 0x1F } }, _, 0, ask (le64 120 ++ zeros 6 ++ [0, 1]),
      seen (le64 120 ++ zeros 6 ++ [0, 1]), _, rfl, rfl, ⟨by decide +kernel, rfl⟩, by decide +kernel⟩,
    ⟨demoUpd .manual 3, _, 0, ask (le64 120 ++ zeros 6 ++ [0, 1]), seen (le64 120 ++ zeros 6 ++ [0, 1]), _, rfl,
      rfl, ⟨by decide +kernel, rfl⟩, by decide +kernel⟩,
    ⟨demoUpd .hold 4, _, 0, ask (zeros 16), seen (zeros 16), _, rfl, rfl, ⟨by decide +kernel, rfl⟩,
      by decide +kernel⟩,
    ⟨demoUpd .hold 3, _, 0, ask (le64 120 ++ zeros 6 ++ [0, 1]), seen (le64 120 ++ zeros 6 ++ [0, 1]), _, rfl, rfl,
      ⟨by decide +kernel, rfl⟩, by decide +kernel⟩,
    ⟨{ demoUpd .hold 3 with pln := { ledger := some { demoLedger with t0 := 120, stepS := 60, horizon := 2 }, effectP := defaultRecord true } },
      _, 0, ask (le64 120 ++ zeros 6 ++ [0, 1]), seen (le64 120 ++ zeros 6 ++ [0, 1]), _, rfl, rfl,
      ⟨by decide +kernel, rfl⟩, by decide +kernel⟩,
    ⟨demoUpd .hold 3, _, 0, ask (zeros 15 ++ [2]), seen (zeros 15 ++ [2]), _, rfl, rfl, ⟨by decide +kernel, rfl⟩,
      by decide +kernel⟩,
    ⟨demoUpd .hold 3, _, 0, ask [], seen [], _, rfl, rfl, ⟨by decide +kernel, rfl⟩, rfl, by decide +kernel⟩,
    ⟨demoUpd .hold 3, _, 0, ask [1, 0, 0, 0], seen [1, 0, 0, 0], _, rfl, rfl, ⟨by decide +kernel, rfl⟩,
      by decide +kernel⟩,
    ⟨demoUpd .hold 3, _, 0, ask [2, 0, 0, 0], seen [2, 0, 0, 0], _, rfl, rfl, ⟨by decide +kernel, rfl⟩,
      by decide +kernel⟩,
    ⟨demoUpd .hold 6, _, 0, ask [], seen [], rfl, ⟨by decide +kernel, rfl⟩, by decide +kernel⟩,
    ⟨demoUpd .hold 3, _, 0, ask [], seen [], rfl, ⟨by decide +kernel, rfl⟩, by decide +kernel⟩,
    ⟨demo .hold, _, 0, ask [], seen [], rfl, ⟨by decide +kernel, rfl⟩, by decide +kernel⟩,
    ⟨demoUpd .hold 3, _, 0, ask [], seen [], rfl, ⟨by decide +kernel, rfl⟩, by decide +kernel⟩,
    ⟨demoUpd .hold 6, _, 0, ask [], seen [], rfl, ⟨by decide +kernel, rfl⟩, by decide +kernel⟩,
    ⟨{ demoUpd .hold 3 with vcp := { (demo .hold).vcp with sessions := [{ demoSession with role := 2 }] } }, _, 0,
      ask [], { seen [] with role := 2 }, rfl, ⟨by decide +kernel, rfl⟩, by decide +kernel⟩,
    ⟨{ demo .hold with upd := { holder := some 7, last := 0 }, tim := { counter := 3600 * tickS } }, _, 0, rfl,
      by decide +kernel⟩,
    ⟨demo .hold, _, 0, rfl, by decide +kernel⟩⟩

/-- States and operands that meet the hypotheses of ActivationRuns, clause by clause. -/
theorem witness_ActivationRuns :
    (∃ (s u : State) (dt : Nat), u = s.elapse dt ∧ u.upd.stage = 4 ∧ armPassed u = true ∧
      u.tim.legal.valid = true ∧ u.upd.waiting = none ∧ u.sys.mode.live = true ∧ activationStatus u = stOk ∧
      (u.brd.record.paired && u.sys.token) = false ∧ alwaysOn u = true) ∧
    (∃ (s u : State) (dt : Nat), u = s.elapse dt ∧ u.upd.stage = 4 ∧ armPassed u = true ∧
      u.tim.legal.valid = true ∧ u.upd.waiting = none ∧ u.sys.mode.live = true ∧ activationStatus u ≠ stOk) ∧
    (∃ (s u : State) (dt : Nat), u = s.elapse dt ∧ u.upd.stage = 4 ∧ armPassed u = true ∧
      u.tim.legal.valid = true ∧ u.upd.waiting = none ∧ u.sys.mode.live = true ∧ activationStatus u = stOk ∧
      u.brd.record.paired = true ∧ u.sys.token = true) ∧
    (∃ (s u : State) (dt : Nat), u = s.elapse dt ∧
      (u.upd.stage ≠ 4 ∨ armPassed u = false ∨ u.tim.legal.valid = false ∨ u.upd.waiting ≠ none ∨ u.sys.mode.live = false)) ∧
    (∃ (s u : State) (dt : Nat), u = s.elapse dt ∧ u.upd.stage = 4 ∧ u.upd.waiting ≠ none ∧ u.sys.token = true ∧
      partnerIsReady u = true ∧ activationStatus u = stOk ∧ loopsDrive u.sys.mode = false ∧ alwaysOn u = true) ∧
    (∃ (s u : State) (dt : Nat), u = s.elapse dt ∧ u.upd.stage = 4 ∧ u.upd.waiting ≠ none ∧ u.sys.token = true ∧
      partnerIsReady u = true ∧ activationStatus u = stOk ∧ loopsDrive u.sys.mode = true) ∧
    (∃ (s u : State) (dt : Nat), u = s.elapse dt ∧ u.upd.stage = 4 ∧ u.upd.waiting ≠ none ∧ u.sys.token = true ∧
      partnerIsReady u = true ∧ activationStatus u ≠ stOk) ∧
    (∃ (s u : State) (dt : Nat), u = s.elapse dt ∧
      (u.upd.stage ≠ 4 ∨ u.upd.waiting = none ∨ u.sys.token = false ∨ partnerIsReady u = false)) ∧
    (∃ (s u : State) (dt x : Nat), u = s.elapse dt ∧ u.upd.stage = 4 ∧ u.upd.waiting = some x ∧
      passed u x (u.brd.record.actWaitS * tickS) = true) ∧
    (∃ (s u : State) (dt x : Nat), u = s.elapse dt ∧
      (u.upd.stage ≠ 4 ∨ u.upd.waiting = none ∨ u.upd.waiting = some x ∧
      passed u x (u.brd.record.actWaitS * tickS) = false)) ∧
    (∃ (s u : State) (dt : Nat), u = s.elapse dt ∧ u.upd.stage = 6 ∧
      passed u u.pln.bootEnd (u.cfg.confirmS * tickS) = true ∧ u.sys.mode.live = true ∧ alwaysOn u = true) ∧
    (∃ (s u : State) (dt : Nat), u = s.elapse dt ∧
      (u.upd.stage ≠ 6 ∨ passed u u.pln.bootEnd (u.cfg.confirmS * tickS) = false ∨ u.sys.mode.live = false)) :=
  ⟨⟨demoArmed .hold false false, _, 0, rfl, by decide +kernel⟩,
    ⟨demoArmed .hold false true, _, 0, rfl, by decide +kernel⟩,
    ⟨demoArmed .hold true false, _, 0, rfl, by decide +kernel⟩,
    ⟨demo .hold, _, 0, rfl, by decide +kernel⟩,
    ⟨{ demoArmed .service true false with upd := { (demoArmed .service true false).upd with waiting := some 0 } },
      _, 0, rfl, by decide +kernel⟩,
    ⟨{ demoArmed .hold true false with upd := { (demoArmed .hold true false).upd with waiting := some 0 } }, _, 0,
      rfl, by decide +kernel⟩,
    ⟨{ demoArmed .hold true true with upd := { (demoArmed .hold true true).upd with waiting := some 0 } }, _, 0,
      rfl, by decide +kernel⟩,
    ⟨demo .hold, _, 0, rfl, by decide +kernel⟩,
    ⟨{ demo .hold with upd := { stage := 4, waiting := some 0 }, brd := { record := { actWaitS := 60 } } }, _, 0,
      0, rfl, by decide +kernel⟩,
    ⟨demo .hold, _, 0, 0, rfl, by decide +kernel⟩,
    ⟨{ demo .hold with upd := { stage := 6 }, cfg := { confirmS := 60 } }, _, 0, rfl, by decide +kernel⟩,
    ⟨demo .hold, _, 0, rfl, by decide +kernel⟩⟩

/-- States and operands that meet the hypotheses of ConfigurationIsStagedAndCommitted, clause by clause. -/
theorem witness_ConfigurationIsStagedAndCommitted :
    (∃ (s u : State) (dt : Nat) (c : Cmd) (call : Call) (p : Bytes) (m : Memory), u = s.elapse dt ∧
      p = call.payload ∧ Accepted rowCfgRead c u call ∧ p.length = 8 ∧ 1 ≤ u16 p 2 ∧ u16 p 2 ≤ 16380 ∧
      4 + u16 p 2 ≤ call.cap ∧ u8 p 0 ≤ 2 ∧ u8 p 1 = 0 ∧
      (if u8 p 0 = 2 then copyInForce u else some (copyOf u (u8 p 0 + 1))) = some m ∧ img32 m 0 = 0x47465A56 ∧
      u32 p 4 + u16 p 2 ≤ 128 + img32 m 12) ∧
    (∃ (s u : State) (dt : Nat) (c : Cmd) (call : Call) (p : Bytes) (m : Memory), u = s.elapse dt ∧
      p = call.payload ∧ Accepted rowCfgRead c u call ∧ p.length = 8 ∧ 1 ≤ u16 p 2 ∧ u16 p 2 ≤ 16380 ∧
      4 + u16 p 2 ≤ call.cap ∧ u8 p 0 ≤ 2 ∧ u8 p 1 = 0 ∧
      (if u8 p 0 = 2 then copyInForce u else some (copyOf u (u8 p 0 + 1))) = some m ∧ img32 m 0 = 0x47465A56 ∧
      128 + img32 m 12 < u32 p 4 + u16 p 2) ∧
    (∃ (s u : State) (dt : Nat) (c : Cmd) (call : Call) (p : Bytes) (m : Memory), u = s.elapse dt ∧
      p = call.payload ∧ Accepted rowCfgRead c u call ∧ p.length = 8 ∧ 1 ≤ u16 p 2 ∧ u16 p 2 ≤ 16380 ∧
      4 + u16 p 2 ≤ call.cap ∧ u8 p 0 ≤ 2 ∧ u8 p 1 = 0 ∧
      ((if u8 p 0 = 2 then copyInForce u else some (copyOf u (u8 p 0 + 1))) = none ∨ (if u8 p 0 = 2 then copyInForce u else some (copyOf u (u8 p 0 + 1))) = some m ∧
      img32 m 0 ≠ 0x47465A56)) ∧
    (∃ (s u : State) (dt : Nat) (c : Cmd) (call : Call) (p : Bytes), u = s.elapse dt ∧ p = call.payload ∧
      Accepted rowCfgStage c u call ∧ 5 ≤ p.length ∧ p.length ≤ 16384 ∧ Memory.wf u.cfg.staging = true ∧
      u32 p 0 + (p.length - 4) ≤ 524288) ∧
    (∃ (s u : State) (dt : Nat) (c : Cmd) (call : Call) (p : Bytes), u = s.elapse dt ∧ p = call.payload ∧
      Accepted rowCfgStage c u call ∧ 5 ≤ p.length ∧ p.length ≤ 16384 ∧ 524288 < u32 p 0 + (p.length - 4)) ∧
    (∃ (s u : State) (dt : Nat) (c : Cmd) (call : Call) (p : Bytes) (w : _) (x : _), u = s.elapse dt ∧
      p = call.payload ∧ Accepted rowCfgCommit c u call ∧ p = [] ∧ 4 ≤ call.cap ∧
      copyHeaderOk u.cfg.staging = true ∧ w = enter call (touch c u) ∧
      applyCopy policyStale u.cfg.staging w = .ok x ∧ x.sys.resetWanted = none) ∧
    (∃ (s u : State) (dt : Nat) (c : Cmd) (call : Call) (p : Bytes) (w : _) (x : _), u = s.elapse dt ∧
      p = call.payload ∧ Accepted rowCfgCommit c u call ∧ p = [] ∧ 4 ≤ call.cap ∧
      copyHeaderOk u.cfg.staging = true ∧ w = enter call (touch c u) ∧
      applyCopy policyStale u.cfg.staging w = .ok x) ∧
    (∃ (s u : State) (dt : Nat) (c : Cmd) (call : Call) (p : Bytes) (w : _) (e : _) (o : _), u = s.elapse dt ∧
      p = call.payload ∧ Accepted rowCfgCommit c u call ∧ p = [] ∧ 4 ≤ call.cap ∧
      copyHeaderOk u.cfg.staging = true ∧ w = enter call (touch c u) ∧
      applyCopy policyStale u.cfg.staging w = .error (e, o)) :=
  ⟨⟨{ demo .service with cfg := { copyA := stagedEmpty } }, _, 0, ask [0, 0, 128, 0, 0, 0, 0, 0],
    seen [0, 0, 128, 0, 0, 0, 0, 0], _, stagedEmpty, rfl, rfl, ⟨by decide +kernel, rfl⟩, by decide +kernel⟩,
    ⟨{ demo .service with cfg := { copyA := stagedEmpty } }, _, 0, ask [0, 0, 129, 0, 0, 0, 0, 0],
      seen [0, 0, 129, 0, 0, 0, 0, 0], _, stagedEmpty, rfl, rfl, ⟨by decide +kernel, rfl⟩, by decide +kernel⟩,
    ⟨demo .service, _, 0, ask [2, 0, 128, 0, 0, 0, 0, 0], seen [2, 0, 128, 0, 0, 0, 0, 0], _, [], rfl, rfl,
      ⟨by decide +kernel, rfl⟩, by decide +kernel⟩,
    ⟨demo .service, _, 0, ask (le32 524287 ++ [0xAB]), seen (le32 524287 ++ [0xAB]), _, rfl, rfl,
      ⟨by decide +kernel, rfl⟩, by decide +kernel⟩,
    ⟨demo .service, _, 0, ask (le32 524288 ++ [0xAB]), seen (le32 524288 ++ [0xAB]), _, rfl, rfl,
      ⟨by decide +kernel, rfl⟩, by decide +kernel⟩,
    ⟨{ demo .service with cfg := { staging := stagedEmpty } }, _, 0, ask [], seen [], _, _, _, rfl, rfl,
      ⟨by decide +kernel, rfl⟩, rfl, by decide +kernel, by decide +kernel, rfl, rfl, by decide +kernel⟩,
    ⟨{ demo .service with cfg := { staging := stagedEmpty } }, _, 0, ask [], seen [], _, _, _, rfl, rfl,
      ⟨by decide +kernel, rfl⟩, rfl, by decide +kernel, by decide +kernel, rfl, rfl⟩,
    ⟨{ demo .service with cfg := { staging := stagedCut } }, _, 0, ask [], seen [], _, _, _, _, rfl, rfl,
      ⟨by decide +kernel, rfl⟩, rfl, by decide +kernel, by decide +kernel, rfl, rfl⟩⟩

/-- States and operands that meet the hypotheses of RecordsAreTakenReadAndCleared, clause by clause. -/
theorem witness_RecordsAreTakenReadAndCleared :
    (∃ (s u : State) (dt : Nat) (code : Half), u = s.elapse dt ∧ alwaysOn u = true ∧ code.toNat < 192 ∧
      u.log.fifo.length < 64) ∧
    (∃ (s u : State) (dt : Nat) (code : Half), u = s.elapse dt ∧ alwaysOn u = true ∧ code.toNat < 192 ∧
      64 ≤ u.log.fifo.length) ∧
    (∃ (s u : State) (dt : Nat) (code : Half), u = s.elapse dt ∧ (alwaysOn u = false ∨ 192 ≤ code.toNat)) ∧
    (∃ (s u : State) (dt : Nat) (e : Intake) (es : List Intake), u = s.elapse dt ∧ u.log.fifo = e :: es ∧
      e.begun = true ∧ u.log.running = true) ∧
    (∃ (s u : State) (dt : Nat) (e : Intake) (es : List Intake), u = s.elapse dt ∧
      (u.log.fifo = [] ∨ u.log.running = false ∨ u.log.fifo = e :: es ∧ e.begun = false)) ∧
    (∃ (s u : State) (dt : Nat) (c : Cmd) (call : Call) (p : Bytes) (rs : List Record), u = s.elapse dt ∧
      p = call.payload ∧ Accepted rowRecRead c u call ∧ p.length = 8 ∧ u16 p 6 = 0 ∧ 1 ≤ u16 p 4 ∧
      u16 p 4 ≤ 34816 ∧ 16 + 32 * u16 p 4 ≤ call.limit ∧ 16 + 32 * u16 p 4 ≤ call.cap ∧
      rs = (recordsAt u.log (u32 p 0)).take (u16 p 4)) ∧
    (∃ (s u : State) (dt : Nat) (c : Cmd) (call : Call) (p : Bytes), u = s.elapse dt ∧ p = call.payload ∧
      Accepted rowRecRead c u call ∧ p.length = 8 ∧
      (u16 p 4 = 0 ∨ 34816 < u16 p 4 ∨ call.limit < 16 + 32 * u16 p 4)) ∧
    (∃ (s u : State) (dt : Nat) (c : Cmd) (call : Call) (p : Bytes), u = s.elapse dt ∧ p = call.payload ∧
      Accepted rowRecClear c u call ∧ p = [] ∧ 4 ≤ call.cap) ∧
    (∃ (s u : State) (dt : Nat) (c : Cmd) (call : Call) (p : Bytes), u = s.elapse dt ∧ p = call.payload ∧
      Accepted rowRecInfo c u call ∧ p = [] ∧ 16 ≤ call.cap) :=
  ⟨⟨demo .steer, _, 0, 191, rfl, by decide +kernel⟩,
    ⟨{ demo .steer with log := { running := true, fifo := List.replicate 64 (demoIntake true) } }, _, 0, 191, rfl,
      by decide +kernel⟩,
    ⟨demo .steer, _, 0, 192, rfl, by decide +kernel⟩,
    ⟨{ demo .steer with log := { running := true, fifo := [demoIntake true] } }, _, 0, demoIntake true, [], rfl,
      by decide +kernel⟩,
    ⟨demo .steer, _, 0, demoIntake true, [], rfl, by decide +kernel⟩,
    ⟨demo .steer, _, 0, ask [0, 0, 0, 0, 1, 0, 0, 0], seen [0, 0, 0, 0, 1, 0, 0, 0], _, [], rfl, rfl,
      ⟨by decide +kernel, rfl⟩, by decide +kernel⟩,
    ⟨demo .steer, _, 0, ask (zeros 8), seen (zeros 8), _, rfl, rfl, ⟨by decide +kernel, rfl⟩, by decide +kernel⟩,
    ⟨demo .steer, _, 0, ask [], seen [], _, rfl, rfl, ⟨by decide +kernel, rfl⟩, rfl, by decide +kernel⟩,
    ⟨demo .steer, _, 0, ask [], seen [], _, rfl, rfl, ⟨by decide +kernel, rfl⟩, rfl, by decide +kernel⟩⟩

/-- States and operands that meet the hypotheses of DumpsAreRead, clause by clause. -/
theorem witness_DumpsAreRead :
    (∃ (s u : State) (dt : Nat) (c : Cmd) (call : Call) (p : Bytes) (x : Summary), u = s.elapse dt ∧
      p = call.payload ∧ Accepted rowDmpInfo c u call ∧ p = [] ∧ 16 ≤ call.cap ∧ u.dmp.summary = some x) ∧
    (∃ (s u : State) (dt : Nat) (c : Cmd) (call : Call) (p : Bytes), u = s.elapse dt ∧ p = call.payload ∧
      Accepted rowDmpInfo c u call ∧ p = [] ∧ 16 ≤ call.cap ∧ u.dmp.summary = none) ∧
    (∃ (s u : State) (dt : Nat) (c : Cmd) (call : Call) (p : Bytes) (x : Summary), u = s.elapse dt ∧
      p = call.payload ∧ Accepted rowDmpRead c u call ∧ p.length = 12 ∧ allZero (slice p 1 3) = true ∧
      1 ≤ u32 p 8 ∧ u32 p 8 ≤ call.limit ∧ u32 p 8 ≤ call.cap ∧ u8 p 0 = 0 ∧ u.dmp.summary = some x ∧
      u32 p 4 + u32 p 8 ≤ 65536) ∧
    (∃ (s u : State) (dt : Nat) (c : Cmd) (call : Call) (p : Bytes) (f : FullDump), u = s.elapse dt ∧
      p = call.payload ∧ Accepted rowDmpRead c u call ∧ p.length = 12 ∧ allZero (slice p 1 3) = true ∧
      1 ≤ u32 p 8 ∧ u32 p 8 ≤ call.limit ∧ u32 p 8 ≤ call.cap ∧ u8 p 0 = 1 ∧ u.sys.mode = .dump ∧
      u.dmp.full = some f ∧ u32 p 4 + u32 p 8 ≤ f.bytes) ∧
    (∃ (s u : State) (dt : Nat) (c : Cmd) (call : Call) (p : Bytes) (x : Summary) (f : FullDump), u = s.elapse dt ∧
      p = call.payload ∧ Accepted rowDmpRead c u call ∧ p.length = 12 ∧ allZero (slice p 1 3) = true ∧
      1 ≤ u32 p 8 ∧ u32 p 8 ≤ call.limit ∧ u32 p 8 ≤ call.cap ∧ (u8 p 0 = 0 ∧ u.dmp.summary = some x ∧
      65536 < u32 p 4 + u32 p 8 ∨ u8 p 0 = 1 ∧ u.sys.mode = .dump ∧ u.dmp.full = some f ∧
      f.bytes < u32 p 4 + u32 p 8)) ∧
    (∃ (s u : State) (dt : Nat) (c : Cmd) (call : Call) (p : Bytes), u = s.elapse dt ∧ p = call.payload ∧
      Accepted rowDmpRead c u call ∧ p.length = 12 ∧ allZero (slice p 1 3) = true ∧ 1 ≤ u32 p 8 ∧
      u32 p 8 ≤ call.limit ∧ u32 p 8 ≤ call.cap ∧ (u8 p 0 = 0 ∧ u.dmp.summary = none ∨ u8 p 0 = 1 ∧
      (u.sys.mode ≠ .dump ∨ u.dmp.full = none))) :=
  ⟨⟨{ demo .dump with dmp := { summary := some (demoSummary false) } }, _, 0, ask [], seen [], _,
    demoSummary false, rfl, rfl, ⟨by decide +kernel, rfl⟩, rfl, by decide +kernel⟩,
    ⟨demo .dump, _, 0, ask [], seen [], _, rfl, rfl, ⟨by decide +kernel, rfl⟩, rfl, by decide +kernel⟩,
    ⟨{ demo .dump with dmp := { summary := some (demoSummary false) } }, _, 0,
      ask ([0, 0, 0, 0] ++ le32 65535 ++ le32 1), seen ([0, 0, 0, 0] ++ le32 65535 ++ le32 1), _,
      demoSummary false, rfl, rfl, ⟨by decide +kernel, rfl⟩, by decide +kernel⟩,
    ⟨{ demo .dump with dmp := { full := some { bytes := 4096, heap := 0, planner := 0, collector := 0, windows := [], records := [], hash := [], free := 0 } } },
      _, 0, ask ([1, 0, 0, 0] ++ le32 4095 ++ le32 1), seen ([1, 0, 0, 0] ++ le32 4095 ++ le32 1), _,
      { bytes := 4096, heap := 0, planner := 0, collector := 0, windows := [], records := [], hash := [], free := 0 },
      rfl, rfl, ⟨by decide +kernel, rfl⟩, by decide +kernel⟩,
    ⟨{ demo .dump with dmp := { summary := some (demoSummary false) } }, _, 0,
      ask ([0, 0, 0, 0] ++ le32 65536 ++ le32 1), seen ([0, 0, 0, 0] ++ le32 65536 ++ le32 1), _,
      demoSummary false,
      { bytes := 4096, heap := 0, planner := 0, collector := 0, windows := [], records := [], hash := [], free := 0 },
      rfl, rfl, ⟨by decide +kernel, rfl⟩, by decide +kernel⟩,
    ⟨demo .dump, _, 0, ask ([0, 0, 0, 0] ++ le32 65535 ++ le32 1), seen ([0, 0, 0, 0] ++ le32 65535 ++ le32 1), _,
      rfl, rfl, ⟨by decide +kernel, rfl⟩, by decide +kernel⟩⟩

/-- States and operands that meet the hypotheses of TimeIsReadAndSet, clause by clause. -/
theorem witness_TimeIsReadAndSet :
    (∃ (s u : State) (dt : Nat) (c : Cmd) (call : Call) (p : Bytes), u = s.elapse dt ∧ p = call.payload ∧
      Accepted rowTimRead c u call ∧ p = [] ∧ 40 ≤ call.cap) ∧
    (∃ (s u : State) (dt : Nat) (c : Cmd) (call : Call) (p : Bytes), u = s.elapse dt ∧ p = call.payload ∧
      Accepted rowTimLegalSet c u call ∧ p.length = 16 ∧ u8 p 14 = 0 ∧ u8 p 15 = 1 ∧ u32 p 8 ≤ 999999999 ∧
      u.tim.legal.valid = false) ∧
    (∃ (s u : State) (dt : Nat) (c : Cmd) (call : Call) (p : Bytes), u = s.elapse dt ∧ p = call.payload ∧
      Accepted rowTimLegalSet c u call ∧ p.length = 16 ∧ u8 p 14 = 0 ∧ u8 p 15 = 1 ∧ u32 p 8 ≤ 999999999 ∧
      u.tim.legal.valid = true) ∧
    (∃ (s u : State) (dt : Nat) (c : Cmd) (call : Call) (p : Bytes), u = s.elapse dt ∧ p = call.payload ∧
      Accepted rowTimLegalSet c u call ∧ p.length = 16 ∧ (u8 p 14 ≠ 0 ∨ u8 p 15 = 0 ∨ 999999999 < u32 p 8)) ∧
    (∃ (s u : State) (dt : Nat) (c : Cmd) (call : Call) (p : Bytes), u = s.elapse dt ∧ p = call.payload ∧
      Accepted rowTimServoSet c u call ∧ p.length = 40 ∧ servoFieldsOk p = true) ∧
    (∃ (s u : State) (dt : Nat) (c : Cmd) (call : Call) (p : Bytes), u = s.elapse dt ∧ p = call.payload ∧
      Accepted rowTimServoSet c u call ∧ p.length = 40 ∧ servoFieldsOk p = false) ∧
    (∃ (s u : State) (dt : Nat) (c : Cmd) (call : Call) (p : Bytes), u = s.elapse dt ∧ p = call.payload ∧
      Accepted rowTimPtpSet c u call ∧ p.length = 36 ∧ u8 p 0 ≤ 7 ∧ allZero (slice p 1 3) = true ∧
      ptpFieldsOk (p.drop 4) = true ∧ domainShared u (u8 p 0) (ptpOf (p.drop 4)) = true ∧
      prpAgrees u (u8 p 0) (ptpOf (p.drop 4)) = true ∧ slowSgmii u (u8 p 0) = false) ∧
    (∃ (s u : State) (dt : Nat) (c : Cmd) (call : Call) (p : Bytes), u = s.elapse dt ∧ p = call.payload ∧
      Accepted rowTimPtpSet c u call ∧ p.length = 36 ∧
      (7 < u8 p 0 ∨ allZero (slice p 1 3) = false ∨ ptpFieldsOk (p.drop 4) = false ∨ domainShared u (u8 p 0) (ptpOf (p.drop 4)) = false ∨ prpAgrees u (u8 p 0) (ptpOf (p.drop 4)) = false ∨ slowSgmii u (u8 p 0) = true)) :=
  ⟨⟨demo .steer, _, 0, ask [], seen [], _, rfl, rfl, ⟨by decide +kernel, rfl⟩, rfl, by decide +kernel⟩,
    ⟨{ demo .service with tim := { counter := 5 } }, _, 0, ask (le64 9 ++ le32 999999999 ++ [0, 0, 0, 1]),
      seen (le64 9 ++ le32 999999999 ++ [0, 0, 0, 1]), _, rfl, rfl, ⟨by decide +kernel, rfl⟩, by decide +kernel⟩,
    ⟨demo .service, _, 0, ask (le64 9 ++ le32 999999999 ++ [0, 0, 0, 1]),
      seen (le64 9 ++ le32 999999999 ++ [0, 0, 0, 1]), _, rfl, rfl, ⟨by decide +kernel, rfl⟩, by decide +kernel⟩,
    ⟨{ demo .service with tim := { counter := 5 } }, _, 0, ask (zeros 16), seen (zeros 16), _, rfl, rfl,
      ⟨by decide +kernel, rfl⟩, by decide +kernel⟩,
    ⟨demo .service, _, 0,
      ask ([0, 1, 2, 0] ++ le32 1000 ++ le32 10 ++ le32 10 ++ le32 0x3F333333 ++ le32 0x3E99999A ++ le32 100 ++ le32 1 ++ zeros 8),
      seen ([0, 1, 2, 0] ++ le32 1000 ++ le32 10 ++ le32 10 ++ le32 0x3F333333 ++ le32 0x3E99999A ++ le32 100 ++ le32 1 ++ zeros 8),
      _, rfl, rfl, ⟨by decide +kernel, rfl⟩, by decide +kernel⟩,
    ⟨demo .service, _, 0, ask (zeros 40), seen (zeros 40), _, rfl, rfl, ⟨by decide +kernel, rfl⟩,
      by decide +kernel⟩,
    ⟨demo .service, _, 0, ask ([7, 0, 0, 0] ++ [1, 0, 0, 2, 0, 1, 1, 4, 5, 10] ++ zeros 22),
      seen ([7, 0, 0, 0] ++ [1, 0, 0, 2, 0, 1, 1, 4, 5, 10] ++ zeros 22), _, rfl, rfl, ⟨by decide +kernel, rfl⟩,
      by decide +kernel⟩,
    ⟨demo .service, _, 0, ask ([8, 0, 0, 0] ++ [1, 0, 0, 2, 0, 1, 1, 4, 5, 10] ++ zeros 22),
      seen ([8, 0, 0, 0] ++ [1, 0, 0, 2, 0, 1, 1, 4, 5, 10] ++ zeros 22), _, rfl, rfl, ⟨by decide +kernel, rfl⟩,
      by decide +kernel⟩⟩

/-- States and operands that meet the hypotheses of ServoFollowsItsMasters, clause by clause. -/
theorem witness_ServoFollowsItsMasters :
    (∃ (s u : State) (dt p origin : Nat) (correction r0 c0 : Int) (theta : Rat) (x : PtpPort) (i : Instr),
      u = s.elapse dt ∧ x = ptpPort u p ∧ ptpOn u p = true ∧ x.state = portSlave ∧ u.tim.record.source = 0 ∧
      u.tim.degraded = false ∧
      (i = .ptpSync dt p { twoStep := false, origin := origin, correction := correction } ∧
      theta = offsetFromMaster x (stampOf origin correction) (stampNow u) ∨ i = .ptpDelayMessage dt p (.followUp origin correction) ∧
      x.waiting = some (r0, c0) ∧ theta = offsetFromMaster x (stampOf origin (correction + c0)) r0) ∧
      stepsAway u.tim theta = false) ∧
    (∃ (s u : State) (dt p origin : Nat) (correction r0 c0 : Int) (theta : Rat) (x : PtpPort) (i : Instr),
      u = s.elapse dt ∧ x = ptpPort u p ∧ ptpOn u p = true ∧ x.state = portSlave ∧ u.tim.record.source = 0 ∧
      u.tim.degraded = false ∧
      (i = .ptpSync dt p { twoStep := false, origin := origin, correction := correction } ∧
      theta = offsetFromMaster x (stampOf origin correction) (stampNow u) ∨ i = .ptpDelayMessage dt p (.followUp origin correction) ∧
      x.waiting = some (r0, c0) ∧ theta = offsetFromMaster x (stampOf origin (correction + c0)) r0) ∧
      stepsAway u.tim theta = true) ∧
    (∃ (s u : State) (dt p : Nat) (x : PtpPort), u = s.elapse dt ∧ x = ptpPort u p ∧ ptpOn u p = true ∧
      (x.state ≠ portSlave ∨ u.tim.record.source ≠ 0 ∨ u.tim.degraded = true)) ∧
    (∃ (s u : State) (dt p : Nat) (x : PtpPort), u = s.elapse dt ∧ x = ptpPort u p ∧ ptpOn u p = true) ∧
    (∃ (s u : State) (dt p : Nat) (x : PtpPort), u = s.elapse dt ∧ x = ptpPort u p ∧ ptpOn u p = false) ∧
    (∃ (s u : State) (dt p : Nat) (x : PtpPort), u = s.elapse dt ∧ x = ptpPort u p ∧
      (ptpOn u p = false ∨ x.waiting = none)) ∧
    (∃ (s u : State) (dt p : Nat) (x : PtpPort), u = s.elapse dt ∧ x = ptpPort u p ∧ u.tim.rateAt < now u / tickS ∧
      u.tim.legal.valid = true ∧ u.tim.servo.valid = true ∧ u.tim.record.source = 0) ∧
    (∃ (s u : State) (dt p : Nat) (x : PtpPort), u = s.elapse dt ∧ x = ptpPort u p ∧ u.tim.rateAt < now u / tickS ∧
      u.tim.legal.valid = true ∧ u.tim.record.source = 1) ∧
    (∃ (s u : State) (dt p : Nat) (x : PtpPort), u = s.elapse dt ∧ x = ptpPort u p ∧ u.tim.rateAt < now u / tickS ∧
      (u.tim.legal.valid = false ∨ u.tim.record.source ≠ 1 ∧ u.tim.servo.valid = false)) ∧
    (∃ (s u : State) (dt p : Nat) (x : PtpPort), u = s.elapse dt ∧ x = ptpPort u p ∧ now u / tickS ≤ u.tim.rateAt) ∧
    (∃ (s u : State) (dt p : Nat) (late : Bool), u = s.elapse dt ∧
      late = passed u (ptpPort u p).heardAt ((ptpPort u p).record.annTimeout * logTicks (ptpPort u p).record.logAnnounce) ∧
      ptpOn u p = true ∧ late = true ∧ (ptpPort u p).state = portSlave ∧ (∀ r,
      prpPartner u p = some r → (ptpPort u r).state ≠ portPassive) ∧ (∀ r,
      r < 8 → r ≠ p → (ptpPort u r).state ≠ portSlave) ∧ (u.tim.state = .locked ∨ u.tim.state = .acquiring)) ∧
    (∃ (s u : State) (dt p q : Nat) (late : Bool), u = s.elapse dt ∧
      late = passed u (ptpPort u p).heardAt ((ptpPort u p).record.annTimeout * logTicks (ptpPort u p).record.logAnnounce) ∧
      ptpOn u p = true ∧ late = true ∧ (ptpPort u p).state = portSlave ∧ prpPartner u p = some q ∧
      (ptpPort u q).state = portPassive ∧ q < 8) ∧
    (∃ (s u : State) (dt p : Nat) (late : Bool), u = s.elapse dt ∧
      late = passed u (ptpPort u p).heardAt ((ptpPort u p).record.annTimeout * logTicks (ptpPort u p).record.logAnnounce) ∧
      ptpOn u p = true ∧ late = true ∧
      ((ptpPort u p).state = portInitializing ∨ (ptpPort u p).state = portListening)) ∧
    (∃ (s u : State) (dt p : Nat) (late : Bool), u = s.elapse dt ∧
      late = passed u (ptpPort u p).heardAt ((ptpPort u p).record.annTimeout * logTicks (ptpPort u p).record.logAnnounce) ∧
      (ptpOn u p = false ∨ late = false ∨ ((ptpPort u p).state ≠ portSlave ∧
      (ptpPort u p).state ≠ portInitializing ∧ (ptpPort u p).state ≠ portListening))) ∧
    (∃ (s u : State) (dt p x : Nat) (late : Bool), u = s.elapse dt ∧
      late = passed u (ptpPort u p).heardAt ((ptpPort u p).record.annTimeout * logTicks (ptpPort u p).record.logAnnounce) ∧
      u.tim.state = .holdover ∧ u.tim.holdSince = some x) ∧
    (∃ (s u : State) (dt p : Nat) (late : Bool), u = s.elapse dt ∧
      late = passed u (ptpPort u p).heardAt ((ptpPort u p).record.annTimeout * logTicks (ptpPort u p).record.logAnnounce) ∧
      (u.tim.state ≠ .holdover ∨ u.tim.holdSince = none)) ∧
    (∃ (s u : State) (dt p : Nat) (late : Bool), u = s.elapse dt ∧
      late = passed u (ptpPort u p).heardAt ((ptpPort u p).record.annTimeout * logTicks (ptpPort u p).record.logAnnounce) ∧
      ptpOn u p = true) ∧
    (∃ (s u : State) (dt p : Nat) (late : Bool), u = s.elapse dt ∧
      late = passed u (ptpPort u p).heardAt ((ptpPort u p).record.annTimeout * logTicks (ptpPort u p).record.logAnnounce) ∧
      ptpOn u p = false) ∧
    (∃ (s u : State) (dt p : Nat) (late : Bool), u = s.elapse dt ∧
      late = passed u (ptpPort u p).heardAt ((ptpPort u p).record.annTimeout * logTicks (ptpPort u p).record.logAnnounce) ∧
      u.tim.li61 = true ∧ u.tim.leapAt ≤ (servo u).s) ∧
    (∃ (s u : State) (dt p : Nat) (late : Bool), u = s.elapse dt ∧
      late = passed u (ptpPort u p).heardAt ((ptpPort u p).record.annTimeout * logTicks (ptpPort u p).record.logAnnounce) ∧
      u.tim.li61 = false ∧ u.tim.li59 = true ∧ u.tim.leapAt ≤ (servo u).s) ∧
    (∃ (s u : State) (dt p : Nat) (late : Bool), u = s.elapse dt ∧
      late = passed u (ptpPort u p).heardAt ((ptpPort u p).record.annTimeout * logTicks (ptpPort u p).record.logAnnounce) ∧
      (u.tim.li61 = false ∧ u.tim.li59 = false ∨ (servo u).s < u.tim.leapAt)) :=
  ⟨⟨{ demo .hold with tim := { (demo .hold).tim with ports := ptpFactory.set 7 { record := { enable := true, profile := 0 }, state := portSlave } } },
    _, 0, 7, 60000000000, 0, 0, 0,
    offsetFromMaster (ptpPort ({ demo .hold with tim := { (demo .hold).tim with ports := ptpFactory.set 7 { record := { enable := true, profile := 0 }, state := portSlave } } }) 7) (stampOf 60000000000 0) (stampNow ({ demo .hold with tim := { (demo .hold).tim with ports := ptpFactory.set 7 { record := { enable := true, profile := 0 }, state := portSlave } } })),
    _, .ptpSync 0 7 { twoStep := false, origin := 60000000000, correction := 0 }, rfl, rfl, by decide +kernel⟩,
    ⟨{ demo .hold with tim := { (demo .hold).tim with ports := ptpFactory.set 7 { record := { enable := true, profile := 0 }, state := portSlave } } },
      _, 0, 7, 50000000000, 0, 0, 0,
      offsetFromMaster (ptpPort ({ demo .hold with tim := { (demo .hold).tim with ports := ptpFactory.set 7 { record := { enable := true, profile := 0 }, state := portSlave } } }) 7) (stampOf 50000000000 0) (stampNow ({ demo .hold with tim := { (demo .hold).tim with ports := ptpFactory.set 7 { record := { enable := true, profile := 0 }, state := portSlave } } })),
      _, .ptpSync 0 7 { twoStep := false, origin := 50000000000, correction := 0 }, rfl, rfl, by decide +kernel⟩,
    ⟨{ demo .hold with tim := { (demo .hold).tim with ports := ptpFactory.set 7 { record := { enable := true, profile := 0 }, state := portMaster } } },
      _, 0, 7, _, rfl, rfl, by decide +kernel⟩,
    ⟨{ demo .hold with tim := { (demo .hold).tim with ports := ptpFactory.set 7 { record := { enable := true, profile := 0 }, state := portMaster } } },
      _, 0, 7, _, rfl, rfl, by decide +kernel⟩,
    ⟨demo .hold, _, 0, 7, _, rfl, rfl, by decide +kernel⟩,
    ⟨demo .hold, _, 0, 7, _, rfl, rfl, by decide +kernel⟩,
    ⟨demo .hold, _, 0, 7, _, rfl, rfl, by decide +kernel⟩,
    ⟨{ demo .hold with tim := { (demo .hold).tim with record := { source := 1 } } }, _, 0, 7, _, rfl, rfl,
      by decide +kernel⟩,
    ⟨{ demo .hold with tim := { (demo .hold).tim with legal := {} } }, _, 0, 7, _, rfl, rfl, by decide +kernel⟩,
    ⟨{ demo .hold with tim := { (demo .hold).tim with rateAt := 60 } }, _, 0, 7, _, rfl, rfl, by decide +kernel⟩,
    ⟨{ demo .hold with tim := { (demo .hold).tim with ports := ptpFactory.set 7 { record := { enable := true, profile := 0 }, state := portSlave }, state := .locked } },
      _, 0, 7, true, rfl, by decide +kernel, by decide +kernel, by decide +kernel, by decide +kernel,
      (fun r h => by
      have e : some r = none := h.symm.trans (by decide +kernel)
      cases e),
      by decide +kernel⟩,
    ⟨{ demo .hold with tim := { (demo .hold).tim with ports := [{ record := { enable := true, prp := true }, state := portSlave }, { record := { enable := true, prp := true }, state := portPassive }, {}, {}, {}, {}, {}, {}] } },
      _, 0, 0, 1, true, rfl, by decide +kernel⟩,
    ⟨{ demo .hold with tim := { (demo .hold).tim with ports := ptpFactory.set 7 { record := { enable := true, profile := 0 }, state := portListening } } },
      _, 0, 7, true, rfl, by decide +kernel⟩,
    ⟨demo .hold, _, 0, 7, _, rfl, rfl, by decide +kernel⟩,
    ⟨{ demo .hold with tim := { (demo .hold).tim with state := .holdover, holdSince := some 0, record := { holdS := 60 } } },
      _, 0, 0, 0, _, rfl, rfl, by decide +kernel⟩,
    ⟨demo .hold, _, 0, 0, _, rfl, rfl, by decide +kernel⟩,
    ⟨{ demo .hold with tim := { (demo .hold).tim with ports := ptpFactory.set 7 { record := { enable := true, profile := 0 }, state := portSlave } } },
      _, 0, 7, _, rfl, rfl, by decide +kernel⟩,
    ⟨demo .hold, _, 0, 7, _, rfl, rfl, by decide +kernel⟩,
    ⟨{ demo .hold with tim := { (demo .hold).tim with li61 := true, leapAt := 60 } }, _, 0, 0, _, rfl, rfl,
      by decide +kernel⟩,
    ⟨{ demo .hold with tim := { (demo .hold).tim with li59 := true, leapAt := 60 } }, _, 0, 0, _, rfl, rfl,
      by decide +kernel⟩,
    ⟨demo .hold, _, 0, 0, _, rfl, rfl, by decide +kernel⟩⟩

/-- States and operands that meet the hypotheses of PtpPortsSend, clause by clause. -/
theorem witness_PtpPortsSend :
    (∃ (s u : State) (dt p : Nat) (x : PtpPort), u = s.elapse dt ∧ x = ptpPort u p ∧ ptpOn u p = true ∧
      x.state = portMaster ∧ sendDue u p 0 x.record.logSync = true ∧ x.record.oneStep = true) ∧
    (∃ (s u : State) (dt p : Nat) (x : PtpPort), u = s.elapse dt ∧ x = ptpPort u p ∧ ptpOn u p = true ∧
      x.state = portMaster ∧ sendDue u p 0 x.record.logSync = true ∧ x.record.oneStep = false) ∧
    (∃ (s u : State) (dt p : Nat) (x : PtpPort), u = s.elapse dt ∧ x = ptpPort u p ∧ ptpOn u p = true ∧
      x.state = portMaster ∧ sendDue u p 2 x.record.logAnnounce = true) ∧
    (∃ (s u : State) (dt p : Nat) (x : PtpPort), u = s.elapse dt ∧ x = ptpPort u p ∧ ptpOn u p = true ∧
      x.state = portSlave ∧ x.record.profile = 0 ∧ sendDue u p 3 x.record.logDelay = true) ∧
    (∃ (s u : State) (dt p : Nat) (x : PtpPort), u = s.elapse dt ∧ x = ptpPort u p ∧ ptpOn u p = true ∧
      1 ≤ x.record.profile ∧ sendDue u p 4 x.record.logDelay = true) ∧
    (∃ (s u : State) (dt p : Nat) (x : PtpPort), u = s.elapse dt ∧ x = ptpPort u p ∧ ptpOn u p = true ∧
      x.state = portMaster ∧ x.record.profile = 0) ∧
    (∃ (s u : State) (dt p : Nat) (x : PtpPort), u = s.elapse dt ∧ x = ptpPort u p ∧ ptpOn u p = true ∧
      1 ≤ x.record.profile ∧ x.record.oneStep = true) ∧
    (∃ (s u : State) (dt p : Nat) (x : PtpPort), u = s.elapse dt ∧ x = ptpPort u p ∧ ptpOn u p = true ∧
      1 ≤ x.record.profile ∧ x.record.oneStep = false) ∧
    (∃ (s u : State) (dt p : Nat) (t1 t2 t3 : Int) (x : PtpPort), u = s.elapse dt ∧ x = ptpPort u p ∧
      ptpOn u p = true ∧ x.state = portSlave ∧ x.record.profile = 0 ∧ x.lastSync = some (t1, t2) ∧
      x.requested = some t3) ∧
    (∃ (s u : State) (dt p : Nat) (t1 : Int) (x : PtpPort), u = s.elapse dt ∧ x = ptpPort u p ∧ ptpOn u p = true ∧
      1 ≤ x.record.profile ∧ x.requested = some t1) ∧
    (∃ (s u : State) (dt p : Nat) (t1 : Int) (x : PtpPort), u = s.elapse dt ∧ x = ptpPort u p ∧ ptpOn u p = true ∧
      1 ≤ x.record.profile ∧ x.requested = some t1) ∧
    (∃ (s u : State) (dt p : Nat) (t1 r0 r1 c0 : Int) (x : PtpPort), u = s.elapse dt ∧ x = ptpPort u p ∧
      ptpOn u p = true ∧ x.responded = some (r0, r1, c0) ∧ x.requested = some t1) ∧
    (∃ (s u : State) (dt p : Nat) (x : PtpPort), u = s.elapse dt ∧ x = ptpPort u p ∧
      (ptpOn u p = false ∨ x.state ≠ portMaster ∨ sendDue u p 0 x.record.logSync = false)) ∧
    (∃ (s u : State) (dt p : Nat) (x : PtpPort), u = s.elapse dt ∧ x = ptpPort u p ∧
      (ptpOn u p = false ∨ x.state ≠ portMaster ∨ sendDue u p 2 x.record.logAnnounce = false)) ∧
    (∃ (s u : State) (dt p : Nat) (x : PtpPort), u = s.elapse dt ∧ x = ptpPort u p ∧
      (ptpOn u p = false ∨ x.state ≠ portSlave ∨ x.record.profile ≠ 0 ∨ sendDue u p 3 x.record.logDelay = false)) ∧
    (∃ (s u : State) (dt p : Nat) (x : PtpPort), u = s.elapse dt ∧ x = ptpPort u p ∧
      (ptpOn u p = false ∨ x.record.profile = 0 ∨ sendDue u p 4 x.record.logDelay = false)) ∧
    (∃ (s u : State) (dt p : Nat) (x : PtpPort), u = s.elapse dt ∧ x = ptpPort u p ∧
      (ptpOn u p = false ∨ x.state ≠ portMaster ∨ x.record.profile ≠ 0)) ∧
    (∃ (s u : State) (dt p : Nat) (x : PtpPort), u = s.elapse dt ∧ x = ptpPort u p ∧
      (ptpOn u p = false ∨ x.record.profile = 0)) ∧
    (∃ (s u : State) (dt p : Nat) (x : PtpPort), u = s.elapse dt ∧ x = ptpPort u p ∧
      (ptpOn u p = false ∨ x.state ≠ portSlave ∨ x.record.profile ≠ 0 ∨ x.lastSync = none ∨ x.requested = none)) ∧
    (∃ (s u : State) (dt p : Nat) (x : PtpPort), u = s.elapse dt ∧ x = ptpPort u p ∧
      (ptpOn u p = false ∨ x.record.profile = 0 ∨ x.requested = none)) ∧
    (∃ (s u : State) (dt p : Nat) (x : PtpPort), u = s.elapse dt ∧ x = ptpPort u p ∧
      (ptpOn u p = false ∨ x.record.profile = 0 ∨ x.requested = none)) ∧
    (∃ (s u : State) (dt p : Nat) (x : PtpPort), u = s.elapse dt ∧ x = ptpPort u p ∧
      (ptpOn u p = false ∨ x.responded = none ∨ x.requested = none)) :=
  ⟨⟨{ demo .hold with tim := { (demo .hold).tim with ports := ptpFactory.set 7 { record := { enable := true, profile := 0, oneStep := true }, state := portMaster } } },
    _, 0, 7, _, rfl, rfl, by decide +kernel⟩,
    ⟨{ demo .hold with tim := { (demo .hold).tim with ports := ptpFactory.set 7 { record := { enable := true, profile := 0 }, state := portMaster } } },
      _, 0, 7, _, rfl, rfl, by decide +kernel⟩,
    ⟨{ demo .hold with tim := { (demo .hold).tim with ports := ptpFactory.set 7 { record := { enable := true, profile := 0 }, state := portMaster } } },
      _, 0, 7, _, rfl, rfl, by decide +kernel⟩,
    ⟨{ demo .hold with tim := { (demo .hold).tim with ports := ptpFactory.set 7 { record := { enable := true, profile := 0 }, state := portSlave } } },
      _, 0, 7, _, rfl, rfl, by decide +kernel⟩,
    ⟨{ demo .hold with tim := { (demo .hold).tim with ports := ptpFactory.set 7 { record := { enable := true, profile := 1 }, state := portMaster } } },
      _, 0, 7, _, rfl, rfl, by decide +kernel⟩,
    ⟨{ demo .hold with tim := { (demo .hold).tim with ports := ptpFactory.set 7 { record := { enable := true, profile := 0 }, state := portMaster } } },
      _, 0, 7, _, rfl, rfl, by decide +kernel⟩,
    ⟨{ demo .hold with tim := { (demo .hold).tim with ports := ptpFactory.set 7 { record := { enable := true, profile := 1, oneStep := true }, state := portMaster } } },
      _, 0, 7, _, rfl, rfl, by decide +kernel⟩,
    ⟨{ demo .hold with tim := { (demo .hold).tim with ports := ptpFactory.set 7 { record := { enable := true, profile := 1 }, state := portMaster } } },
      _, 0, 7, _, rfl, rfl, by decide +kernel⟩,
    ⟨{ demo .hold with tim := { (demo .hold).tim with ports := ptpFactory.set 7 { record := { enable := true, profile := 0 }, state := portSlave, lastSync := some (5, 6), requested := some 7 } } },
      _, 0, 7, 5, 6, 7, _, rfl, rfl, by decide +kernel⟩,
    ⟨{ demo .hold with tim := { (demo .hold).tim with ports := ptpFactory.set 7 { record := { enable := true, profile := 1 }, state := portSlave, requested := some 7 } } },
      _, 0, 7, 7, _, rfl, rfl, by decide +kernel⟩,
    ⟨{ demo .hold with tim := { (demo .hold).tim with ports := ptpFactory.set 7 { record := { enable := true, profile := 1 }, state := portSlave, requested := some 7 } } },
      _, 0, 7, 7, _, rfl, rfl, by decide +kernel⟩,
    ⟨{ demo .hold with tim := { (demo .hold).tim with ports := ptpFactory.set 7 { record := { enable := true, profile := 1 }, state := portSlave, requested := some 7, responded := some (1, 2, 3) } } },
      _, 0, 7, 7, 1, 2, 3, _, rfl, rfl, by decide +kernel⟩,
    ⟨demo .hold, _, 0, 7, _, rfl, rfl, by decide +kernel⟩,
    ⟨demo .hold, _, 0, 7, _, rfl, rfl, by decide +kernel⟩,
    ⟨demo .hold, _, 0, 7, _, rfl, rfl, by decide +kernel⟩,
    ⟨demo .hold, _, 0, 7, _, rfl, rfl, by decide +kernel⟩,
    ⟨demo .hold, _, 0, 7, _, rfl, rfl, by decide +kernel⟩,
    ⟨demo .hold, _, 0, 7, _, rfl, rfl, by decide +kernel⟩,
    ⟨demo .hold, _, 0, 7, _, rfl, rfl, by decide +kernel⟩,
    ⟨demo .hold, _, 0, 7, _, rfl, rfl, by decide +kernel⟩,
    ⟨demo .hold, _, 0, 7, _, rfl, rfl, by decide +kernel⟩,
    ⟨demo .hold, _, 0, 7, _, rfl, rfl, by decide +kernel⟩⟩

/-- States and operands that meet the hypotheses of EthernetPortsCarry, clause by clause. -/
theorem witness_EthernetPortsCarry :
    (∃ (s u : State) (dt p : Nat) (f : NetFrame), u = s.elapse dt ∧ f.port = p ∧ pd u 8 = true ∧ p < 8 ∧
      reinitRuns u 5 p = false ∧ (netPort u p).up = true ∧
      (f.bytes < 64 ∨ 9216 < f.bytes ∨ f.fcsOk = false ∨ 1 < f.tags)) ∧
    (∃ (s u : State) (dt p : Nat) (f : NetFrame), u = s.elapse dt ∧ f.port = p ∧ pd u 8 = true ∧ p < 8 ∧
      reinitRuns u 5 p = false ∧ (netPort u p).up = true ∧ 64 ≤ f.bytes ∧ f.bytes ≤ 9216 ∧ f.fcsOk = true ∧
      f.tags ≤ 1 ∧ f.pause = true) ∧
    (∃ (s u : State) (dt p : Nat) (f : NetFrame), u = s.elapse dt ∧ f.port = p ∧ pd u 8 = true ∧ p < 8 ∧
      reinitRuns u 5 p = false ∧ (netPort u p).up = true ∧ 64 ≤ f.bytes ∧ f.bytes ≤ 9216 ∧ f.fcsOk = true ∧
      f.tags ≤ 1 ∧ f.pause = false ∧ f.service ≤ 2 ∧ netBound u p f.service = false) ∧
    (∃ (s u : State) (dt p : Nat) (f : NetFrame), u = s.elapse dt ∧ f.port = p ∧ pd u 8 = true ∧ p < 8 ∧
      reinitRuns u 5 p = false ∧ (netPort u p).up = true ∧ 64 ≤ f.bytes ∧ f.bytes ≤ 9216 ∧ f.fcsOk = true ∧
      f.tags ≤ 1 ∧ f.pause = false ∧ (2 < f.service ∨ netBound u p f.service = true) ∧
      (f.rct = none ∨ f.service = 2 ∨ prpPartner u p = none)) ∧
    (∃ (s u : State) (dt p seq : Nat) (f : NetFrame) (held : List (Nat × Nat)), u = s.elapse dt ∧ f.port = p ∧
      pd u 8 = true ∧ p < 8 ∧ reinitRuns u 5 p = false ∧ (netPort u p).up = true ∧ 64 ≤ f.bytes ∧ f.bytes ≤ 9216 ∧
      f.fcsOk = true ∧ f.tags ≤ 1 ∧ f.pause = false ∧ (2 < f.service ∨ netBound u p f.service = true) ∧
      f.rct = some seq ∧ f.service ≠ 2 ∧ prpPartner u p ≠ none ∧
      tfind (tget u.net.prp (p / 2) {}).table f.source = some held ∧ (∃ e ∈ held, e.1 = seq ∧
      now u < e.2 + 400 * tickMs)) ∧
    (∃ (s u : State) (dt p seq : Nat) (f : NetFrame) (held : List (Nat × Nat)), u = s.elapse dt ∧ f.port = p ∧
      pd u 8 = true ∧ p < 8 ∧ reinitRuns u 5 p = false ∧ (netPort u p).up = true ∧ 64 ≤ f.bytes ∧ f.bytes ≤ 9216 ∧
      f.fcsOk = true ∧ f.tags ≤ 1 ∧ f.pause = false ∧ (2 < f.service ∨ netBound u p f.service = true) ∧
      f.rct = some seq ∧ f.service ≠ 2 ∧ prpPartner u p ≠ none ∧
      tfind (tget u.net.prp (p / 2) {}).table f.source = some held ∧ (∀ e ∈ held,
      e.1 = seq → e.2 + 400 * tickMs ≤ now u)) ∧
    (∃ (s u : State) (dt p seq : Nat) (f : NetFrame), u = s.elapse dt ∧ f.port = p ∧ pd u 8 = true ∧ p < 8 ∧
      reinitRuns u 5 p = false ∧ (netPort u p).up = true ∧ 64 ≤ f.bytes ∧ f.bytes ≤ 9216 ∧ f.fcsOk = true ∧
      f.tags ≤ 1 ∧ f.pause = false ∧ (2 < f.service ∨ netBound u p f.service = true) ∧ f.rct = some seq ∧
      f.service ≠ 2 ∧ prpPartner u p ≠ none ∧ tfind (tget u.net.prp (p / 2) {}).table f.source = none) ∧
    (∃ (s u : State) (dt p : Nat) (f : NetFrame), u = s.elapse dt ∧ f.port = p ∧ pd u 8 = true ∧ p < 8 ∧
      reinitRuns u 5 p = false ∧ (netPort u p).sgmii = true) ∧
    (∃ (s u : State) (dt p : Nat) (f : NetFrame), u = s.elapse dt ∧ f.port = p ∧ pd u 8 = true ∧ p < 8 ∧
      reinitRuns u 5 p = false ∧ (netPort u p).sgmii = false) ∧
    (∃ (s u : State) (dt p : Nat) (f : NetFrame), u = s.elapse dt ∧ f.port = p ∧
      (pd u 8 = false ∨ 8 ≤ p ∨ reinitRuns u 5 p = true)) ∧
    (∃ (s u : State) (dt p : Nat) (f : NetFrame), u = s.elapse dt ∧ f.port = p ∧
      (pd u 8 = false ∨ 8 ≤ p ∨ reinitRuns u 5 p = true)) ∧
    (∃ (s u : State) (dt p : Nat) (f : NetFrame), u = s.elapse dt ∧ f.port = p ∧
      (pd u 8 = false ∨ 8 ≤ p ∨ reinitRuns u 5 p = true)) ∧
    (∃ (s u : State) (dt p : Nat) (f : NetFrame), u = s.elapse dt ∧ f.port = p ∧ (netPort u p).up = false) ∧
    (∃ (s u : State) (dt p : Nat) (f : NetFrame), u = s.elapse dt ∧ f.port = p ∧ (netPort u p).sgmii = false) ∧
    (∃ (s u : State) (dt p : Nat) (f : NetFrame), u = s.elapse dt ∧ f.port = p ∧ (netPort u p).sgmii = true) ∧
    (∃ (s u : State) (dt p q : Nat) (f : NetFrame), u = s.elapse dt ∧ f.port = p ∧ pd u 8 = true ∧ q < 2 ∧
      u.net.prpOn.testBit q = true ∧ everyDue u (tget u.net.prp q {}).supervised (2000 * tickMs) = true) ∧
    (∃ (s u : State) (dt p q : Nat) (f : NetFrame), u = s.elapse dt ∧ f.port = p ∧
      (pd u 8 = false ∨ 2 ≤ q ∨ u.net.prpOn.testBit q = false ∨ everyDue u (tget u.net.prp q {}).supervised (2000 * tickMs) = false)) :=
  ⟨⟨{ demo .hold with net := { ports := [(0, { up := true })] } }, _, 0, 0,
    { port := 0, bytes := 63, fcsOk := true, tags := 0, pause := false, source := 5, rct := none, service := 0 },
    rfl, by decide +kernel⟩,
    ⟨{ demo .hold with net := { ports := [(0, { up := true })] } }, _, 0, 0,
      { port := 0, bytes := 64, fcsOk := true, tags := 0, pause := true, source := 5, rct := none, service := 0 },
      rfl, by decide +kernel⟩,
    ⟨{ demo .hold with net := { ports := [(0, { up := true })] } }, _, 0, 0,
      { port := 0, bytes := 64, fcsOk := true, tags := 0, pause := false, source := 5, rct := none, service := 1 },
      rfl, by decide +kernel⟩,
    ⟨{ demo .hold with net := { ports := [(0, { up := true })] } }, _, 0, 0,
      { port := 0, bytes := 64, fcsOk := true, tags := 0, pause := false, source := 5, rct := none, service := 0 },
      rfl, by decide +kernel⟩,
    ⟨{ demo .hold with net := { ports := [(0, { up := true })], prp := [(0, { table := [(5, [(9, 60 * tickS)])] })] } },
      _, 0, 0, 9,
      { port := 0, bytes := 64, fcsOk := true, tags := 0, pause := false, source := 5, rct := some 9, service := 0 },
      [(9, 60 * tickS)], rfl, by decide +kernel⟩,
    ⟨{ demo .hold with net := { ports := [(0, { up := true })], prp := [(0, { table := [(5, [(9, 0)])] })] } }, _,
      0, 0, 9,
      { port := 0, bytes := 64, fcsOk := true, tags := 0, pause := false, source := 5, rct := some 9, service := 0 },
      [(9, 0)], rfl, by decide +kernel⟩,
    ⟨{ demo .hold with net := { ports := [(0, { up := true })] } }, _, 0, 0, 9,
      { port := 0, bytes := 64, fcsOk := true, tags := 0, pause := false, source := 5, rct := some 9, service := 0 },
      rfl, by decide +kernel⟩,
    ⟨{ demo .hold with net := { ports := [(7, { sgmii := true })] } }, _, 0, 7,
      { port := 7, bytes := 64, fcsOk := true, tags := 0, pause := false, source := 5, rct := none, service := 0 },
      rfl, by decide +kernel⟩,
    ⟨demo .hold, _, 0, 7,
      { port := 7, bytes := 64, fcsOk := true, tags := 0, pause := false, source := 5, rct := none, service := 0 },
      rfl, by decide +kernel⟩,
    ⟨{ demo .hold with pmu := { powered := 0 } }, _, 0, 7,
      { port := 7, bytes := 64, fcsOk := true, tags := 0, pause := false, source := 5, rct := none, service := 0 },
      rfl, by decide +kernel⟩,
    ⟨{ demo .hold with pmu := { powered := 0 } }, _, 0, 7,
      { port := 7, bytes := 64, fcsOk := true, tags := 0, pause := false, source := 5, rct := none, service := 0 },
      rfl, by decide +kernel⟩,
    ⟨{ demo .hold with pmu := { powered := 0 } }, _, 0, 7,
      { port := 7, bytes := 64, fcsOk := true, tags := 0, pause := false, source := 5, rct := none, service := 0 },
      rfl, by decide +kernel⟩,
    ⟨demo .hold, _, 0, 0,
      { port := 0, bytes := 64, fcsOk := true, tags := 0, pause := false, source := 5, rct := none, service := 0 },
      rfl, by decide +kernel⟩,
    ⟨demo .hold, _, 0, 0,
      { port := 0, bytes := 64, fcsOk := true, tags := 0, pause := false, source := 5, rct := none, service := 0 },
      rfl, by decide +kernel⟩,
    ⟨{ demo .hold with net := { ports := [(7, { sgmii := true })] } }, _, 0, 7,
      { port := 7, bytes := 64, fcsOk := true, tags := 0, pause := false, source := 5, rct := none, service := 0 },
      rfl, by decide +kernel⟩,
    ⟨demo .hold, _, 0, 0, 0,
      { port := 0, bytes := 64, fcsOk := true, tags := 0, pause := false, source := 5, rct := none, service := 0 },
      rfl, by decide +kernel⟩,
    ⟨{ demo .hold with pmu := { powered := 0 } }, _, 0, 0, 1,
      { port := 0, bytes := 64, fcsOk := true, tags := 0, pause := false, source := 5, rct := none, service := 0 },
      rfl, by decide +kernel⟩⟩

/-- States and operands that meet the hypotheses of FrontEndIsConfigured, clause by clause. -/
theorem witness_FrontEndIsConfigured :
    (∃ (s u : State) (dt n : Nat) (c : Cmd) (call : Call) (p b : Bytes), u = s.elapse dt ∧ p = call.payload ∧
      b = p.drop 4 ∧ Accepted rowAdcChanSet c u call ∧ p.length = 28 ∧ u16 p 2 = 24 ∧ n = u16 p 0 ∧ n ≠ 255 ∧
      (isAnalogue n || isCounting n) = true ∧ chanOk n (u8 b 0) (chanFields b) = true ∧
      expressTaken u n (chanFields b).express = false ∧ ((chanFields b).enable && !roomFor u [n]) = false) ∧
    (∃ (s u : State) (dt n : Nat) (c : Cmd) (call : Call) (p b : Bytes), u = s.elapse dt ∧ p = call.payload ∧
      b = p.drop 4 ∧ Accepted rowAdcChanSet c u call ∧ p.length = 28 ∧ u16 p 2 = 24 ∧ n = u16 p 0 ∧ n ≠ 255 ∧
      ((isAnalogue n || isCounting n) = false ∨ chanOk n (u8 b 0) (chanFields b) = false ∨ expressTaken u n (chanFields b).express = true)) ∧
    (∃ (s u : State) (dt n : Nat) (c : Cmd) (call : Call) (p b : Bytes), u = s.elapse dt ∧ p = call.payload ∧
      b = p.drop 4 ∧ Accepted rowAdcChanSet c u call ∧ p.length = 28 ∧ u16 p 2 = 24 ∧ n = u16 p 0 ∧ n ≠ 255 ∧
      (isAnalogue n || isCounting n) = true ∧ chanOk n (u8 b 0) (chanFields b) = true ∧
      expressTaken u n (chanFields b).express = false ∧ ((chanFields b).enable && !roomFor u [n]) = true) ∧
    (∃ (s u : State) (dt : Nat) (c : Cmd) (call : Call) (p b : Bytes), u = s.elapse dt ∧ p = call.payload ∧
      b = p.drop 4 ∧ Accepted rowAdcChanSet c u call ∧ p.length = 12 ∧ u16 p 2 = 8 ∧ u16 p 0 = 255 ∧ u8 b 0 ≤ 1 ∧
      u8 b 1 ≤ 1 ∧ u8 b 2 ≤ 2 ∧ u8 b 3 = 0 ∧ u32 b 4 = 0) ∧
    (∃ (s u : State) (dt : Nat) (c : Cmd) (call : Call) (p b : Bytes), u = s.elapse dt ∧ p = call.payload ∧
      b = p.drop 4 ∧ Accepted rowAdcChanSet c u call ∧ p.length = 12 ∧ u16 p 2 = 8 ∧ u16 p 0 = 255 ∧
      (1 < u8 b 0 ∨ 1 < u8 b 1 ∨ 2 < u8 b 2 ∨ u8 b 3 ≠ 0 ∨ u32 b 4 ≠ 0)) ∧
    (∃ (s u : State) (dt n : Nat) (c : Cmd) (call : Call) (p b : Bytes), u = s.elapse dt ∧ p = call.payload ∧
      b = p.drop 4 ∧ Accepted rowAdcSeqSet c u call ∧ n = u8 p 1 ∧ p.length = 4 + 4 * n ∧ 1 ≤ n ∧ n ≤ 64 ∧
      u8 p 0 ≤ 1 ∧ u16 p 2 = 0 ∧ ((rowsOf p 4 4 n).map (fun b => u32 b 0)).all (entryOk (u8 p 0)) = true) ∧
    (∃ (s u : State) (dt n : Nat) (c : Cmd) (call : Call) (p b : Bytes), u = s.elapse dt ∧ p = call.payload ∧
      b = p.drop 4 ∧ Accepted rowAdcSeqSet c u call ∧ n = u8 p 1 ∧ p.length = 4 + 4 * n ∧ (n = 0 ∨ 64 < n)) ∧
    (∃ (s u : State) (dt n : Nat) (c : Cmd) (call : Call) (p b : Bytes), u = s.elapse dt ∧ p = call.payload ∧
      b = p.drop 4 ∧ Accepted rowAdcSeqSet c u call ∧ n = u8 p 1 ∧ p.length = 4 + 4 * n ∧ 1 ≤ n ∧ n ≤ 64 ∧
      (1 < u8 p 0 ∨ u16 p 2 ≠ 0 ∨ ((rowsOf p 4 4 n).map (fun b => u32 b 0)).all (entryOk (u8 p 0)) = false)) ∧
    (∃ (s u : State) (dt n : Nat) (c : Cmd) (call : Call) (p b : Bytes) (x : Int × Word × Ts), u = s.elapse dt ∧
      p = call.payload ∧ b = p.drop 4 ∧ Accepted rowAdcSampleRead c u call ∧ p.length = 2 ∧ 24 ≤ call.cap ∧
      n = u16 p 0 % 32768 ∧ (isAnalogue n || (isCounting n && decide (u16 p 0 < 32768))) = true ∧
      readSample u n (decide (32768 ≤ u16 p 0)) = some x) ∧
    (∃ (s u : State) (dt n : Nat) (c : Cmd) (call : Call) (p b : Bytes), u = s.elapse dt ∧ p = call.payload ∧
      b = p.drop 4 ∧ Accepted rowAdcSampleRead c u call ∧ p.length = 2 ∧ 24 ≤ call.cap ∧ n = u16 p 0 % 32768 ∧
      (isAnalogue n || (isCounting n && decide (u16 p 0 < 32768))) = true ∧
      readSample u n (decide (32768 ≤ u16 p 0)) = none) ∧
    (∃ (s u : State) (dt n : Nat) (c : Cmd) (call : Call) (p b : Bytes), u = s.elapse dt ∧ p = call.payload ∧
      b = p.drop 4 ∧ Accepted rowAdcSampleRead c u call ∧ p.length = 2 ∧ 24 ≤ call.cap ∧ n = u16 p 0 % 32768 ∧
      (isAnalogue n || (isCounting n && decide (u16 p 0 < 32768))) = false) ∧
    (∃ (s u : State) (dt : Nat) (c : Cmd) (call : Call) (p b : Bytes) (g : _) (o : _), u = s.elapse dt ∧
      p = call.payload ∧ b = p.drop 4 ∧ Accepted rowAdcCalSet c u call ∧ p.length = 12 ∧
      isAnalogue (u16 p 0) = true ∧ u16 p 2 = 0 ∧ val32 (w32 p 4) = some g ∧ val32 (w32 p 8) = some o ∧
      calOk g o = true) ∧
    (∃ (s u : State) (dt : Nat) (c : Cmd) (call : Call) (p b : Bytes) (g : _) (o : _), u = s.elapse dt ∧
      p = call.payload ∧ b = p.drop 4 ∧ Accepted rowAdcCalSet c u call ∧ p.length = 12 ∧
      isAnalogue (u16 p 0) = true ∧ u16 p 2 = 0 ∧ val32 (w32 p 4) = some g ∧ val32 (w32 p 8) = some o ∧
      calOk g o = false) ∧
    (∃ (s u : State) (dt : Nat) (c : Cmd) (call : Call) (p b : Bytes), u = s.elapse dt ∧ p = call.payload ∧
      b = p.drop 4 ∧ Accepted rowAdcCalSet c u call ∧ p.length = 12 ∧
      (isAnalogue (u16 p 0) = false ∨ u16 p 2 ≠ 0 ∨ val32 (w32 p 4) = none ∨ val32 (w32 p 8) = none)) ∧
    (∃ (s u : State) (dt n : Nat) (c : Cmd) (call : Call) (p b : Bytes), u = s.elapse dt ∧ p = call.payload ∧
      b = p.drop 4 ∧ Accepted rowAdcSyscal c u call ∧ p.length = 4 ∧ 8 ≤ call.cap ∧ isAnalogue (u16 p 0) = true ∧
      u8 p 3 = 0 ∧ n = u16 p 0 ∧ u8 p 2 = 0) ∧
    (∃ (s u : State) (dt n : Nat) (c : Cmd) (call : Call) (p b : Bytes) (m : SyscalMean) (y : SysCal),
      u = s.elapse dt ∧ p = call.payload ∧ b = p.drop 4 ∧ Accepted rowAdcSyscal c u call ∧ p.length = 4 ∧
      8 ≤ call.cap ∧ isAnalogue (u16 p 0) = true ∧ u8 p 3 = 0 ∧ n = u16 p 0 ∧ u8 p 2 = 1 ∧
      tfind u.adc.syscal n = some y ∧ y.step ≤ 1 ∧ meanOk u n m = true) ∧
    (∃ (s u : State) (dt n : Nat) (c : Cmd) (call : Call) (p b : Bytes) (m : SyscalMean) (y : SysCal),
      u = s.elapse dt ∧ p = call.payload ∧ b = p.drop 4 ∧ Accepted rowAdcSyscal c u call ∧ p.length = 4 ∧
      8 ≤ call.cap ∧ isAnalogue (u16 p 0) = true ∧ u8 p 3 = 0 ∧ n = u16 p 0 ∧ u8 p 2 = 2 ∧
      tfind u.adc.syscal n = some y ∧ (y.step = 1 ∨ y.step = 2) ∧ meanOk u n m = true) ∧
    (∃ (s u : State) (dt n : Nat) (c : Cmd) (call : Call) (p b : Bytes) (y : SysCal) (g o : Int), u = s.elapse dt ∧
      p = call.payload ∧ b = p.drop 4 ∧ Accepted rowAdcSyscal c u call ∧ p.length = 4 ∧ 8 ≤ call.cap ∧
      isAnalogue (u16 p 0) = true ∧ u8 p 3 = 0 ∧ n = u16 p 0 ∧ u8 p 2 = 3 ∧ tfind u.adc.syscal n = some y ∧
      y.step = 2 ∧ g = roundNear (sysGain u (chanRecord u n) y.low y.high * 1073741824) ∧
      o = roundNear ((num32 (chanRecord u n).calLow - (g : Rat) / 1073741824 * q31 y.low) * 2147483648) ∧
      y.high ≠ y.low ∧ calOk ((g : Rat) / 1073741824) (q31 o) = true) ∧
    (∃ (s u : State) (dt n : Nat) (c : Cmd) (call : Call) (p b : Bytes) (y : SysCal) (g o : Int), u = s.elapse dt ∧
      p = call.payload ∧ b = p.drop 4 ∧ Accepted rowAdcSyscal c u call ∧ p.length = 4 ∧ 8 ≤ call.cap ∧
      isAnalogue (u16 p 0) = true ∧ u8 p 3 = 0 ∧ n = u16 p 0 ∧ u8 p 2 = 3 ∧ tfind u.adc.syscal n = some y ∧
      y.step = 2 ∧ g = roundNear (sysGain u (chanRecord u n) y.low y.high * 1073741824) ∧
      o = roundNear ((num32 (chanRecord u n).calLow - (g : Rat) / 1073741824 * q31 y.low) * 2147483648) ∧
      (y.high = y.low ∨ calOk ((g : Rat) / 1073741824) (q31 o) = false)) ∧
    (∃ (s u : State) (dt n : Nat) (c : Cmd) (call : Call) (p b : Bytes), u = s.elapse dt ∧ p = call.payload ∧
      b = p.drop 4 ∧ Accepted rowAdcSyscal c u call ∧ p.length = 4 ∧ 8 ≤ call.cap ∧ isAnalogue (u16 p 0) = true ∧
      u8 p 3 = 0 ∧ n = u16 p 0 ∧ u8 p 2 = 4 ∧ (tfind u.adc.syscal n).isSome = true) ∧
    (∃ (s u : State) (dt n : Nat) (c : Cmd) (call : Call) (p b : Bytes) (m : SyscalMean) (y : SysCal),
      u = s.elapse dt ∧ p = call.payload ∧ b = p.drop 4 ∧ Accepted rowAdcSyscal c u call ∧ p.length = 4 ∧
      8 ≤ call.cap ∧ isAnalogue (u16 p 0) = true ∧ u8 p 3 = 0 ∧ n = u16 p 0 ∧ (4 < u8 p 2 ∨ u8 p 2 ≠ 0 ∧
      tfind u.adc.syscal n = none ∨ u8 p 2 = 1 ∧ tfind u.adc.syscal n = some y ∧
      (1 < y.step ∨ meanOk u n m = false) ∨ u8 p 2 = 2 ∧ tfind u.adc.syscal n = some y ∧ (y.step ≠ 1 ∧
      y.step ≠ 2 ∨ meanOk u n m = false) ∨ u8 p 2 = 3 ∧ tfind u.adc.syscal n = some y ∧ y.step ≠ 2)) ∧
    (∃ (s u : State) (dt n : Nat) (call : Call) (p b : Bytes) (y : SysCal), u = s.elapse dt ∧ p = call.payload ∧
      b = p.drop 4 ∧ tfind u.adc.syscal n = some y ∧ passed u y.last (600 * tickS) = true) ∧
    (∃ (s u : State) (dt n : Nat) (call : Call) (p b : Bytes) (y : SysCal), u = s.elapse dt ∧ p = call.payload ∧
      b = p.drop 4 ∧ (tfind u.adc.syscal n = none ∨ tfind u.adc.syscal n = some y ∧
      passed u y.last (600 * tickS) = false)) :=
  ⟨⟨demo .service, _, 0, _,
    ask ([32, 0, 24, 0] ++ [1, 0, 0, 0, 0, 0, 0xFF, 31] ++ le32 0 ++ le32 0x3F800000 ++ zeros 8),
    seen ([32, 0, 24, 0] ++ [1, 0, 0, 0, 0, 0, 0xFF, 31] ++ le32 0 ++ le32 0x3F800000 ++ zeros 8), _, _, rfl, rfl,
    rfl, ⟨by decide +kernel, rfl⟩, by decide +kernel, by decide +kernel, rfl, by decide +kernel⟩,
    ⟨demo .service, _, 0, _,
      ask ([80, 0, 24, 0] ++ [1, 0, 0, 0, 0, 0, 0xFF, 31] ++ le32 0 ++ le32 0x3F800000 ++ zeros 8),
      seen ([80, 0, 24, 0] ++ [1, 0, 0, 0, 0, 0, 0xFF, 31] ++ le32 0 ++ le32 0x3F800000 ++ zeros 8), _, _, rfl,
      rfl, rfl, ⟨by decide +kernel, rfl⟩, by decide +kernel, by decide +kernel, rfl, by decide +kernel⟩,
    ⟨demoFull .service, _, 0, _,
      ask ([32, 0, 24, 0] ++ [1, 0, 0, 0, 0, 0, 0xFF, 31] ++ le32 0 ++ le32 0x3F800000 ++ zeros 8),
      seen ([32, 0, 24, 0] ++ [1, 0, 0, 0, 0, 0, 0xFF, 31] ++ le32 0 ++ le32 0x3F800000 ++ zeros 8), _, _, rfl,
      rfl, rfl, ⟨by decide +kernel, rfl⟩, by decide +kernel, by decide +kernel, rfl, by decide +kernel,
      by decide +kernel, by decide +kernel, by decide +kernel,
      (by
      rw [demoFull_room .service _ (by decide +kernel)]; decide +kernel)⟩,
    ⟨demo .service, _, 0, ask ([255, 0, 8, 0] ++ [1, 1, 2, 0] ++ zeros 4),
      seen ([255, 0, 8, 0] ++ [1, 1, 2, 0] ++ zeros 4), _, _, rfl, rfl, rfl, ⟨by decide +kernel, rfl⟩,
      by decide +kernel⟩,
    ⟨demo .service, _, 0, ask ([255, 0, 8, 0] ++ [1, 2, 2, 0] ++ zeros 4),
      seen ([255, 0, 8, 0] ++ [1, 2, 2, 0] ++ zeros 4), _, _, rfl, rfl, rfl, ⟨by decide +kernel, rfl⟩,
      by decide +kernel⟩,
    ⟨demo .service, _, 0, _, ask ([0, 1, 0, 0] ++ le32 0xFF2000), seen ([0, 1, 0, 0] ++ le32 0xFF2000), _, _, rfl,
      rfl, rfl, ⟨by decide +kernel, rfl⟩, rfl, by decide +kernel⟩,
    ⟨demo .service, _, 0, _, ask [0, 0, 0, 0], seen [0, 0, 0, 0], _, _, rfl, rfl, rfl, ⟨by decide +kernel, rfl⟩,
      rfl, by decide +kernel⟩,
    ⟨demo .service, _, 0, _, ask ([0, 1, 0, 0] ++ le32 0x1002000), seen ([0, 1, 0, 0] ++ le32 0x1002000), _, _,
      rfl, rfl, rfl, ⟨by decide +kernel, rfl⟩, rfl, by decide +kernel⟩,
    ⟨{ demo .service with adc := { running := true, records := [(32, { enable := true })], samples := [(32, demoSample)] } },
      _, 0, _, ask [32, 0], seen [32, 0], _, _, (2, 0, {}), rfl, rfl, rfl, ⟨by decide +kernel, rfl⟩,
      by decide +kernel, by decide +kernel, rfl, by decide +kernel⟩,
    ⟨demo .service, _, 0, _, ask [32, 0], seen [32, 0], _, _, rfl, rfl, rfl, ⟨by decide +kernel, rfl⟩,
      by decide +kernel, by decide +kernel, rfl, by decide +kernel⟩,
    ⟨demo .service, _, 0, _, ask [80, 0], seen [80, 0], _, _, rfl, rfl, rfl, ⟨by decide +kernel, rfl⟩,
      by decide +kernel, by decide +kernel, rfl, by decide +kernel⟩,
    ⟨demo .service, _, 0, ask ([32, 0, 0, 0] ++ le32 0x3F400000 ++ le32 0x3E000000),
      seen ([32, 0, 0, 0] ++ le32 0x3F400000 ++ le32 0x3E000000), _, _, 3 / 4, 1 / 8, rfl, rfl, rfl,
      ⟨by decide +kernel, rfl⟩, by decide +kernel⟩,
    ⟨demo .service, _, 0, ask ([32, 0, 0, 0] ++ le32 0x3F000000 ++ le32 0x3E000000),
      seen ([32, 0, 0, 0] ++ le32 0x3F000000 ++ le32 0x3E000000), _, _, 1 / 2, 1 / 8, rfl, rfl, rfl,
      ⟨by decide +kernel, rfl⟩, by decide +kernel⟩,
    ⟨demo .service, _, 0, ask ([80, 0, 0, 0] ++ le32 0x3F400000 ++ le32 0x3E000000),
      seen ([80, 0, 0, 0] ++ le32 0x3F400000 ++ le32 0x3E000000), _, _, rfl, rfl, rfl, ⟨by decide +kernel, rfl⟩,
      by decide +kernel⟩,
    ⟨demo .service, _, 0, _, ask [32, 0, 0, 0], seen [32, 0, 0, 0], _, _, rfl, rfl, rfl, ⟨by decide +kernel, rfl⟩,
      by decide +kernel, by decide +kernel, by decide +kernel, by decide +kernel, rfl, by decide +kernel⟩,
    ⟨{ demo .service with adc := { syscal := [(32, ⟨0, 0, 0, 60 * tickS⟩)], readyP := true } }, _, 0, _,
      ask [32, 0, 1, 0], seen [32, 0, 1, 0], _, _, ⟨16, 5, false⟩, ⟨0, 0, 0, 60 * tickS⟩, rfl, rfl, rfl,
      ⟨by decide +kernel, rfl⟩, by decide +kernel, by decide +kernel, by decide +kernel, by decide +kernel, rfl,
      by decide +kernel⟩,
    ⟨{ demo .service with adc := { syscal := [(32, ⟨1, 0, 0, 60 * tickS⟩)], readyP := true } }, _, 0, _,
      ask [32, 0, 2, 0], seen [32, 0, 2, 0], _, _, ⟨16, 5, false⟩, ⟨1, 0, 0, 60 * tickS⟩, rfl, rfl, rfl,
      ⟨by decide +kernel, rfl⟩, by decide +kernel, by decide +kernel, by decide +kernel, by decide +kernel, rfl,
      by decide +kernel⟩,
    ⟨{ demo .service with adc := { syscal := [(32, ⟨2, 0, 2147483647, 60 * tickS⟩)], records := [(32, { calHigh := 0x3F800000 })] } },
      _, 0, _, ask [32, 0, 3, 0], seen [32, 0, 3, 0], _, _, ⟨2, 0, 2147483647, 60 * tickS⟩, _, _, rfl, rfl, rfl,
      ⟨by decide +kernel, rfl⟩, by decide +kernel, by decide +kernel, by decide +kernel, by decide +kernel, rfl,
      by decide +kernel, by decide +kernel, by decide +kernel, rfl, rfl, by decide +kernel⟩,
    ⟨{ demo .service with adc := { syscal := [(32, ⟨2, 0, 1073741824, 60 * tickS⟩)], records := [(32, { calHigh := 0x3F800000 })] } },
      _, 0, _, ask [32, 0, 3, 0], seen [32, 0, 3, 0], _, _, ⟨2, 0, 1073741824, 60 * tickS⟩, _, _, rfl, rfl, rfl,
      ⟨by decide +kernel, rfl⟩, by decide +kernel, by decide +kernel, by decide +kernel, by decide +kernel, rfl,
      by decide +kernel, by decide +kernel, by decide +kernel, rfl, rfl, by decide +kernel⟩,
    ⟨{ demo .service with adc := { syscal := [(32, ⟨0, 0, 0, 60 * tickS⟩)], readyP := true } }, _, 0, _,
      ask [32, 0, 4, 0], seen [32, 0, 4, 0], _, _, rfl, rfl, rfl, ⟨by decide +kernel, rfl⟩, by decide +kernel,
      by decide +kernel, by decide +kernel, by decide +kernel, rfl, by decide +kernel⟩,
    ⟨demo .service, _, 0, _, ask [32, 0, 5, 0], seen [32, 0, 5, 0], _, _, ⟨0, 0, false⟩, ⟨0, 0, 0, 0⟩, rfl, rfl,
      rfl, ⟨by decide +kernel, rfl⟩, by decide +kernel, by decide +kernel, by decide +kernel, by decide +kernel,
      rfl, by decide +kernel⟩,
    ⟨{ demo .service with adc := { syscal := [(32, ⟨0, 0, 0, 0⟩)] }, tim := { counter := 600 * tickS } }, _, 0, 32,
      seen [], _, _, ⟨0, 0, 0, 0⟩, rfl, rfl, rfl, by decide +kernel⟩,
    ⟨demo .service, _, 0, 32, seen [], _, _, ⟨0, 0, 0, 0⟩, rfl, rfl, rfl, by decide +kernel⟩⟩

/-- States and operands that meet the hypotheses of ConversionsAndCountsAreStored, clause by clause. -/
theorem witness_ConversionsAndCountsAreStored :
    (∃ (s u : State) (dt k code : Nat) (e : SeqEntry) (g ends : List Nat), u = s.elapse dt ∧
      g = (sarOf u k).group ++ [min code 65535] ∧ ends = (sarOf u k).groupEnds ++ [now u - 100] ∧
      u.adc.running = true ∧ pd u 2 = true ∧ (sarOf u k).entries[(sarOf u k).entry]? = some e ∧
      ((sarOf u k).urgent = [] ∨ (sarOf u k).shielded = true) ∧ g.length < 2 ^ e.avg) ∧
    (∃ (s u : State) (dt k code : Nat) (e : SeqEntry) (g ends : List Nat), u = s.elapse dt ∧
      g = (sarOf u k).group ++ [min code 65535] ∧ ends = (sarOf u k).groupEnds ++ [now u - 100] ∧
      u.adc.running = true ∧ pd u 2 = true ∧ (sarOf u k).entries[(sarOf u k).entry]? = some e ∧
      ((sarOf u k).urgent = [] ∨ (sarOf u k).shielded = true) ∧ 2 ^ e.avg ≤ g.length ∧
      (chanRecord (asOf (meanTick ends) u) (32 + e.input)).enable = true) ∧
    (∃ (s u : State) (dt k code : Nat) (e : SeqEntry) (g ends : List Nat), u = s.elapse dt ∧
      g = (sarOf u k).group ++ [min code 65535] ∧ ends = (sarOf u k).groupEnds ++ [now u - 100] ∧
      u.adc.running = true ∧ pd u 2 = true ∧ (sarOf u k).entries[(sarOf u k).entry]? = some e ∧
      ((sarOf u k).urgent = [] ∨ (sarOf u k).shielded = true) ∧ 2 ^ e.avg ≤ g.length ∧
      (chanRecord (asOf (meanTick ends) u) (32 + e.input)).enable = false) ∧
    (∃ (s u : State) (dt k code : Nat) (g ends : List Nat), u = s.elapse dt ∧
      g = (sarOf u k).group ++ [min code 65535] ∧ ends = (sarOf u k).groupEnds ++ [now u - 100] ∧
      (u.adc.running = false ∨ pd u 2 = false ∨ (sarOf u k).entries[(sarOf u k).entry]? = none ∨ (sarOf u k).urgent ≠ [] ∧
      (sarOf u k).shielded = false)) ∧
    (∃ (s u : State) (dt k code : Nat) (q : Urgent) (g ends : List Nat), u = s.elapse dt ∧
      g = (sarOf u k).group ++ [min code 65535] ∧ ends = (sarOf u k).groupEnds ++ [now u - 100] ∧
      urgentHead u k = some q) ∧
    (∃ (s u : State) (dt k code : Nat) (g ends : List Nat), u = s.elapse dt ∧
      g = (sarOf u k).group ++ [min code 65535] ∧ ends = (sarOf u k).groupEnds ++ [now u - 100] ∧
      urgentHead u k = none) ∧
    (∃ (s u : State) (dt k n code at' : Nat) (g ends : List Nat), u = s.elapse dt ∧
      g = (sarOf u k).group ++ [min code 65535] ∧ ends = (sarOf u k).groupEnds ++ [now u - 100] ∧
      modulatorInstant u n = some at') ∧
    (∃ (s u : State) (dt k n code : Nat) (g ends : List Nat), u = s.elapse dt ∧
      g = (sarOf u k).group ++ [min code 65535] ∧ ends = (sarOf u k).groupEnds ++ [now u - 100] ∧
      modulatorInstant u n = none) ∧
    (∃ (s u : State) (dt k : Nat) (rising : Bool), u = s.elapse dt ∧ edgeCounted u k rising = true) ∧
    (∃ (s u : State) (dt k : Nat) (rising : Bool), u = s.elapse dt ∧ edgeCounted u k rising = false) ∧
    (∃ (s u : State) (dt : Nat), u = s.elapse dt ∧ pd u 2 = true ∧ everyDue u u.adc.measuredAt tickMs = true) ∧
    (∃ (s u : State) (dt : Nat), u = s.elapse dt ∧ (pd u 2 = false ∨ everyDue u u.adc.measuredAt tickMs = false)) ∧
    (∃ (s u : State) (dt : Nat), u = s.elapse dt ∧ pd u 2 = true) ∧
    (∃ (s u : State) (dt : Nat), u = s.elapse dt ∧ pd u 2 = true) ∧
    (∃ (s u : State) (dt : Nat), u = s.elapse dt ∧ pd u 2 = false) ∧
    (∃ (s u : State) (dt : Nat), u = s.elapse dt ∧ pd u 2 = false) :=
  ⟨⟨{ demo .steer with adc := { running := true, records := [(32, { enable := true }), (1, { enable := true }), (127, { enable := true, mode := 2 })], refP := 1, sar0 := { entries := [⟨0, 4, 1, 0⟩] } } },
    _, 0, 0, 65535, ⟨0, 4, 1, 0⟩, _, _, rfl, rfl, rfl, by decide +kernel⟩,
    ⟨{ demo .steer with adc := { running := true, records := [(32, { enable := true }), (1, { enable := true }), (127, { enable := true, mode := 2 })], refP := 1, sar0 := { entries := [⟨0, 4, 0, 0⟩] } } },
      _, 0, 0, 65535, ⟨0, 4, 0, 0⟩, _, _, rfl, rfl, rfl, by decide +kernel⟩,
    ⟨{ demo .steer with adc := { running := true, sar0 := { entries := [⟨0, 4, 0, 0⟩] } } }, _, 0, 0, 65535, ⟨0, 4,
      0, 0⟩, _, _, rfl, rfl, rfl, by decide +kernel⟩,
    ⟨demo .steer, _, 0, 0, 65535, _, _, rfl, rfl, rfl, by decide +kernel⟩,
    ⟨{ demo .steer with adc := { running := true, records := [(32, { enable := true }), (1, { enable := true }), (127, { enable := true, mode := 2 })], refP := 1, sar0 := { entries := [⟨0, 4, 0, 0⟩], urgent := [⟨3, 32, 0⟩] } } },
      _, 0, 0, 65535, ⟨3, 32, 0⟩, _, _, rfl, rfl, rfl, by decide +kernel⟩,
    ⟨demo .steer, _, 0, 0, 0, _, _, rfl, rfl, rfl, by decide +kernel⟩,
    ⟨{ demo .steer with adc := { running := true, records := [(32, { enable := true }), (1, { enable := true }), (127, { enable := true, mode := 2 })], refP := 1, sar0 := { entries := [⟨0, 4, 0, 0⟩] } } },
      _, 0, 0, 1, 0,
      (sampleInstant ({ demo .steer with adc := { running := true, records := [(32, { enable := true }), (1, { enable := true }), (127, { enable := true, mode := 2 })], refP := 1, sar0 := { entries := [⟨0, 4, 0, 0⟩] } } })).getD 0,
      _, _, rfl, rfl, rfl, by decide +kernel⟩,
    ⟨demo .steer, _, 0, 0, 1, 0, _, _, rfl, rfl, rfl, by decide +kernel⟩,
    ⟨{ demo .steer with adc := { running := true, records := [(32, { enable := true }), (1, { enable := true }), (127, { enable := true, mode := 2 })], refP := 1, sar0 := { entries := [⟨0, 4, 0, 0⟩] } } },
      _, 0, 31, true, rfl, by decide +kernel⟩,
    ⟨{ demo .steer with adc := { running := true, records := [(32, { enable := true }), (1, { enable := true }), (127, { enable := true, mode := 2 })], refP := 1, sar0 := { entries := [⟨0, 4, 0, 0⟩] } } },
      _, 0, 0, true, rfl, by decide +kernel⟩,
    ⟨demo .steer, _, 0, rfl, by decide +kernel⟩,
    ⟨{ demo .steer with pmu := { powered := 0 } }, _, 0, rfl, by decide +kernel⟩,
    ⟨demo .steer, _, 0, rfl, by decide +kernel⟩,
    ⟨demo .steer, _, 0, rfl, by decide +kernel⟩,
    ⟨{ demo .steer with pmu := { powered := 0 } }, _, 0, rfl, by decide +kernel⟩,
    ⟨{ demo .steer with pmu := { powered := 0 } }, _, 0, rfl, by decide +kernel⟩⟩

/-- States and operands that meet the hypotheses of MeteringAccumulatesAndIsCommanded, clause by clause. -/
theorem witness_MeteringAccumulatesAndIsCommanded :
    (∃ (s u w : State) (dt n : Nat) (m : MtrChan), u = s.elapse dt ∧
      w = judgeExpiry { u with mtr := { u.mtr with closedAt := boundary u } } ∧ m = mtrChan u n ∧
      max u.mtr.closedAt u.mtr.startedAt < boundary u ∧ meteringRuns u = true ∧ n < 12 ∧ m.record.kind ≠ 0 ∧
      m.next = none) ∧
    (∃ (s u w : State) (dt n : Nat) (r : MtrRecord) (m : MtrChan), u = s.elapse dt ∧
      w = judgeExpiry { u with mtr := { u.mtr with closedAt := boundary u } } ∧ m = mtrChan u n ∧
      max u.mtr.closedAt u.mtr.startedAt < boundary u ∧ meteringRuns u = true ∧ n < 12 ∧ m.record.kind ≠ 0 ∧
      m.next = some r ∧ r.kind = m.record.kind ∧ r.quantum = m.record.quantum) ∧
    (∃ (s u w : State) (dt n : Nat) (r : MtrRecord) (m : MtrChan), u = s.elapse dt ∧
      w = judgeExpiry { u with mtr := { u.mtr with closedAt := boundary u } } ∧ m = mtrChan u n ∧
      max u.mtr.closedAt u.mtr.startedAt < boundary u ∧ meteringRuns u = true ∧ n < 12 ∧ m.next = some r ∧
      (r.kind ≠ m.record.kind ∨ r.quantum ≠ m.record.quantum)) ∧
    (∃ (s u w : State) (dt n : Nat) (m : MtrChan), u = s.elapse dt ∧
      w = judgeExpiry { u with mtr := { u.mtr with closedAt := boundary u } } ∧ m = mtrChan u n ∧
      max u.mtr.closedAt u.mtr.startedAt < boundary u ∧ meteringOn u = true ∧ meteringRuns u = false) ∧
    (∃ (s u w : State) (dt n : Nat) (m : MtrChan), u = s.elapse dt ∧
      w = judgeExpiry { u with mtr := { u.mtr with closedAt := boundary u } } ∧ m = mtrChan u n ∧
      boundary u ≤ max u.mtr.closedAt u.mtr.startedAt) ∧
    (∃ (s u w : State) (dt n : Nat) (v : Rat × Rat) (k : Rat) (m : MtrChan), u = s.elapse dt ∧
      w = judgeExpiry { u with mtr := { u.mtr with closedAt := boundary u } } ∧ m = mtrChan u n ∧
      max m.tickedAt u.mtr.startedAt < thermalTick u ∧ isThermal m.record = true ∧ meteringRuns u = true ∧
      (tickTemps m.thermal = some v ∧ k = (factorAt m ((v.1 + v.2) / 2)).1 ∨ tickTemps m.thermal = none ∧
      m.thermal.held = some (v.1, v.2, k))) ∧
    (∃ (s u w : State) (dt n : Nat) (m : MtrChan), u = s.elapse dt ∧
      w = judgeExpiry { u with mtr := { u.mtr with closedAt := boundary u } } ∧ m = mtrChan u n ∧
      (thermalTick u ≤ max m.tickedAt u.mtr.startedAt ∨ isThermal m.record = false)) ∧
    (∃ (s u w : State) (dt n : Nat) (m : MtrChan), u = s.elapse dt ∧
      w = judgeExpiry { u with mtr := { u.mtr with closedAt := boundary u } } ∧ m = mtrChan u n ∧
      max u.mtr.writtenAt u.mtr.startedAt < secondTick u ∧ meteringRuns u = true) ∧
    (∃ (s u w : State) (dt n : Nat) (m : MtrChan), u = s.elapse dt ∧
      w = judgeExpiry { u with mtr := { u.mtr with closedAt := boundary u } } ∧ m = mtrChan u n ∧
      max u.mtr.writtenAt u.mtr.startedAt < secondTick u ∧ meteringRuns u = false) ∧
    (∃ (s u w : State) (dt n : Nat) (m : MtrChan), u = s.elapse dt ∧
      w = judgeExpiry { u with mtr := { u.mtr with closedAt := boundary u } } ∧ m = mtrChan u n ∧
      secondTick u ≤ max u.mtr.writtenAt u.mtr.startedAt) ∧
    (∃ (s u w : State) (dt n : Nat) (m : MtrChan), u = s.elapse dt ∧
      w = judgeExpiry { u with mtr := { u.mtr with closedAt := boundary u } } ∧ m = mtrChan u n ∧ pd u 3 = true ∧
      (tget u.mtr.pulses n {}).pending ≠ 0 ∧ (tget u.mtr.pulses n {}).idleAt ≤ now u) ∧
    (∃ (s u w : State) (dt n : Nat) (m : MtrChan), u = s.elapse dt ∧
      w = judgeExpiry { u with mtr := { u.mtr with closedAt := boundary u } } ∧ m = mtrChan u n ∧
      (pd u 3 = false ∨ (tget u.mtr.pulses n {}).pending = 0 ∨ now u < (tget u.mtr.pulses n {}).idleAt)) ∧
    (∃ (s u w : State) (dt n : Nat) (tries : List I2cTry) (m : MtrChan), u = s.elapse dt ∧
      w = judgeExpiry { u with mtr := { u.mtr with closedAt := boundary u } } ∧ m = mtrChan u n ∧
      m.dayRead < readDay u ∧ meteringRuns u = true ∧ isThermal m.record = true ∧ readsChips u = true ∧
      chipRecord (readAnswer tries) = none) ∧
    (∃ (s u w : State) (dt n : Nat) (b : Bytes) (tries : List I2cTry) (m : MtrChan), u = s.elapse dt ∧
      w = judgeExpiry { u with mtr := { u.mtr with closedAt := boundary u } } ∧ m = mtrChan u n ∧
      m.dayRead < readDay u ∧ meteringRuns u = true ∧ isThermal m.record = true ∧ readsChips u = true ∧
      chipRecord (readAnswer tries) = some b ∧ m.serial = some (slice b 4 16)) ∧
    (∃ (s u w : State) (dt n : Nat) (b : Bytes) (tries : List I2cTry) (m : MtrChan), u = s.elapse dt ∧
      w = judgeExpiry { u with mtr := { u.mtr with closedAt := boundary u } } ∧ m = mtrChan u n ∧
      m.dayRead < readDay u ∧ meteringRuns u = true ∧ isThermal m.record = true ∧ readsChips u = true ∧
      chipRecord (readAnswer tries) = some b ∧ m.serial ≠ some (slice b 4 16)) ∧
    (∃ (s u w : State) (dt n : Nat) (m : MtrChan), u = s.elapse dt ∧
      w = judgeExpiry { u with mtr := { u.mtr with closedAt := boundary u } } ∧ m = mtrChan u n ∧
      (readDay u ≤ m.dayRead ∨ meteringRuns u = false ∨ isThermal m.record = false ∨ readsChips u = false)) ∧
    (∃ (s u : State) (dt : Nat) (c : Cmd) (call : Call) (p q : Bytes) (m : MtrChan), u = s.elapse dt ∧
      p = call.payload ∧ q = p.drop 4 ∧ m = mtrChan u (u8 p 0) ∧ Accepted rowMtrRead c u call ∧ p.length = 1 ∧
      144 ≤ call.cap ∧ u8 p 0 ≤ 11 ∧ m.record.kind ≠ 0) ∧
    (∃ (s u : State) (dt : Nat) (c : Cmd) (call : Call) (p q : Bytes) (m : MtrChan), u = s.elapse dt ∧
      p = call.payload ∧ q = p.drop 4 ∧ m = mtrChan u (u8 p 0) ∧ Accepted rowMtrRead c u call ∧ p.length = 1 ∧
      144 ≤ call.cap ∧ u8 p 0 ≤ 11 ∧ m.record.kind = 0) ∧
    (∃ (s u : State) (dt : Nat) (c : Cmd) (call : Call) (p q : Bytes) (m : MtrChan), u = s.elapse dt ∧
      p = call.payload ∧ q = p.drop 4 ∧ m = mtrChan u (u8 p 0) ∧ Accepted rowMtrRead c u call ∧ p.length = 1 ∧
      144 ≤ call.cap ∧ 11 < u8 p 0) ∧
    (∃ (s u : State) (dt : Nat) (c : Cmd) (call : Call) (p q : Bytes) (m : MtrChan) (out : List Snapshot) (full : Nat),
      u = s.elapse dt ∧ p = call.payload ∧ q = p.drop 4 ∧ m = mtrChan u (u8 p 0) ∧
      Accepted rowMtrSnapRead c u call ∧ p.length = 8 ∧
      out = (u.mtr.ring.filter (fun x => decide (u32 p 0 ≤ x.number))).take (u16 p 4) ∧
      full = 8 + (out.map (fun x => x.body.length + x.signatures.length)).sum + (u16 p 4 - out.length) * snapBytes u.mtr.signAlg ∧
      1 ≤ u16 p 4 ∧ full ≤ call.limit ∧ full ≤ call.cap ∧ u16 p 6 = 0 ∧
      u.mtr.ring.any (fun x => decide (x.number = u32 p 0)) = true) ∧
    (∃ (s u : State) (dt : Nat) (c : Cmd) (call : Call) (p q : Bytes) (m : MtrChan) (out : List Snapshot) (full : Nat),
      u = s.elapse dt ∧ p = call.payload ∧ q = p.drop 4 ∧ m = mtrChan u (u8 p 0) ∧
      Accepted rowMtrSnapRead c u call ∧ p.length = 8 ∧
      out = (u.mtr.ring.filter (fun x => decide (u32 p 0 ≤ x.number))).take (u16 p 4) ∧
      full = 8 + (out.map (fun x => x.body.length + x.signatures.length)).sum + (u16 p 4 - out.length) * snapBytes u.mtr.signAlg ∧
      1 ≤ u16 p 4 ∧ full ≤ call.limit ∧ full ≤ call.cap ∧ u16 p 6 = 0 ∧
      u.mtr.ring.any (fun x => decide (x.number = u32 p 0)) = false) ∧
    (∃ (s u : State) (dt : Nat) (c : Cmd) (call : Call) (p q : Bytes) (m : MtrChan) (out : List Snapshot) (full : Nat),
      u = s.elapse dt ∧ p = call.payload ∧ q = p.drop 4 ∧ m = mtrChan u (u8 p 0) ∧
      Accepted rowMtrSnapRead c u call ∧ p.length = 8 ∧
      out = (u.mtr.ring.filter (fun x => decide (u32 p 0 ≤ x.number))).take (u16 p 4) ∧
      full = 8 + (out.map (fun x => x.body.length + x.signatures.length)).sum + (u16 p 4 - out.length) * snapBytes u.mtr.signAlg ∧
      (u16 p 4 = 0 ∨ call.limit < full)) ∧
    (∃ (s u : State) (dt : Nat) (c : Cmd) (call : Call) (p q : Bytes) (m : MtrChan), u = s.elapse dt ∧
      p = call.payload ∧ q = p.drop 4 ∧ m = mtrChan u (u8 p 0) ∧ Accepted rowMtrChanSet c u call ∧
      allZero (slice p 1 3) = true ∧ p.length = 36 ∧ u8 p 0 ≤ 11 ∧ mtrRecordOk (mtrFields q) = true ∧
      u32 q 28 = 0 ∧ ((mtrFields q).kind = 0 ∨ roomFor u (mtrPoints (u8 p 0)) = true)) ∧
    (∃ (s u : State) (dt : Nat) (c : Cmd) (call : Call) (p q : Bytes) (m : MtrChan), u = s.elapse dt ∧
      p = call.payload ∧ q = p.drop 4 ∧ m = mtrChan u (u8 p 0) ∧ Accepted rowMtrChanSet c u call ∧
      allZero (slice p 1 3) = true ∧ p.length = 36 ∧ u8 p 0 ≤ 11 ∧ mtrRecordOk (mtrFields q) = true ∧
      u32 q 28 = 0 ∧ (mtrFields q).kind ≠ 0 ∧ roomFor u (mtrPoints (u8 p 0)) = false) ∧
    (∃ (s u : State) (dt : Nat) (c : Cmd) (call : Call) (p q : Bytes) (m : MtrChan), u = s.elapse dt ∧
      p = call.payload ∧ q = p.drop 4 ∧ m = mtrChan u (u8 p 0) ∧ Accepted rowMtrChanSet c u call ∧
      allZero (slice p 1 3) = true ∧ p.length = 36 ∧ u8 p 0 ≠ 255 ∧
      (11 < u8 p 0 ∨ mtrRecordOk (mtrFields q) = false ∨ u32 q 28 ≠ 0)) ∧
    (∃ (s u : State) (dt : Nat) (c : Cmd) (call : Call) (p q : Bytes) (m : MtrChan), u = s.elapse dt ∧
      p = call.payload ∧ q = p.drop 4 ∧ m = mtrChan u (u8 p 0) ∧ Accepted rowMtrChanSet c u call ∧
      allZero (slice p 1 3) = true ∧ p.length = 20 ∧ u8 p 0 = 255 ∧ u16 q 0 ≠ 0 ∧ 1440 % u16 q 0 = 0 ∧ 1 ≤ u8 q 3 ∧
      u8 q 3 ≤ 3 ∧ allZero (slice q 4 12) = true ∧ meterSlotOk u (u8 q 2) = true) ∧
    (∃ (s u : State) (dt : Nat) (c : Cmd) (call : Call) (p q : Bytes) (m : MtrChan), u = s.elapse dt ∧
      p = call.payload ∧ q = p.drop 4 ∧ m = mtrChan u (u8 p 0) ∧ Accepted rowMtrChanSet c u call ∧
      allZero (slice p 1 3) = true ∧ p.length = 20 ∧ u8 p 0 = 255 ∧ u16 q 0 ≠ 0 ∧ 1440 % u16 q 0 = 0 ∧ 1 ≤ u8 q 3 ∧
      u8 q 3 ≤ 3 ∧ allZero (slice q 4 12) = true ∧ meterSlotOk u (u8 q 2) = false) ∧
    (∃ (s u : State) (dt : Nat) (c : Cmd) (call : Call) (p q : Bytes) (m : MtrChan), u = s.elapse dt ∧
      p = call.payload ∧ q = p.drop 4 ∧ m = mtrChan u (u8 p 0) ∧ Accepted rowMtrChanSet c u call ∧
      allZero (slice p 1 3) = true ∧ p.length = 20 ∧ u8 p 0 = 255 ∧
      (u16 q 0 = 0 ∨ 1440 % u16 q 0 ≠ 0 ∨ u8 q 3 = 0 ∨ 3 < u8 q 3 ∨ allZero (slice q 4 12) = false)) ∧
    (∃ (s u : State) (dt : Nat) (c : Cmd) (call : Call) (p q : Bytes) (m : MtrChan), u = s.elapse dt ∧
      p = call.payload ∧ q = p.drop 4 ∧ m = mtrChan u (u8 p 0) ∧ Accepted rowMtrTcompSet c u call ∧
      p.length = 260 ∧ u8 p 0 ≤ 11 ∧ allZero (slice p 1 3) = true ∧ tableOk (comingKind m) (tablePoints q) = true) ∧
    (∃ (s u : State) (dt : Nat) (c : Cmd) (call : Call) (p q : Bytes) (m : MtrChan), u = s.elapse dt ∧
      p = call.payload ∧ q = p.drop 4 ∧ m = mtrChan u (u8 p 0) ∧ Accepted rowMtrTcompSet c u call ∧
      p.length = 260 ∧
      (11 < u8 p 0 ∨ allZero (slice p 1 3) = false ∨ tableOk (comingKind m) (tablePoints q) = false)) ∧
    (∃ (s u : State) (dt : Nat) (c : Cmd) (call : Call) (p q : Bytes) (m : MtrChan), u = s.elapse dt ∧
      p = call.payload ∧ q = p.drop 4 ∧ m = mtrChan u (u8 p 0) ∧ Accepted rowMtrPulseSet c u call ∧ p.length = 12 ∧
      u8 p 0 ≤ 15 ∧ u16 p 2 = 0 ∧ 1 ≤ u64 p 4 ∧ u64 p 4 ≤ 2 ^ 48 ∧ mtrSourceOk u (u8 p 1) = true) ∧
    (∃ (s u : State) (dt : Nat) (c : Cmd) (call : Call) (p q : Bytes) (m : MtrChan), u = s.elapse dt ∧
      p = call.payload ∧ q = p.drop 4 ∧ m = mtrChan u (u8 p 0) ∧ Accepted rowMtrPulseSet c u call ∧ p.length = 12 ∧
      (15 < u8 p 0 ∨ u16 p 2 ≠ 0 ∨ u64 p 4 = 0 ∨ 2 ^ 48 < u64 p 4 ∨ mtrSourceOk u (u8 p 1) = false)) ∧
    (∃ (s u : State) (dt : Nat) (c : Cmd) (call : Call) (p q b : Bytes) (tries : List I2cTry) (m : MtrChan) (expired : Bool),
      u = s.elapse dt ∧ p = call.payload ∧ q = p.drop 4 ∧ m = mtrChan u (u8 p 0) ∧
      Accepted rowMtrSensorAccept c u call ∧ p.length = 20 ∧ u8 p 0 ≤ 11 ∧ allZero (slice p 1 3) = true ∧
      isThermal m.record = true ∧ readsChips u = true ∧ chipRecord (readAnswer tries) = some b ∧
      expired = (if u.tim.legal.valid then lifeEnded u (u32 b 20) (u16 b 24) else m.expired) ∧
      slice b 4 16 = slice p 4 16 ∧ expired = false) ∧
    (∃ (s u : State) (dt : Nat) (c : Cmd) (call : Call) (p q b : Bytes) (tries : List I2cTry) (m : MtrChan) (expired : Bool),
      u = s.elapse dt ∧ p = call.payload ∧ q = p.drop 4 ∧ m = mtrChan u (u8 p 0) ∧
      Accepted rowMtrSensorAccept c u call ∧ p.length = 20 ∧ u8 p 0 ≤ 11 ∧ allZero (slice p 1 3) = true ∧
      isThermal m.record = true ∧ readsChips u = true ∧ chipRecord (readAnswer tries) = some b ∧
      expired = (if u.tim.legal.valid then lifeEnded u (u32 b 20) (u16 b 24) else m.expired) ∧
      (slice b 4 16 ≠ slice p 4 16 ∨ expired = true)) ∧
    (∃ (s u : State) (dt : Nat) (c : Cmd) (call : Call) (p q : Bytes) (tries : List I2cTry) (m : MtrChan),
      u = s.elapse dt ∧ p = call.payload ∧ q = p.drop 4 ∧ m = mtrChan u (u8 p 0) ∧
      Accepted rowMtrSensorAccept c u call ∧ p.length = 20 ∧ u8 p 0 ≤ 11 ∧ allZero (slice p 1 3) = true ∧
      isThermal m.record = true ∧ readsChips u = true ∧ chipRecord (readAnswer tries) = none) ∧
    (∃ (s u : State) (dt : Nat) (c : Cmd) (call : Call) (p q : Bytes) (m : MtrChan), u = s.elapse dt ∧
      p = call.payload ∧ q = p.drop 4 ∧ m = mtrChan u (u8 p 0) ∧ Accepted rowMtrSensorAccept c u call ∧
      p.length = 20 ∧ u8 p 0 ≤ 11 ∧ allZero (slice p 1 3) = true ∧ isThermal m.record = true ∧
      readsChips u = false) ∧
    (∃ (s u : State) (dt : Nat) (c : Cmd) (call : Call) (p q : Bytes) (m : MtrChan), u = s.elapse dt ∧
      p = call.payload ∧ q = p.drop 4 ∧ m = mtrChan u (u8 p 0) ∧ Accepted rowMtrSensorAccept c u call ∧
      p.length = 20 ∧ (11 < u8 p 0 ∨ allZero (slice p 1 3) = false ∨ isThermal m.record = false)) :=
  ⟨⟨demoThermal .steer none, _, _, 0, 11, _, rfl, rfl, rfl, by decide +kernel⟩,
    ⟨{ demo .steer with mtr := { running := true, expiryJudged := true, channels := [(11, { thermalChan none with next := some { (thermalChan none).record with pMax := 1 } })] } },
      _, _, 0, 11, { (thermalChan none).record with pMax := 1 }, _, rfl, rfl, rfl, by decide +kernel⟩,
    ⟨{ demo .steer with mtr := { running := true, expiryJudged := true, channels := [(11, { thermalChan none with next := some { (thermalChan none).record with quantum := 1 } })] } },
      _, _, 0, 11, { (thermalChan none).record with quantum := 1 }, _, rfl, rfl, rfl, by decide +kernel⟩,
    ⟨{ demo .steer with sys := { (demo .steer).sys with reinit := [{ func := 3, unit := 0, ends := some (61 * tickS) }] } },
      _, _, 0, 11, _, rfl, rfl, rfl, by decide +kernel⟩,
    ⟨{ demo .steer with mtr := { running := true, closedAt := 60 * tickS } }, _, _, 0, 0, _, rfl, rfl, rfl,
      by decide +kernel⟩,
    ⟨{ demo .steer with mtr := { running := true, expiryJudged := true, channels := [(11, { thermalChan none with table := some [] })] } },
      _, _, 0, 11, (80, 40),
      (factorAt (mtrChan ({ demo .steer with mtr := { running := true, expiryJudged := true, channels := [(11, { thermalChan none with table := some [] })] } }) 11) 60).1,
      _, rfl, rfl, rfl, by decide +kernel⟩,
    ⟨demo .steer, _, _, 0, 3, _, rfl, rfl, rfl, by decide +kernel⟩,
    ⟨demo .steer, _, _, 0, 0, _, rfl, rfl, rfl, by decide +kernel⟩,
    ⟨{ demo .steer with mtr := {} }, _, _, 0, 0, _, rfl, rfl, rfl, by decide +kernel⟩,
    ⟨{ demo .steer with mtr := { running := true, writtenAt := 60 * tickS } }, _, _, 0, 0, _, rfl, rfl, rfl,
      by decide +kernel⟩,
    ⟨{ demo .steer with mtr := { running := true, pulses := [(15, { pending := 1 })] } }, _, _, 0, 15, _, rfl, rfl,
      rfl, by decide +kernel⟩,
    ⟨demo .steer, _, _, 0, 15, _, rfl, rfl, rfl, by decide +kernel⟩,
    ⟨{ demoThermal .steer none with tim := { counter := 86400 * tickS } }, _, _, 0, 11, [], _, rfl, rfl, rfl,
      by decide +kernel⟩,
    ⟨{ demoThermal .steer (some (zeros 16)) with tim := { counter := 86400 * tickS } }, _, _, 0, 11, chip,
      [⟨true, 0, chip⟩], _, rfl, rfl, rfl, by decide +kernel⟩,
    ⟨{ demoThermal .steer none with tim := { counter := 86400 * tickS } }, _, _, 0, 11, chip, [⟨true, 0, chip⟩], _,
      rfl, rfl, rfl, by decide +kernel⟩,
    ⟨demo .steer, _, _, 0, 11, _, rfl, rfl, rfl, by decide +kernel⟩,
    ⟨demoThermal .steer none, _, 0, ask [11], seen [11], _, _, _, rfl, rfl, rfl, rfl, ⟨by decide +kernel, rfl⟩,
      by decide +kernel⟩,
    ⟨demo .steer, _, 0, ask [11], seen [11], _, _, _, rfl, rfl, rfl, rfl, ⟨by decide +kernel, rfl⟩,
      by decide +kernel⟩,
    ⟨demo .steer, _, 0, ask [12], seen [12], _, _, _, rfl, rfl, rfl, rfl, ⟨by decide +kernel, rfl⟩,
      by decide +kernel⟩,
    ⟨{ demo .steer with mtr := { ring := [⟨3, [1], [2]⟩] } }, _, 0, ask [3, 0, 0, 0, 1, 0, 0, 0],
      seen [3, 0, 0, 0, 1, 0, 0, 0], _, _, _, _, _, rfl, rfl, rfl, rfl, ⟨by decide +kernel, rfl⟩,
      by decide +kernel, rfl, rfl, by decide +kernel⟩,
    ⟨{ demo .steer with mtr := { ring := [⟨3, [1], [2]⟩] } }, _, 0, ask [2, 0, 0, 0, 1, 0, 0, 0],
      seen [2, 0, 0, 0, 1, 0, 0, 0], _, _, _, _, _, rfl, rfl, rfl, rfl, ⟨by decide +kernel, rfl⟩,
      by decide +kernel, rfl, rfl, by decide +kernel⟩,
    ⟨{ demo .steer with mtr := { ring := [⟨3, [1], [2]⟩] } }, _, 0, ask [3, 0, 0, 0, 0, 0, 0, 0],
      seen [3, 0, 0, 0, 0, 0, 0, 0], _, _, _, _, _, rfl, rfl, rfl, rfl, ⟨by decide +kernel, rfl⟩,
      by decide +kernel, rfl, rfl, by decide +kernel⟩,
    ⟨demo .service, _, 0,
      ask ([11, 0, 0, 0] ++ [1, 6, 0xFF, 0xFF, 0xFF, 0xFF, 0, 0] ++ le32 0x3F800000 ++ zeros 20),
      seen ([11, 0, 0, 0] ++ [1, 6, 0xFF, 0xFF, 0xFF, 0xFF, 0, 0] ++ le32 0x3F800000 ++ zeros 20), _, _, _, rfl,
      rfl, rfl, rfl, ⟨by decide +kernel, rfl⟩, by decide +kernel⟩,
    ⟨demoFull .service, _, 0,
      ask ([11, 0, 0, 0] ++ [1, 6, 0xFF, 0xFF, 0xFF, 0xFF, 0, 0] ++ le32 0x3F800000 ++ zeros 20),
      seen ([11, 0, 0, 0] ++ [1, 6, 0xFF, 0xFF, 0xFF, 0xFF, 0, 0] ++ le32 0x3F800000 ++ zeros 20), _, _, _, rfl,
      rfl, rfl, rfl, ⟨by decide +kernel, rfl⟩, by decide +kernel, by decide +kernel, by decide +kernel,
      by decide +kernel, by decide +kernel, by decide +kernel, (demoFull_room .service _ (by decide +kernel))⟩,
    ⟨demo .service, _, 0,
      ask ([12, 0, 0, 0] ++ [1, 6, 0xFF, 0xFF, 0xFF, 0xFF, 0, 0] ++ le32 0x3F800000 ++ zeros 20),
      seen ([12, 0, 0, 0] ++ [1, 6, 0xFF, 0xFF, 0xFF, 0xFF, 0, 0] ++ le32 0x3F800000 ++ zeros 20), _, _, _, rfl,
      rfl, rfl, rfl, ⟨by decide +kernel, rfl⟩, by decide +kernel⟩,
    ⟨{ demo .service with key := { slots := [(8, { policy := polMeter })] } }, _, 0,
      ask ([255, 0, 0, 0] ++ [15, 0, 8, 1] ++ zeros 12), seen ([255, 0, 0, 0] ++ [15, 0, 8, 1] ++ zeros 12), _, _,
      _, rfl, rfl, rfl, rfl, ⟨by decide +kernel, rfl⟩, by decide +kernel⟩,
    ⟨demo .service, _, 0, ask ([255, 0, 0, 0] ++ [15, 0, 8, 1] ++ zeros 12),
      seen ([255, 0, 0, 0] ++ [15, 0, 8, 1] ++ zeros 12), _, _, _, rfl, rfl, rfl, rfl, ⟨by decide +kernel, rfl⟩,
      by decide +kernel⟩,
    ⟨demo .service, _, 0, ask ([255, 0, 0, 0] ++ zeros 16), seen ([255, 0, 0, 0] ++ zeros 16), _, _, _, rfl, rfl,
      rfl, rfl, ⟨by decide +kernel, rfl⟩, by decide +kernel⟩,
    ⟨demoThermal .service none, _, 0,
      ask ([11, 0, 0, 0] ++ (List.range 32).flatMap (fun i => le32 (fp32 i).toNat) ++ (List.range 32).flatMap (fun _ => le32 0x4A800000)),
      seen ([11, 0, 0, 0] ++ (List.range 32).flatMap (fun i => le32 (fp32 i).toNat) ++ (List.range 32).flatMap (fun _ => le32 0x4A800000)),
      _, _, _, rfl, rfl, rfl, rfl, ⟨by decide +kernel, rfl⟩, by decide +kernel⟩,
    ⟨demoThermal .service none, _, 0,
      ask ([12, 0, 0, 0] ++ (List.range 32).flatMap (fun i => le32 (fp32 i).toNat) ++ (List.range 32).flatMap (fun _ => le32 0x4A800000)),
      seen ([12, 0, 0, 0] ++ (List.range 32).flatMap (fun i => le32 (fp32 i).toNat) ++ (List.range 32).flatMap (fun _ => le32 0x4A800000)),
      _, _, _, rfl, rfl, rfl, rfl, ⟨by decide +kernel, rfl⟩, by decide +kernel⟩,
    ⟨demoThermal .service none, _, 0, ask ([15, 93, 0, 0] ++ le64 (2 ^ 48)),
      seen ([15, 93, 0, 0] ++ le64 (2 ^ 48)), _, _, _, rfl, rfl, rfl, rfl, ⟨by decide +kernel, rfl⟩,
      by decide +kernel⟩,
    ⟨demoThermal .service none, _, 0, ask ([16, 93, 0, 0] ++ le64 (2 ^ 48)),
      seen ([16, 93, 0, 0] ++ le64 (2 ^ 48)), _, _, _, rfl, rfl, rfl, rfl, ⟨by decide +kernel, rfl⟩,
      by decide +kernel⟩,
    ⟨demoThermal .service none, _, 0, ask ([11, 0, 0, 0] ++ zeros 16), seen ([11, 0, 0, 0] ++ zeros 16), _, _,
      chip, [⟨true, 0, chip⟩], _, _, rfl, rfl, rfl, rfl, ⟨by decide +kernel, rfl⟩, by decide +kernel,
      by decide +kernel, by decide +kernel, by decide +kernel, by decide +kernel, by decide +kernel, rfl,
      by decide +kernel⟩,
    ⟨demoThermal .service none, _, 0, ask ([11, 0, 0, 0] ++ [1] ++ zeros 15),
      seen ([11, 0, 0, 0] ++ [1] ++ zeros 15), _, _, chip, [⟨true, 0, chip⟩], _, _, rfl, rfl, rfl, rfl,
      ⟨by decide +kernel, rfl⟩, by decide +kernel, by decide +kernel, by decide +kernel, by decide +kernel,
      by decide +kernel, by decide +kernel, rfl, by decide +kernel⟩,
    ⟨demoThermal .service none, _, 0, ask ([11, 0, 0, 0] ++ zeros 16), seen ([11, 0, 0, 0] ++ zeros 16), _, _, [],
      _, rfl, rfl, rfl, rfl, ⟨by decide +kernel, rfl⟩, by decide +kernel⟩,
    ⟨{ demoThermal .service none with board := { vbat := true, alone := false }, sys := { (demo .service).sys with token := false } },
      _, 0, ask ([11, 0, 0, 0] ++ zeros 16), seen ([11, 0, 0, 0] ++ zeros 16), _, _, _, rfl, rfl, rfl, rfl,
      ⟨by decide +kernel, rfl⟩, by decide +kernel⟩,
    ⟨demo .service, _, 0, ask ([11, 0, 0, 0] ++ zeros 16), seen ([11, 0, 0, 0] ++ zeros 16), _, _, _, rfl, rfl,
      rfl, rfl, ⟨by decide +kernel, rfl⟩, by decide +kernel⟩⟩

/-- States and operands that meet the hypotheses of DatagramsAreAdmittedAndApplied, clause by clause. -/
theorem witness_DatagramsAreAdmittedAndApplied :
    (∃ (s u : State) (dt : Nat) (r : UppRecord) (d : Datagram) (off : Bool), u = s.elapse dt ∧ pd u 8 = true ∧
      uppBound u r.port = true ∧ r.ipv6 = true ∧ r.authentic = true ∧ u.pts.assocs.contains r.unit = true ∧
      collectorRuns u = true ∧ admission u r.unit r.bytes = .admitted d off) ∧
    (∃ (s u : State) (dt code : Nat) (r : UppRecord), u = s.elapse dt ∧ pd u 8 = true ∧ uppBound u r.port = true ∧
      r.ipv6 = true ∧ r.authentic = true ∧ u.pts.assocs.contains r.unit = true ∧ collectorRuns u = true ∧
      (admission u r.unit r.bytes = .refused code ∨ admission u r.unit r.bytes = .malformed code)) ∧
    (∃ (s u : State) (dt : Nat) (r : UppRecord), u = s.elapse dt ∧ pd u 8 = true ∧ uppBound u r.port = true ∧
      r.ipv6 = true ∧ r.authentic = true ∧ u.pts.assocs.contains r.unit = true ∧ collectorRuns u = false) ∧
    (∃ (s u : State) (dt : Nat) (r : UppRecord), u = s.elapse dt ∧ pd u 8 = true ∧ uppBound u r.port = true ∧
      (r.ipv6 = false ∨ r.authentic = false ∨ u.pts.assocs.contains r.unit = false)) ∧
    (∃ (s u : State) (dt : Nat) (r : UppRecord), u = s.elapse dt ∧ pd u 8 = true ∧ uppBound u r.port = false) ∧
    (∃ (s u : State) (dt : Nat), u = s.elapse dt ∧ pd u 8 = false) ∧
    (∃ (s u : State) (dt : Nat) (d : Datagram) (ds : List Datagram), u = s.elapse dt ∧ collectorRuns u = true ∧
      u.pts.paused = false ∧ u.pts.ingress = d :: ds) ∧
    (∃ (s u : State) (dt : Nat) (d : Datagram) (ds : List Datagram), u = s.elapse dt ∧ collectorRuns u = true ∧
      u.pts.paused = false ∧ u.pts.ingress = [] ∧ u.pts.spill = d :: ds) ∧
    (∃ (s u : State) (dt : Nat), u = s.elapse dt ∧
      (collectorRuns u = false ∨ u.pts.paused = true ∨ u.pts.ingress = [] ∧ u.pts.spill = [])) ∧
    (∃ (s u : State) (dt n : Nat), u = s.elapse dt ∧ collectorRuns u = true ∧ 1 ≤ n ∧ n ≤ 4095 ∧
      windowDue u n = true) ∧
    (∃ (s u : State) (dt n : Nat), u = s.elapse dt ∧ collectorRuns u = true ∧ 1 ≤ n ∧ n ≤ 4095 ∧
      windowDue u n = false ∧ u.tim.servo.valid = false ∧ (unitOf u n).refills < refillsDue u) ∧
    (∃ (s u : State) (dt n : Nat), u = s.elapse dt ∧ collectorRuns u = true ∧ 1 ≤ n ∧ n ≤ 4095 ∧
      windowDue u n = false ∧ (u.tim.servo.valid = true ∨ refillsDue u ≤ (unitOf u n).refills)) ∧
    (∃ (s u : State) (dt n : Nat), u = s.elapse dt ∧ (collectorRuns u = false ∨ n = 0 ∨ 4095 < n)) ∧
    (∃ (s u : State) (dt n x : Nat), u = s.elapse dt ∧ (unitOf u n).throttled = some x ∧
      passed u x (600 * tickS) = true) ∧
    (∃ (s u : State) (dt n x : Nat), u = s.elapse dt ∧
      ((unitOf u n).throttled = none ∨ (unitOf u n).throttled = some x ∧ passed u x (600 * tickS) = false)) ∧
    (∃ (s u : State) (dt n : Nat), u = s.elapse dt ∧ (unitOf u n).enable = true ∧ (unitOf u n).silent = false ∧
      windowMissed u (unitOf u n) = true ∧ u.pts.missLimit ≤ (unitOf u n).missed + 1) ∧
    (∃ (s u : State) (dt n : Nat), u = s.elapse dt ∧
      ((unitOf u n).enable = false ∨ (unitOf u n).silent = true ∨ windowMissed u (unitOf u n) = false ∨ (unitOf u n).missed + 1 < u.pts.missLimit)) ∧
    (∃ (s u : State) (dt : Nat) (h : UppHello), u = s.elapse dt ∧ pd u 8 = true ∧ u.pts.running = true ∧
      uppBound u h.port = true ∧ h.ipv6 = true ∧ h.finished = false ∧ h.cookie = false) ∧
    (∃ (s u : State) (dt : Nat) (h : UppHello), u = s.elapse dt ∧ pd u 8 = true ∧ u.pts.running = true ∧
      uppBound u h.port = true ∧ h.ipv6 = true ∧ h.finished = false ∧ h.cookie = true ∧
      u.pts.handshakes.contains h.client = false ∧ u.pts.handshakes.length < 64) ∧
    (∃ (s u : State) (dt : Nat) (h : UppHello), u = s.elapse dt ∧ pd u 8 = true ∧ u.pts.running = true ∧
      uppBound u h.port = true ∧ h.ipv6 = true ∧ h.finished = false ∧ h.cookie = true ∧
      (u.pts.handshakes.contains h.client = true ∨ 64 ≤ u.pts.handshakes.length)) ∧
    (∃ (s u : State) (dt v : Nat) (h : UppHello), u = s.elapse dt ∧ pd u 8 = true ∧ u.pts.running = true ∧
      uppBound u h.port = true ∧ h.ipv6 = true ∧ h.finished = true ∧ u.pts.handshakes.contains h.client = true ∧
      h.unit = some v ∧ uppKnown u h = true ∧ 1 ≤ v ∧ v ≤ 4095) ∧
    (∃ (s u : State) (dt v : Nat) (h : UppHello), u = s.elapse dt ∧ pd u 8 = true ∧ u.pts.running = true ∧
      uppBound u h.port = true ∧ h.ipv6 = true ∧ h.finished = true ∧ u.pts.handshakes.contains h.client = true ∧
      h.unit = some v ∧ (uppKnown u h = false ∨ v = 0 ∨ 4095 < v)) ∧
    (∃ (s u : State) (dt : Nat) (h : UppHello), u = s.elapse dt ∧ pd u 8 = true ∧ u.pts.running = true ∧
      uppBound u h.port = true ∧ h.ipv6 = true ∧ h.finished = true ∧ u.pts.handshakes.contains h.client = false) ∧
    (∃ (s u : State) (dt : Nat) (h : UppHello), u = s.elapse dt ∧ pd u 8 = true ∧ u.pts.running = true ∧
      uppBound u h.port = true ∧ h.ipv6 = false) ∧
    (∃ (s u : State) (dt : Nat) (h : UppHello), u = s.elapse dt ∧ pd u 8 = true ∧ u.pts.running = true ∧
      uppBound u h.port = false) ∧
    (∃ (s u : State) (dt : Nat), u = s.elapse dt ∧ (pd u 8 = false ∨ u.pts.running = false)) :=
  ⟨⟨demoUnit, _, 0, { ipv6 := true, port := 2, unit := 4095, authentic := true, bytes := reportBytes }, _, _, rfl,
    by decide +kernel, by decide +kernel, by decide +kernel, by decide +kernel, by decide +kernel,
    by decide +kernel, rfl⟩,
    ⟨demoUnit, _, 0, (match admission demoUnit 4095 [] with | .malformed c => c | .refused c => c | _ => 0),
      { ipv6 := true, port := 2, unit := 4095, authentic := true, bytes := [] }, rfl, by decide +kernel⟩,
    ⟨{ demoUnit with pts := { demoUnit.pts with running := false } }, _, 0,
      { ipv6 := true, port := 2, unit := 4095, authentic := true, bytes := reportBytes }, rfl, by decide +kernel⟩,
    ⟨demoUnit, _, 0, { ipv6 := true, port := 2, unit := 4095, authentic := false, bytes := reportBytes }, rfl,
      by decide +kernel⟩,
    ⟨demoUnit, _, 0, { ipv6 := true, port := 0, unit := 4095, authentic := true, bytes := reportBytes }, rfl,
      by decide +kernel⟩,
    ⟨{ demo .steer with pmu := { powered := 0 } }, _, 0, rfl, by decide +kernel⟩,
    ⟨{ demo .steer with pts := { running := true, ingress := [demoDatagram], points := [(0, demoPoint)] } }, _, 0,
      demoDatagram, [], rfl, by decide +kernel⟩,
    ⟨{ demo .steer with pts := { running := true, spill := [demoDatagram], spillActive := true, points := [(0, demoPoint)] } },
      _, 0, demoDatagram, [], rfl, by decide +kernel⟩,
    ⟨demo .steer, _, 0, rfl, by decide +kernel⟩,
    ⟨demoUnit, _, 0, 4095, rfl, by decide +kernel⟩,
    ⟨{ demo .steer with pts := { running := true, units := [(9, { window := some (99, 0) })] }, tim := { counter := 60 * tickS } },
      _, 0, 9, rfl, by decide +kernel⟩,
    ⟨{ demo .steer with pts := { running := true, units := [(9, { window := some (99, 0) })] } }, _, 0, 9, rfl,
      by decide +kernel⟩,
    ⟨demo .steer, _, 0, 0, rfl, by decide +kernel⟩,
    ⟨{ demo .steer with pts := { units := [(9, { throttled := some 0 })] }, tim := { counter := 600 * tickS } }, _,
      0, 9, 0, rfl, by decide +kernel⟩,
    ⟨demo .steer, _, 0, 9, 0, rfl, by decide +kernel⟩,
    ⟨{ demo .steer with pts := { running := true, units := [(9, { enable := true, missed := 2, window := some (0, 0) })] } },
      _, 0, 9, rfl, by decide +kernel⟩,
    ⟨demo .steer, _, 0, 9, rfl, by decide +kernel⟩,
    ⟨demo .steer, _, 0,
      { ipv6 := true, port := 2, client := 5, finished := false, cookie := false, unit := none, issuer := none },
      rfl, by decide +kernel⟩,
    ⟨demo .steer, _, 0,
      { ipv6 := true, port := 2, client := 5, finished := false, cookie := true, unit := none, issuer := none },
      rfl, by decide +kernel⟩,
    ⟨{ demo .steer with pts := { running := true, handshakes := List.replicate 64 1 } }, _, 0,
      { ipv6 := true, port := 2, client := 5, finished := false, cookie := true, unit := none, issuer := none },
      rfl, by decide +kernel⟩,
    ⟨{ demoUdp with pts := { running := true, handshakes := [5] }, key := { slots := [(1, { state := 1 })], roles := [(5, { role := 5, alg := 1, key := [1] })] } },
      _, 0, 4095,
      { ipv6 := true, port := 2, client := 5, finished := true, cookie := false, unit := some 4095, issuer := some 5 },
      rfl, by decide +kernel⟩,
    ⟨{ demoUdp with pts := { running := true, handshakes := [5] }, key := { slots := [(1, { state := 1 })], roles := [(5, { role := 5, alg := 1, key := [1] })] } },
      _, 0, 4096,
      { ipv6 := true, port := 2, client := 5, finished := true, cookie := false, unit := some 4096, issuer := none },
      rfl, by decide +kernel⟩,
    ⟨demo .steer, _, 0,
      { ipv6 := true, port := 2, client := 5, finished := true, cookie := false, unit := some 4095, issuer := some 5 },
      rfl, by decide +kernel⟩,
    ⟨demo .steer, _, 0,
      { ipv6 := false, port := 2, client := 5, finished := false, cookie := false, unit := none, issuer := none },
      rfl, by decide +kernel⟩,
    ⟨demo .steer, _, 0,
      { ipv6 := true, port := 0, client := 5, finished := false, cookie := false, unit := none, issuer := none },
      rfl, by decide +kernel⟩,
    ⟨{ demo .steer with pmu := { powered := 0 } }, _, 0, rfl, by decide +kernel⟩⟩

/-- States and operands that meet the hypotheses of PointsAreCommanded, clause by clause. -/
theorem witness_PointsAreCommanded :
    (∃ (s u : State) (dt n : Nat) (c : Cmd) (call : Call) (p : Bytes) (db : Table Point), u = s.elapse dt ∧
      p = call.payload ∧ Accepted rowPtsDeclare c u call ∧ n = u32 p 0 ∧ p.length = 4 + 16 * n ∧ 1 ≤ n ∧
      4 ≤ call.cap ∧ (rowsOf p 4 16 n).all declOk = true ∧ declareAll u.pts.points (rowsOf p 4 16 n) = some db) ∧
    (∃ (s u : State) (dt n : Nat) (c : Cmd) (call : Call) (p : Bytes), u = s.elapse dt ∧ p = call.payload ∧
      Accepted rowPtsDeclare c u call ∧ n = u32 p 0 ∧ p.length = 4 + 16 * n ∧ 1 ≤ n ∧ 4 ≤ call.cap ∧
      (rowsOf p 4 16 n).all declOk = true ∧ declareAll u.pts.points (rowsOf p 4 16 n) = none) ∧
    (∃ (s u : State) (dt n : Nat) (c : Cmd) (call : Call) (p : Bytes), u = s.elapse dt ∧ p = call.payload ∧
      Accepted rowPtsDeclare c u call ∧ n = u32 p 0 ∧ p.length = 4 + 16 * n ∧ 1 ≤ n ∧ 4 ≤ call.cap ∧
      (rowsOf p 4 16 n).all declOk = false) ∧
    (∃ (s u : State) (dt n : Nat) (c : Cmd) (call : Call) (p : Bytes), u = s.elapse dt ∧ p = call.payload ∧
      Accepted rowPtsDeclare c u call ∧ n = u32 p 0 ∧ p.length = 4 + 16 * n ∧ n = 0) ∧
    (∃ (s u : State) (dt n : Nat) (c : Cmd) (call : Call) (p : Bytes), u = s.elapse dt ∧ p = call.payload ∧
      Accepted rowPtsRead c u call ∧ n = u32 p 0 ∧ p.length = 4 + 4 * n ∧ 1 ≤ n ∧ 8 + 64 * n ≤ call.cap ∧
      (∀ b ∈ rowsOf p 4 4 n, u32 b 0 < 2 ^ 28)) ∧
    (∃ (s u : State) (dt n : Nat) (c : Cmd) (call : Call) (p : Bytes), u = s.elapse dt ∧ p = call.payload ∧
      Accepted rowPtsRead c u call ∧ n = u32 p 0 ∧ p.length = 4 + 4 * n ∧ 1 ≤ n ∧ 8 + 64 * n ≤ call.cap ∧
      (∃ b ∈ rowsOf p 4 4 n, 2 ^ 28 ≤ u32 b 0)) ∧
    (∃ (s u : State) (dt n : Nat) (c : Cmd) (call : Call) (p : Bytes), u = s.elapse dt ∧ p = call.payload ∧
      Accepted rowPtsRead c u call ∧ n = u32 p 0 ∧ p.length = 4 + 4 * n ∧ n = 0) ∧
    (∃ (s u : State) (dt n : Nat) (c : Cmd) (call : Call) (p : Bytes), u = s.elapse dt ∧ p = call.payload ∧
      Accepted rowPtsWrite c u call ∧ n = u32 p 0 ∧ p.length = 4 + 16 * n ∧ 1 ≤ n ∧
      (rowsOf p 4 16 n).all (writeOk u) = true) ∧
    (∃ (s u : State) (dt n : Nat) (c : Cmd) (call : Call) (p : Bytes), u = s.elapse dt ∧ p = call.payload ∧
      Accepted rowPtsWrite c u call ∧ n = u32 p 0 ∧ p.length = 4 + 16 * n ∧ 1 ≤ n ∧
      (rowsOf p 4 16 n).all (writeOk u) = false) ∧
    (∃ (s u : State) (dt n : Nat) (c : Cmd) (call : Call) (p : Bytes), u = s.elapse dt ∧ p = call.payload ∧
      Accepted rowPtsWrite c u call ∧ n = u32 p 0 ∧ p.length = 4 + 16 * n ∧ n = 0) ∧
    (∃ (s u : State) (dt n : Nat) (c : Cmd) (call : Call) (p : Bytes), u = s.elapse dt ∧ p = call.payload ∧
      Accepted rowPtsSnapshot c u call ∧ p.length = 8 ∧ n = u32 p 4 ∧ call.dmaOut = true ∧ 1 ≤ n ∧
      u32 p 0 + n ≤ pointLimit ∧ 64 * n ≤ call.cap) ∧
    (∃ (s u : State) (dt n : Nat) (c : Cmd) (call : Call) (p : Bytes), u = s.elapse dt ∧ p = call.payload ∧
      Accepted rowPtsSnapshot c u call ∧ p.length = 8 ∧ n = u32 p 4 ∧ call.dmaOut = true ∧
      (n = 0 ∨ pointLimit < u32 p 0 + n)) ∧
    (∃ (s u : State) (dt n : Nat) (c : Cmd) (call : Call) (p : Bytes), u = s.elapse dt ∧ p = call.payload ∧
      Accepted rowPtsSnapshot c u call ∧ p.length = 8 ∧ n = u32 p 4 ∧ call.dmaOut = false) ∧
    (∃ (s u : State) (dt : Nat) (c : Cmd) (call : Call) (p : Bytes), u = s.elapse dt ∧ p = call.payload ∧
      Accepted rowPtsUnitSet c u call ∧ p.length = 8 ∧ 1 ≤ u16 p 0 ∧ u16 p 0 ≤ 4095 ∧ u32 p 4 < 8) ∧
    (∃ (s u : State) (dt : Nat) (c : Cmd) (call : Call) (p : Bytes), u = s.elapse dt ∧ p = call.payload ∧
      Accepted rowPtsUnitSet c u call ∧ p.length = 8 ∧ (u16 p 0 = 0 ∨ 4095 < u16 p 0 ∨ 8 ≤ u32 p 4)) ∧
    (∃ (s u : State) (dt : Nat) (c : Cmd) (call : Call) (p : Bytes), u = s.elapse dt ∧ p = call.payload ∧
      Accepted rowPtsUnitStatus c u call ∧ p.length = 4 ∧ 64 ≤ call.cap ∧ 1 ≤ u16 p 0 ∧ u16 p 0 ≤ 4095 ∧
      u16 p 2 = 0) ∧
    (∃ (s u : State) (dt : Nat) (c : Cmd) (call : Call) (p : Bytes), u = s.elapse dt ∧ p = call.payload ∧
      Accepted rowPtsUnitStatus c u call ∧ p.length = 4 ∧ 64 ≤ call.cap ∧
      (u16 p 0 = 0 ∨ 4095 < u16 p 0 ∨ u16 p 2 ≠ 0)) :=
  ⟨⟨demo .hold, _, 0, _, ask (le32 1 ++ le32 0x20002 ++ [2, 0, 0, 0] ++ le32 100 ++ zeros 4),
    seen (le32 1 ++ le32 0x20002 ++ [2, 0, 0, 0] ++ le32 100 ++ zeros 4), _, _, rfl, rfl, ⟨by decide +kernel, rfl⟩,
    rfl, by decide +kernel, by decide +kernel, by decide +kernel, by decide +kernel, rfl⟩,
    ⟨demoFull .hold, _, 0, _, ask (le32 1 ++ le32 0x20002 ++ [2, 0, 0, 0] ++ le32 100 ++ zeros 4),
      seen (le32 1 ++ le32 0x20002 ++ [2, 0, 0, 0] ++ le32 100 ++ zeros 4), _, rfl, rfl, ⟨by decide +kernel, rfl⟩,
      rfl, by decide +kernel, by decide +kernel, by decide +kernel, by decide +kernel,
      (demoFull_declare .hold _ (by decide +kernel))⟩,
    ⟨demo .hold, _, 0, _, ask (le32 1 ++ le32 0x1 ++ [2, 1, 0, 0] ++ le32 100 ++ zeros 4),
      seen (le32 1 ++ le32 0x1 ++ [2, 1, 0, 0] ++ le32 100 ++ zeros 4), _, rfl, rfl, ⟨by decide +kernel, rfl⟩, rfl,
      by decide +kernel⟩,
    ⟨demo .hold, _, 0, _, ask (le32 0), seen (le32 0), _, rfl, rfl, ⟨by decide +kernel, rfl⟩, rfl,
      by decide +kernel, rfl⟩,
    ⟨demo .hold, _, 0, _, ask (le32 1 ++ le32 0x0FFFFFFF), seen (le32 1 ++ le32 0x0FFFFFFF), _, rfl, rfl,
      ⟨by decide +kernel, rfl⟩, rfl, by decide +kernel⟩,
    ⟨demo .hold, _, 0, _, ask (le32 1 ++ le32 0x10000000), seen (le32 1 ++ le32 0x10000000), _, rfl, rfl,
      ⟨by decide +kernel, rfl⟩, rfl, by decide +kernel⟩,
    ⟨demo .hold, _, 0, _, ask (le32 0), seen (le32 0), _, rfl, rfl, ⟨by decide +kernel, rfl⟩, rfl,
      by decide +kernel, rfl⟩,
    ⟨{ demo .hold with pts := { points := [(0, demoPoint)] } }, _, 0, _,
      ask (le32 1 ++ le32 0x20001 ++ le32 0x10B ++ zeros 8),
      seen (le32 1 ++ le32 0x20001 ++ le32 0x10B ++ zeros 8), _, rfl, rfl, ⟨by decide +kernel, rfl⟩, rfl,
      by decide +kernel⟩,
    ⟨demo .hold, _, 0, _, ask (le32 1 ++ le32 0x20001 ++ le32 0x10B ++ zeros 8),
      seen (le32 1 ++ le32 0x20001 ++ le32 0x10B ++ zeros 8), _, rfl, rfl, ⟨by decide +kernel, rfl⟩, rfl,
      by decide +kernel⟩,
    ⟨demo .hold, _, 0, _, ask (le32 0), seen (le32 0), _, rfl, rfl, ⟨by decide +kernel, rfl⟩, rfl,
      by decide +kernel, rfl⟩,
    ⟨{ demo .hold with vcp := demoRing.vcp }, _, 0, _, snapshotAsk, snapshotSeen, _, rfl, rfl, ⟨by decide +kernel,
      rfl⟩, by decide +kernel, rfl, by decide +kernel⟩,
    ⟨{ demo .hold with vcp := demoRing.vcp }, _, 0, _,
      { snapshotAsk with payload := le32 0x2000000 ++ le32 1 ++ snapshotAsk.payload.drop 8 },
      { snapshotSeen with payload := le32 0x2000000 ++ le32 1 }, _, rfl, rfl, ⟨by decide +kernel, rfl⟩,
      by decide +kernel, rfl, by decide +kernel⟩,
    ⟨demo .hold, _, 0, _, ask (zeros 8), seen (zeros 8), _, rfl, rfl, ⟨by decide +kernel, rfl⟩, by decide +kernel,
      rfl, by decide +kernel⟩,
    ⟨demo .hold, _, 0, ask (le16 4095 ++ le16 9 ++ le32 7), seen (le16 4095 ++ le16 9 ++ le32 7), _, rfl, rfl,
      ⟨by decide +kernel, rfl⟩, by decide +kernel⟩,
    ⟨demo .hold, _, 0, ask (le16 4096 ++ le16 9 ++ le32 7), seen (le16 4096 ++ le16 9 ++ le32 7), _, rfl, rfl,
      ⟨by decide +kernel, rfl⟩, by decide +kernel⟩,
    ⟨demo .hold, _, 0, ask (le16 4095 ++ le16 0), seen (le16 4095 ++ le16 0), _, rfl, rfl, ⟨by decide +kernel,
      rfl⟩, by decide +kernel⟩,
    ⟨demo .hold, _, 0, ask (le16 4096 ++ le16 0), seen (le16 4096 ++ le16 0), _, rfl, rfl, ⟨by decide +kernel,
      rfl⟩, by decide +kernel⟩⟩

/-- States and operands that meet the hypotheses of CoursesAreLoadedAndDeltasApplied, clause by clause. -/
theorem witness_CoursesAreLoadedAndDeltasApplied :
    (∃ (s u : State) (dt q own : Nat) (c : Cmd) (call : Call) (p : Bytes), u = s.elapse dt ∧ p = call.payload ∧
      q = u8 p 0 ∧ own = ((ownLoad u q call.sid).map (·.bytes)).getD 0 ∧ Accepted rowCrsBegin c u call ∧
      p.length = 24 ∧ q ≤ 1 ∧ slice p 1 3 = zeros 3 ∧ 1 ≤ u32 p 4 ∧ u32 p 4 % 1048576 = 0 ∧ u32 p 4 ≤ 2147483648 ∧
      loadElsewhere u q call.sid = none ∧ areaUsed u - own + u32 p 4 ≤ areaBytes) ∧
    (∃ (s u : State) (dt q own : Nat) (c : Cmd) (call : Call) (p : Bytes), u = s.elapse dt ∧ p = call.payload ∧
      q = u8 p 0 ∧ own = ((ownLoad u q call.sid).map (·.bytes)).getD 0 ∧ Accepted rowCrsBegin c u call ∧
      p.length = 24 ∧ q ≤ 1 ∧ slice p 1 3 = zeros 3 ∧ 1 ≤ u32 p 4 ∧ u32 p 4 % 1048576 = 0 ∧ u32 p 4 ≤ 2147483648 ∧
      loadElsewhere u q call.sid = none ∧ areaBytes < areaUsed u - own + u32 p 4) ∧
    (∃ (s u : State) (dt q own : Nat) (c : Cmd) (call : Call) (p : Bytes) (h : Word), u = s.elapse dt ∧
      p = call.payload ∧ q = u8 p 0 ∧ own = ((ownLoad u q call.sid).map (·.bytes)).getD 0 ∧
      Accepted rowCrsBegin c u call ∧ p.length = 24 ∧ q ≤ 1 ∧ slice p 1 3 = zeros 3 ∧ 1 ≤ u32 p 4 ∧
      u32 p 4 % 1048576 = 0 ∧ u32 p 4 ≤ 2147483648 ∧ loadElsewhere u q call.sid = some h) ∧
    (∃ (s u : State) (dt q own : Nat) (c : Cmd) (call : Call) (p : Bytes), u = s.elapse dt ∧ p = call.payload ∧
      q = u8 p 0 ∧ own = ((ownLoad u q call.sid).map (·.bytes)).getD 0 ∧ Accepted rowCrsBegin c u call ∧
      p.length = 24 ∧ (1 < q ∨ slice p 1 3 ≠ zeros 3 ∨ u32 p 4 = 0 ∨ u32 p 4 % 1048576 ≠ 0 ∨ 2147483648 < u32 p 4)) ∧
    (∃ (s u : State) (dt n q own : Nat) (c : Cmd) (call : Call) (p : Bytes) (l : CourseLoad), u = s.elapse dt ∧
      p = call.payload ∧ q = u8 p 0 ∧ own = ((ownLoad u q call.sid).map (·.bytes)).getD 0 ∧
      Accepted rowCrsData c u call ∧ 4 < p.length ∧ (p.length - 4) % 64 = 0 ∧ loadPartition u call.sid = some n ∧
      (coursesOf u n).load = some l ∧ u32 p 0 % 64 = 0 ∧ u32 p 0 + (p.length - 4) ≤ l.bytes) ∧
    (∃ (s u : State) (dt n q own : Nat) (c : Cmd) (call : Call) (p : Bytes) (l : CourseLoad), u = s.elapse dt ∧
      p = call.payload ∧ q = u8 p 0 ∧ own = ((ownLoad u q call.sid).map (·.bytes)).getD 0 ∧
      Accepted rowCrsData c u call ∧ 4 < p.length ∧ (p.length - 4) % 64 = 0 ∧ loadPartition u call.sid = some n ∧
      (coursesOf u n).load = some l ∧ (u32 p 0 % 64 ≠ 0 ∨ l.bytes < u32 p 0 + (p.length - 4))) ∧
    (∃ (s u : State) (dt q own : Nat) (c : Cmd) (call : Call) (p : Bytes), u = s.elapse dt ∧ p = call.payload ∧
      q = u8 p 0 ∧ own = ((ownLoad u q call.sid).map (·.bytes)).getD 0 ∧ Accepted rowCrsData c u call ∧
      4 < p.length ∧ (p.length - 4) % 64 = 0 ∧ loadPartition u call.sid = none) ∧
    (∃ (s u : State) (dt q own : Nat) (c : Cmd) (call : Call) (p : Bytes), u = s.elapse dt ∧ p = call.payload ∧
      q = u8 p 0 ∧ own = ((ownLoad u q call.sid).map (·.bytes)).getD 0 ∧ Accepted rowCrsData c u call ∧
      (p.length ≤ 4 ∨ (p.length - 4) % 64 ≠ 0)) ∧
    (∃ (s u : State) (dt q own : Nat) (c : Cmd) (call : Call) (p : Bytes) (l : CourseLoad), u = s.elapse dt ∧
      p = call.payload ∧ q = u8 p 0 ∧ own = ((ownLoad u q call.sid).map (·.bytes)).getD 0 ∧
      Accepted rowCrsCommit c u call ∧ p.length = 4 ∧ q ≤ 1 ∧ slice p 1 3 = zeros 3 ∧
      loadElsewhere u q call.sid = none ∧ ownLoad u q call.sid = some l ∧ commitCheck u q l = none ∧ 4 ≤ call.cap) ∧
    (∃ (s u : State) (dt q own : Nat) (c : Cmd) (call : Call) (p : Bytes) (l : CourseLoad) (st : _),
      u = s.elapse dt ∧ p = call.payload ∧ q = u8 p 0 ∧ own = ((ownLoad u q call.sid).map (·.bytes)).getD 0 ∧
      Accepted rowCrsCommit c u call ∧ p.length = 4 ∧ q ≤ 1 ∧ slice p 1 3 = zeros 3 ∧
      loadElsewhere u q call.sid = none ∧ ownLoad u q call.sid = some l ∧ commitCheck u q l = some st) ∧
    (∃ (s u : State) (dt q own : Nat) (c : Cmd) (call : Call) (p : Bytes), u = s.elapse dt ∧ p = call.payload ∧
      q = u8 p 0 ∧ own = ((ownLoad u q call.sid).map (·.bytes)).getD 0 ∧ Accepted rowCrsCommit c u call ∧
      p.length = 4 ∧ q ≤ 1 ∧ slice p 1 3 = zeros 3 ∧ loadElsewhere u q call.sid = none ∧
      ownLoad u q call.sid = none) ∧
    (∃ (s u : State) (dt q own : Nat) (c : Cmd) (call : Call) (p : Bytes) (h : Word), u = s.elapse dt ∧
      p = call.payload ∧ q = u8 p 0 ∧ own = ((ownLoad u q call.sid).map (·.bytes)).getD 0 ∧
      Accepted rowCrsCommit c u call ∧ p.length = 4 ∧ q ≤ 1 ∧ slice p 1 3 = zeros 3 ∧
      loadElsewhere u q call.sid = some h) ∧
    (∃ (s u : State) (dt q own : Nat) (c : Cmd) (call : Call) (p : Bytes), u = s.elapse dt ∧ p = call.payload ∧
      q = u8 p 0 ∧ own = ((ownLoad u q call.sid).map (·.bytes)).getD 0 ∧ Accepted rowCrsCommit c u call ∧
      p.length = 4 ∧ (1 < q ∨ slice p 1 3 ≠ zeros 3)) ∧
    (∃ (s u : State) (dt q own : Nat) (c : Cmd) (call : Call) (p : Bytes), u = s.elapse dt ∧ p = call.payload ∧
      q = u8 p 0 ∧ own = ((ownLoad u q call.sid).map (·.bytes)).getD 0 ∧ Accepted rowCrsDrop c u call ∧
      p.length = 4 ∧ q ≤ 1 ∧ slice p 1 3 = zeros 3 ∧ loadElsewhere u q call.sid = none) ∧
    (∃ (s u : State) (dt q own : Nat) (c : Cmd) (call : Call) (p : Bytes) (h : Word), u = s.elapse dt ∧
      p = call.payload ∧ q = u8 p 0 ∧ own = ((ownLoad u q call.sid).map (·.bytes)).getD 0 ∧
      Accepted rowCrsDrop c u call ∧ p.length = 4 ∧ q ≤ 1 ∧ slice p 1 3 = zeros 3 ∧
      loadElsewhere u q call.sid = some h) ∧
    (∃ (s u : State) (dt q own : Nat) (c : Cmd) (call : Call) (p : Bytes), u = s.elapse dt ∧ p = call.payload ∧
      q = u8 p 0 ∧ own = ((ownLoad u q call.sid).map (·.bytes)).getD 0 ∧ Accepted rowCrsDrop c u call ∧
      p.length = 4 ∧ (1 < q ∨ slice p 1 3 ≠ zeros 3)) ∧
    (∃ (s u : State) (dt q own : Nat) (c : Cmd) (call : Call) (p : Bytes), u = s.elapse dt ∧ p = call.payload ∧
      q = u8 p 0 ∧ own = ((ownLoad u q call.sid).map (·.bytes)).getD 0 ∧ Accepted rowCrsInfo c u call ∧
      p.length = 4 ∧ 176 ≤ call.cap ∧ q ≤ 1 ∧ slice p 1 3 = zeros 3) ∧
    (∃ (s u : State) (dt q own : Nat) (c : Cmd) (call : Call) (p : Bytes), u = s.elapse dt ∧ p = call.payload ∧
      q = u8 p 0 ∧ own = ((ownLoad u q call.sid).map (·.bytes)).getD 0 ∧ Accepted rowCrsInfo c u call ∧
      p.length = 4 ∧ 176 ≤ call.cap ∧ (1 < q ∨ slice p 1 3 ≠ zeros 3)) ∧
    (∃ (s u : State) (dt n q own : Nat) (call : Call) (p : Bytes) (x : Course), u = s.elapse dt ∧
      p = call.payload ∧ q = u8 p 0 ∧ own = ((ownLoad u q call.sid).map (·.bytes)).getD 0 ∧ swapDue u n = true ∧
      (coursesOf u n).coming = some x) ∧
    (∃ (s u : State) (dt n q own : Nat) (call : Call) (p : Bytes), u = s.elapse dt ∧ p = call.payload ∧
      q = u8 p 0 ∧ own = ((ownLoad u q call.sid).map (·.bytes)).getD 0 ∧ swapDue u n = false) ∧
    (∃ (s u : State) (dt q k : Nat) (c : Cmd) (call : Call) (p : Bytes) (r : Course), u = s.elapse dt ∧
      p = call.payload ∧ q = u8 p 0 ∧ k = u32 p 20 ∧ Accepted rowCrsDelta c u call ∧ 24 ≤ p.length ∧
      (p.length - 24) % 16 = 0 ∧ 1 ≤ k ∧ p.length = 24 + 16 * k ∧ q ≤ 1 ∧ u8 p 1 ≤ 5 ∧ u16 p 2 = 0 ∧
      residentCourse u q = some r ∧ slice p 4 16 = hSignature r.image ∧ k ≤ matrixEntries r.image (u8 p 1) ∧
      (rowsOf p 24 16 k).all (deltaOk r.image (u8 p 1)) = true) ∧
    (∃ (s u : State) (dt q k : Nat) (c : Cmd) (call : Call) (p : Bytes) (r : Course), u = s.elapse dt ∧
      p = call.payload ∧ q = u8 p 0 ∧ k = u32 p 20 ∧ Accepted rowCrsDelta c u call ∧ 24 ≤ p.length ∧
      (p.length - 24) % 16 = 0 ∧ 1 ≤ k ∧ p.length = 24 + 16 * k ∧ q ≤ 1 ∧ u8 p 1 ≤ 5 ∧ u16 p 2 = 0 ∧
      residentCourse u q = some r ∧ slice p 4 16 = hSignature r.image ∧ k ≤ matrixEntries r.image (u8 p 1) ∧
      (rowsOf p 24 16 k).all (deltaOk r.image (u8 p 1)) = false) ∧
    (∃ (s u : State) (dt q k : Nat) (c : Cmd) (call : Call) (p : Bytes) (r : Course), u = s.elapse dt ∧
      p = call.payload ∧ q = u8 p 0 ∧ k = u32 p 20 ∧ Accepted rowCrsDelta c u call ∧ 24 ≤ p.length ∧
      (p.length - 24) % 16 = 0 ∧ 1 ≤ k ∧ p.length = 24 + 16 * k ∧ q ≤ 1 ∧ u8 p 1 ≤ 5 ∧ u16 p 2 = 0 ∧
      residentCourse u q = some r ∧ slice p 4 16 = hSignature r.image ∧ matrixEntries r.image (u8 p 1) < k) ∧
    (∃ (s u : State) (dt q k : Nat) (c : Cmd) (call : Call) (p : Bytes) (r : Course), u = s.elapse dt ∧
      p = call.payload ∧ q = u8 p 0 ∧ k = u32 p 20 ∧ Accepted rowCrsDelta c u call ∧ 24 ≤ p.length ∧
      (p.length - 24) % 16 = 0 ∧ 1 ≤ k ∧ p.length = 24 + 16 * k ∧ q ≤ 1 ∧ u8 p 1 ≤ 5 ∧ u16 p 2 = 0 ∧
      residentCourse u q = some r ∧ slice p 4 16 ≠ hSignature r.image) ∧
    (∃ (s u : State) (dt q k : Nat) (c : Cmd) (call : Call) (p : Bytes), u = s.elapse dt ∧ p = call.payload ∧
      q = u8 p 0 ∧ k = u32 p 20 ∧ Accepted rowCrsDelta c u call ∧ 24 ≤ p.length ∧ (p.length - 24) % 16 = 0 ∧
      1 ≤ k ∧ p.length = 24 + 16 * k ∧ q ≤ 1 ∧ u8 p 1 ≤ 5 ∧ u16 p 2 = 0 ∧ residentCourse u q = none) ∧
    (∃ (s u : State) (dt q k : Nat) (c : Cmd) (call : Call) (p : Bytes), u = s.elapse dt ∧ p = call.payload ∧
      q = u8 p 0 ∧ k = u32 p 20 ∧ Accepted rowCrsDelta c u call ∧ 24 ≤ p.length ∧ (p.length - 24) % 16 = 0 ∧
      1 ≤ k ∧ p.length = 24 + 16 * k ∧ (1 < q ∨ 5 < u8 p 1 ∨ u16 p 2 ≠ 0)) ∧
    (∃ (s u : State) (dt q k : Nat) (c : Cmd) (call : Call) (p : Bytes), u = s.elapse dt ∧ p = call.payload ∧
      q = u8 p 0 ∧ k = u32 p 20 ∧ Accepted rowCrsDelta c u call ∧ 24 ≤ p.length ∧ (p.length - 24) % 16 = 0 ∧
      (k = 0 ∨ k ≠ (p.length - 24) / 16)) ∧
    (∃ (s u : State) (dt q k : Nat) (c : Cmd) (call : Call) (p : Bytes), u = s.elapse dt ∧ p = call.payload ∧
      q = u8 p 0 ∧ k = u32 p 20 ∧ Accepted rowPartSet c u call ∧ p.length = 4 ∧ q ≤ 64 ∧ slice p 1 3 = zeros 3 ∧
      reachesClash u q 0 = false ∧ reachesClash u q 1 = false) ∧
    (∃ (s u : State) (dt q k : Nat) (c : Cmd) (call : Call) (p : Bytes), u = s.elapse dt ∧ p = call.payload ∧
      q = u8 p 0 ∧ k = u32 p 20 ∧ Accepted rowPartSet c u call ∧ p.length = 4 ∧
      (64 < q ∨ slice p 1 3 ≠ zeros 3 ∨ reachesClash u q 0 = true ∨ reachesClash u q 1 = true)) ∧
    (∃ (s u : State) (dt q k i : Nat) (call : Call) (p : Bytes) (r : Course) (f : Forecast), u = s.elapse dt ∧
      p = call.payload ∧ q = u8 p 0 ∧ k = u32 p 20 ∧ u.sys.mode = .island ∧ u.pln.frozen = true ∧
      u.pln.ring[i]? = some f ∧ replayAt f ≤ servoNs u ∧ (∀ j g,
      u.pln.ring[j]? = some g → replayAt g ≤ servoNs u → replayAt f < replayAt g ∨ replayAt f = replayAt g ∧
      i ≤ j) ∧ u8 f.payload 0 = 1 ∧ residentCourse u 1 = some r ∧ slice f.payload 4 16 = hSignature r.image) ∧
    (∃ (s u : State) (dt q k i : Nat) (call : Call) (p : Bytes) (r : Course) (f : Forecast), u = s.elapse dt ∧
      p = call.payload ∧ q = u8 p 0 ∧ k = u32 p 20 ∧ u.sys.mode = .island ∧ u.pln.frozen = true ∧
      u.pln.ring[i]? = some f ∧ replayAt f ≤ servoNs u ∧ (∀ j g,
      u.pln.ring[j]? = some g → replayAt g ≤ servoNs u → replayAt f < replayAt g ∨ replayAt f = replayAt g ∧
      i ≤ j) ∧ (residentCourse u 1 = none ∨ residentCourse u 1 = some r ∧
      slice f.payload 4 16 ≠ hSignature r.image)) ∧
    (∃ (s u : State) (dt q k : Nat) (call : Call) (p : Bytes), u = s.elapse dt ∧ p = call.payload ∧ q = u8 p 0 ∧
      k = u32 p 20 ∧ (u.sys.mode ≠ .island ∨ u.pln.frozen = false ∨ ∀ g ∈ u.pln.ring, servoNs u < replayAt g)) :=
  ⟨⟨demo .hold, _, 0, _, _, ask ([1, 0, 0, 0] ++ le32 1048576 ++ zeros 16),
    seen ([1, 0, 0, 0] ++ le32 1048576 ++ zeros 16), _, rfl, rfl, rfl, rfl, ⟨by decide +kernel, rfl⟩,
    by decide +kernel⟩,
    ⟨{ demo .hold with courses := [(0, { resident := some ⟨8589934592, []⟩ })] }, _, 0, _, _,
      ask ([1, 0, 0, 0] ++ le32 1048576 ++ zeros 16), seen ([1, 0, 0, 0] ++ le32 1048576 ++ zeros 16), _, rfl, rfl,
      rfl, rfl, ⟨by decide +kernel, rfl⟩, by decide +kernel⟩,
    ⟨{ demo .hold with courses := [(1, { load := some { demoLoad with sid := 9 } })] }, _, 0, _, _,
      ask ([1, 0, 0, 0] ++ le32 1048576 ++ zeros 16), seen ([1, 0, 0, 0] ++ le32 1048576 ++ zeros 16), _, 9, rfl,
      rfl, rfl, rfl, ⟨by decide +kernel, rfl⟩, by decide +kernel⟩,
    ⟨demo .hold, _, 0, _, _, ask ([2, 0, 0, 0] ++ le32 1048576 ++ zeros 16),
      seen ([2, 0, 0, 0] ++ le32 1048576 ++ zeros 16), _, rfl, rfl, rfl, rfl, ⟨by decide +kernel, rfl⟩,
      by decide +kernel⟩,
    ⟨{ demo .hold with courses := [(1, { load := some demoLoad })] }, _, 0, 1, _, _, ask (zeros 68),
      seen (zeros 68), _, demoLoad, rfl, rfl, rfl, rfl, ⟨by decide +kernel, rfl⟩, by decide +kernel⟩,
    ⟨{ demo .hold with courses := [(1, { load := some demoLoad })] }, _, 0, 1, _, _, ask (le32 32 ++ zeros 64),
      seen (le32 32 ++ zeros 64), _, demoLoad, rfl, rfl, rfl, rfl, ⟨by decide +kernel, rfl⟩, by decide +kernel⟩,
    ⟨demo .hold, _, 0, _, _, ask (zeros 68), seen (zeros 68), _, rfl, rfl, rfl, rfl, ⟨by decide +kernel, rfl⟩,
      by decide +kernel⟩,
    ⟨demo .hold, _, 0, _, _, ask (zeros 67), seen (zeros 67), _, rfl, rfl, rfl, rfl, ⟨by decide +kernel, rfl⟩,
      by decide +kernel⟩,
    ⟨demoLoaded, _, 0, _, _, ask [0, 0, 0, 0], seen [0, 0, 0, 0], _, demoValid, rfl, rfl, rfl, rfl,
      ⟨by decide +kernel, rfl⟩, by decide +kernel, by decide +kernel, by decide +kernel, by decide +kernel, rfl,
      demoValid_ok, by decide +kernel⟩,
    ⟨{ demo .hold with courses := [(1, { load := some demoLoad })] }, _, 0, _, _, ask [1, 0, 0, 0],
      seen [1, 0, 0, 0], _, demoLoad, stIncomplete, rfl, rfl, rfl, rfl, ⟨by decide +kernel, rfl⟩,
      by decide +kernel⟩,
    ⟨demo .hold, _, 0, _, _, ask [1, 0, 0, 0], seen [1, 0, 0, 0], _, rfl, rfl, rfl, rfl, ⟨by decide +kernel, rfl⟩,
      by decide +kernel⟩,
    ⟨{ demo .hold with courses := [(1, { load := some { demoLoad with sid := 9 } })] }, _, 0, _, _,
      ask [1, 0, 0, 0], seen [1, 0, 0, 0], _, 9, rfl, rfl, rfl, rfl, ⟨by decide +kernel, rfl⟩, by decide +kernel⟩,
    ⟨demo .hold, _, 0, _, _, ask [2, 0, 0, 0], seen [2, 0, 0, 0], _, rfl, rfl, rfl, rfl, ⟨by decide +kernel, rfl⟩,
      by decide +kernel⟩,
    ⟨{ demo .service with courses := [(1, { load := some demoLoad })] }, _, 0, _, _, ask [1, 0, 0, 0],
      seen [1, 0, 0, 0], _, rfl, rfl, rfl, rfl, ⟨by decide +kernel, rfl⟩, by decide +kernel⟩,
    ⟨{ demo .service with courses := [(1, { load := some { demoLoad with sid := 9 } })] }, _, 0, _, _,
      ask [1, 0, 0, 0], seen [1, 0, 0, 0], _, 9, rfl, rfl, rfl, rfl, ⟨by decide +kernel, rfl⟩, by decide +kernel⟩,
    ⟨demo .service, _, 0, _, _, ask [2, 0, 0, 0], seen [2, 0, 0, 0], _, rfl, rfl, rfl, rfl, ⟨by decide +kernel,
      rfl⟩, by decide +kernel⟩,
    ⟨{ demo .hold with courses := [(1, { load := some demoLoad })] }, _, 0, _, _, ask [1, 0, 0, 0],
      seen [1, 0, 0, 0], _, rfl, rfl, rfl, rfl, ⟨by decide +kernel, rfl⟩, by decide +kernel⟩,
    ⟨demo .hold, _, 0, _, _, ask [2, 0, 0, 0], seen [2, 0, 0, 0], _, rfl, rfl, rfl, rfl, ⟨by decide +kernel, rfl⟩,
      by decide +kernel⟩,
    ⟨{ demo .hold with courses := [(1, { coming := some ⟨0, []⟩ })] }, _, 0, 1, _, _, seen [], [], ⟨0, []⟩, rfl,
      rfl, rfl, rfl, by decide +kernel⟩,
    ⟨demo .hold, _, 0, 1, _, _, seen [], [], rfl, rfl, rfl, rfl, by decide +kernel⟩,
    ⟨{ demo .hold with courses := [(1, { resident := some ⟨0, [(28, 1)]⟩ })] }, _, 0, _, _,
      ask ([1, 1, 0, 0] ++ zeros 16 ++ le32 1 ++ zeros 16), seen ([1, 1, 0, 0] ++ zeros 16 ++ le32 1 ++ zeros 16),
      _, ⟨0, [(28, 1)]⟩, rfl, rfl, rfl, rfl, ⟨by decide +kernel, rfl⟩, by decide +kernel⟩,
    ⟨{ demo .hold with courses := [(1, { resident := some ⟨0, [(28, 1)]⟩ })] }, _, 0, _, _,
      ask ([1, 1, 0, 0] ++ zeros 16 ++ le32 1 ++ le32 1 ++ zeros 12),
      seen ([1, 1, 0, 0] ++ zeros 16 ++ le32 1 ++ le32 1 ++ zeros 12), _, ⟨0, [(28, 1)]⟩, rfl, rfl, rfl, rfl,
      ⟨by decide +kernel, rfl⟩, by decide +kernel⟩,
    ⟨{ demo .hold with courses := [(1, { resident := some ⟨0, [(28, 1)]⟩ })] }, _, 0, _, _,
      ask ([1, 1, 0, 0] ++ zeros 16 ++ le32 2 ++ zeros 32), seen ([1, 1, 0, 0] ++ zeros 16 ++ le32 2 ++ zeros 32),
      _, ⟨0, [(28, 1)]⟩, rfl, rfl, rfl, rfl, ⟨by decide +kernel, rfl⟩, by decide +kernel⟩,
    ⟨{ demo .hold with courses := [(1, { resident := some ⟨0, [(28, 1)]⟩ })] }, _, 0, _, _,
      ask ([1, 1, 0, 0] ++ [1] ++ zeros 15 ++ le32 1 ++ zeros 16),
      seen ([1, 1, 0, 0] ++ [1] ++ zeros 15 ++ le32 1 ++ zeros 16), _, ⟨0, [(28, 1)]⟩, rfl, rfl, rfl, rfl,
      ⟨by decide +kernel, rfl⟩, by decide +kernel⟩,
    ⟨demo .hold, _, 0, _, _, ask ([1, 1, 0, 0] ++ zeros 16 ++ le32 1 ++ zeros 16),
      seen ([1, 1, 0, 0] ++ zeros 16 ++ le32 1 ++ zeros 16), _, rfl, rfl, rfl, rfl, ⟨by decide +kernel, rfl⟩,
      by decide +kernel⟩,
    ⟨demo .hold, _, 0, _, _, ask ([1, 6, 0, 0] ++ zeros 16 ++ le32 1 ++ zeros 16),
      seen ([1, 6, 0, 0] ++ zeros 16 ++ le32 1 ++ zeros 16), _, rfl, rfl, rfl, rfl, ⟨by decide +kernel, rfl⟩,
      by decide +kernel⟩,
    ⟨demo .hold, _, 0, _, _, ask (zeros 24), seen (zeros 24), _, rfl, rfl, rfl, rfl, ⟨by decide +kernel, rfl⟩,
      by decide +kernel⟩,
    ⟨demo .service, _, 0, _, _, ask [64, 0, 0, 0], seen [64, 0, 0, 0], _, rfl, rfl, rfl, rfl, ⟨by decide +kernel,
      rfl⟩, by decide +kernel⟩,
    ⟨demo .service, _, 0, _, _, ask [65, 0, 0, 0], seen [65, 0, 0, 0], _, rfl, rfl, rfl, rfl, ⟨by decide +kernel,
      rfl⟩, by decide +kernel⟩,
    ⟨{ demo .island with tim := { counter := 86400 * tickS, servo := { valid := true } }, pln := { frozen := true, ring := [demoForecast] }, courses := [(1, { resident := some ⟨0, []⟩ })] },
      _, 0, _, _, 0, seen [], [], ⟨0, []⟩, demoForecast, rfl, rfl, rfl, rfl, by decide +kernel, by decide +kernel,
      by decide +kernel, by decide +kernel,
      (by
      intro j g h1 h2; cases j with
      | zero => cases h1; exact Or.inr ⟨rfl,
      Nat.le_refl _⟩
      | succ j => cases h1), by decide +kernel⟩,
    ⟨{ demo .island with tim := { counter := 86400 * tickS, servo := { valid := true } }, pln := { frozen := true, ring := [demoForecast] }, courses := [] },
      _, 0, _, _, 0, seen [], [], ⟨0, []⟩, demoForecast, rfl, rfl, rfl, rfl, by decide +kernel, by decide +kernel,
      by decide +kernel, by decide +kernel,
      (by
      intro j g h1 h2; cases j with
      | zero => cases h1; exact Or.inr ⟨rfl,
      Nat.le_refl _⟩
      | succ j => cases h1), by decide +kernel⟩,
    ⟨demo .hold, _, 0, _, _, seen [], [], rfl, rfl, rfl, rfl, by decide +kernel⟩⟩

/-- States and operands that meet the hypotheses of JobsAreTriggered, clause by clause. -/
theorem witness_JobsAreTriggered :
    (∃ (s u v : State) (dt n num : Nat) (c : Cmd) (call : Call) (p : Bytes) (plan : Bool) (x : Ts) (d : Option Nat),
      u = s.elapse dt ∧ v = noteLow u ∧ p = call.payload ∧ n = partitionOf plan ∧ x = tsField p 4 ∧
      d = (if x.valid = true then some (tsNs x) else none) ∧
      num = (if u.pln.next = 2 ^ 32 - 1 then 1 else u.pln.next + 1) ∧ Accepted rowJobSet c u call ∧
      p.length = 156 ∧ u8 p 0 = bit plan ∧ slice p 1 3 = zeros 3 ∧ recordOk plan (p.drop 4) = true) ∧
    (∃ (s u v : State) (dt n num : Nat) (c : Cmd) (call : Call) (p : Bytes) (plan : Bool) (x : Ts) (d : Option Nat),
      u = s.elapse dt ∧ v = noteLow u ∧ p = call.payload ∧ n = partitionOf plan ∧ x = tsField p 4 ∧
      d = (if x.valid = true then some (tsNs x) else none) ∧
      num = (if u.pln.next = 2 ^ 32 - 1 then 1 else u.pln.next + 1) ∧ Accepted rowJobSet c u call ∧
      p.length = 156 ∧ (1 < u8 p 0 ∨ slice p 1 3 ≠ zeros 3 ∨ recordOk (decide (u8 p 0 = 1)) (p.drop 4) = false)) ∧
    (∃ (s u v : State) (dt n num : Nat) (c : Cmd) (call : Call) (p : Bytes) (plan : Bool) (x : Ts) (d : Option Nat),
      u = s.elapse dt ∧ v = noteLow u ∧ p = call.payload ∧ n = partitionOf plan ∧ x = tsField p 4 ∧
      d = (if x.valid = true then some (tsNs x) else none) ∧
      num = (if u.pln.next = 2 ^ 32 - 1 then 1 else u.pln.next + 1) ∧ Accepted rowJobRun c u call ∧ p.length = 20 ∧
      u8 p 0 = bit plan ∧ slice p 1 3 = zeros 3 ∧ u8 p 19 ≤ 1 ∧ (x.valid = true → x.view = 1) ∧
      (residentCourse u n).isSome = true ∧ (plan = true → fitNow u = true) ∧ 4 ≤ call.cap ∧
      tfind u.pln.waiting n = none ∧ runningOf u n = none) ∧
    (∃ (s u v : State) (dt n num : Nat) (c : Cmd) (call : Call) (p : Bytes) (plan : Bool) (x : Ts) (d : Option Nat),
      u = s.elapse dt ∧ v = noteLow u ∧ p = call.payload ∧ n = partitionOf plan ∧ x = tsField p 4 ∧
      d = (if x.valid = true then some (tsNs x) else none) ∧
      num = (if u.pln.next = 2 ^ 32 - 1 then 1 else u.pln.next + 1) ∧ Accepted rowJobRun c u call ∧ p.length = 20 ∧
      u8 p 0 = bit plan ∧ slice p 1 3 = zeros 3 ∧ u8 p 19 ≤ 1 ∧ (x.valid = true → x.view = 1) ∧
      (residentCourse u n).isSome = true ∧ (plan = true → fitNow u = true) ∧ 4 ≤ call.cap ∧
      tfind u.pln.waiting n = none ∧ (runningOf u n).isSome = true) ∧
    (∃ (s u v : State) (dt n num : Nat) (c : Cmd) (call : Call) (p : Bytes) (w : Job) (plan : Bool) (x : Ts) (d : Option Nat),
      u = s.elapse dt ∧ v = noteLow u ∧ p = call.payload ∧ n = partitionOf plan ∧ x = tsField p 4 ∧
      d = (if x.valid = true then some (tsNs x) else none) ∧
      num = (if u.pln.next = 2 ^ 32 - 1 then 1 else u.pln.next + 1) ∧ Accepted rowJobRun c u call ∧ p.length = 20 ∧
      u8 p 0 = bit plan ∧ slice p 1 3 = zeros 3 ∧ u8 p 19 ≤ 1 ∧ (x.valid = true → x.view = 1) ∧
      (residentCourse u n).isSome = true ∧ (plan = true → fitNow u = true) ∧ 4 ≤ call.cap ∧
      tfind u.pln.waiting n = some w) ∧
    (∃ (s u v : State) (dt n num : Nat) (c : Cmd) (call : Call) (p : Bytes) (plan : Bool) (x : Ts) (d : Option Nat),
      u = s.elapse dt ∧ v = noteLow u ∧ p = call.payload ∧ n = partitionOf plan ∧ x = tsField p 4 ∧
      d = (if x.valid = true then some (tsNs x) else none) ∧
      num = (if u.pln.next = 2 ^ 32 - 1 then 1 else u.pln.next + 1) ∧ Accepted rowJobRun c u call ∧ p.length = 20 ∧
      u8 p 0 = bit plan ∧ slice p 1 3 = zeros 3 ∧ u8 p 19 ≤ 1 ∧ (x.valid = true → x.view = 1) ∧
      (residentCourse u n = none ∨ plan = true ∧ fitNow u = false)) ∧
    (∃ (s u v : State) (dt n num : Nat) (c : Cmd) (call : Call) (p : Bytes) (plan : Bool) (x : Ts) (d : Option Nat),
      u = s.elapse dt ∧ v = noteLow u ∧ p = call.payload ∧ n = partitionOf plan ∧ x = tsField p 4 ∧
      d = (if x.valid = true then some (tsNs x) else none) ∧
      num = (if u.pln.next = 2 ^ 32 - 1 then 1 else u.pln.next + 1) ∧ Accepted rowJobRun c u call ∧ p.length = 20 ∧
      (1 < u8 p 0 ∨ slice p 1 3 ≠ zeros 3 ∨ 1 < u8 p 19 ∨ x.valid = true ∧ x.view ≠ 1)) ∧
    (∃ (s u v : State) (dt n num : Nat) (call : Call) (p : Bytes) (plan : Bool) (x : Ts) (d : Option Nat),
      u = s.elapse dt ∧ v = noteLow u ∧ p = call.payload ∧ n = partitionOf plan ∧ x = tsField p 4 ∧
      d = (if x.valid = true then some (tsNs x) else none) ∧
      num = (if u.pln.next = 2 ^ 32 - 1 then 1 else u.pln.next + 1) ∧ honoursPeriod u.sys.mode plan = true ∧
      periodDue u plan = true ∧ residentCourse u n ≠ none ∧ u.brd.givingUp = false ∧
      (plan = true → fitNow u = true) ∧ runningOf u n = none ∧ tfind u.pln.waiting n = none) ∧
    (∃ (s u v : State) (dt n num : Nat) (call : Call) (p : Bytes) (plan : Bool) (x : Ts) (d : Option Nat),
      u = s.elapse dt ∧ v = noteLow u ∧ p = call.payload ∧ n = partitionOf plan ∧ x = tsField p 4 ∧
      d = (if x.valid = true then some (tsNs x) else none) ∧
      num = (if u.pln.next = 2 ^ 32 - 1 then 1 else u.pln.next + 1) ∧ honoursPeriod u.sys.mode plan = true ∧
      periodDue u plan = true ∧ residentCourse u n ≠ none ∧ u.brd.givingUp = false ∧
      (plan = true → fitNow u = true) ∧ (runningOf u n ≠ none ∨ tfind u.pln.waiting n ≠ none)) ∧
    (∃ (s u v : State) (dt n num : Nat) (call : Call) (p : Bytes) (plan : Bool) (x : Ts) (d : Option Nat),
      u = s.elapse dt ∧ v = noteLow u ∧ p = call.payload ∧ n = partitionOf plan ∧ x = tsField p 4 ∧
      d = (if x.valid = true then some (tsNs x) else none) ∧
      num = (if u.pln.next = 2 ^ 32 - 1 then 1 else u.pln.next + 1) ∧ honoursPeriod u.sys.mode plan = true ∧
      periodDue u plan = true ∧ (residentCourse u n = none ∨ u.brd.givingUp = true)) ∧
    (∃ (s u v : State) (dt n num : Nat) (call : Call) (p : Bytes) (plan : Bool) (x : Ts) (d : Option Nat),
      u = s.elapse dt ∧ v = noteLow u ∧ p = call.payload ∧ n = partitionOf plan ∧ x = tsField p 4 ∧
      d = (if x.valid = true then some (tsNs x) else none) ∧
      num = (if u.pln.next = 2 ^ 32 - 1 then 1 else u.pln.next + 1) ∧ honoursPeriod u.sys.mode plan = true ∧
      periodDue u plan = true ∧ residentCourse u n ≠ none ∧ u.brd.givingUp = false ∧ plan = true ∧
      fitNow u = false) ∧
    (∃ (s u v : State) (dt n num : Nat) (call : Call) (p : Bytes) (plan : Bool) (x : Ts) (d : Option Nat),
      u = s.elapse dt ∧ v = noteLow u ∧ p = call.payload ∧ n = partitionOf plan ∧ x = tsField p 4 ∧
      d = (if x.valid = true then some (tsNs x) else none) ∧
      num = (if u.pln.next = 2 ^ 32 - 1 then 1 else u.pln.next + 1) ∧
      (honoursPeriod u.sys.mode plan = false ∨ periodDue u plan = false)) ∧
    (∃ (s u v : State) (dt n m num : Nat) (call : Call) (p : Bytes) (plan : Bool) (x : Ts) (d : Option Nat),
      u = s.elapse dt ∧ v = noteLow u ∧ p = call.payload ∧ n = partitionOf plan ∧ x = tsField p 4 ∧
      d = (if x.valid = true then some (tsNs x) else none) ∧
      num = (if u.pln.next = 2 ^ 32 - 1 then 1 else u.pln.next + 1) ∧ 2 ≤ m) ∧
    (∃ (s u v : State) (dt b n num : Nat) (call : Call) (p : Bytes) (plan : Bool) (x : Ts) (d : Option Nat),
      u = s.elapse dt ∧ v = noteLow u ∧ p = call.payload ∧ n = partitionOf plan ∧ x = tsField p 4 ∧
      d = (if x.valid = true then some (tsNs x) else none) ∧
      num = (if u.pln.next = 2 ^ 32 - 1 then 1 else u.pln.next + 1) ∧ v.pln.events.getLsbD b = true ∧
      honoursEvent u = true ∧ gapOver u = true ∧ u.brd.givingUp = false ∧ residentCourse u 1 ≠ none ∧
      fitNow u = true ∧ tfind u.pln.waiting 1 = none ∧ runningOf u 1 = none) ∧
    (∃ (s u v : State) (dt b n num : Nat) (call : Call) (p : Bytes) (plan : Bool) (x : Ts) (d : Option Nat),
      u = s.elapse dt ∧ v = noteLow u ∧ p = call.payload ∧ n = partitionOf plan ∧ x = tsField p 4 ∧
      d = (if x.valid = true then some (tsNs x) else none) ∧
      num = (if u.pln.next = 2 ^ 32 - 1 then 1 else u.pln.next + 1) ∧ v.pln.events.getLsbD b = true ∧
      honoursEvent u = true ∧ gapOver u = true ∧ u.brd.givingUp = false ∧ residentCourse u 1 ≠ none ∧
      fitNow u = true ∧ tfind u.pln.waiting 1 = none ∧ runningOf u 1 ≠ none) ∧
    (∃ (s u v : State) (dt b n num : Nat) (call : Call) (p : Bytes) (w : Job) (plan : Bool) (x : Ts) (d : Option Nat),
      u = s.elapse dt ∧ v = noteLow u ∧ p = call.payload ∧ n = partitionOf plan ∧ x = tsField p 4 ∧
      d = (if x.valid = true then some (tsNs x) else none) ∧
      num = (if u.pln.next = 2 ^ 32 - 1 then 1 else u.pln.next + 1) ∧ v.pln.events.getLsbD b = true ∧
      honoursEvent u = true ∧ gapOver u = true ∧ u.brd.givingUp = false ∧ residentCourse u 1 ≠ none ∧
      fitNow u = true ∧ tfind u.pln.waiting 1 = some w) ∧
    (∃ (s u v : State) (dt b n num : Nat) (call : Call) (p : Bytes) (plan : Bool) (x : Ts) (d : Option Nat),
      u = s.elapse dt ∧ v = noteLow u ∧ p = call.payload ∧ n = partitionOf plan ∧ x = tsField p 4 ∧
      d = (if x.valid = true then some (tsNs x) else none) ∧
      num = (if u.pln.next = 2 ^ 32 - 1 then 1 else u.pln.next + 1) ∧ v.pln.events.getLsbD b = true ∧
      honoursEvent u = true ∧ gapOver u = true ∧ u.brd.givingUp = false ∧ residentCourse u 1 = none) ∧
    (∃ (s u v : State) (dt b n num : Nat) (call : Call) (p : Bytes) (plan : Bool) (x : Ts) (d : Option Nat),
      u = s.elapse dt ∧ v = noteLow u ∧ p = call.payload ∧ n = partitionOf plan ∧ x = tsField p 4 ∧
      d = (if x.valid = true then some (tsNs x) else none) ∧
      num = (if u.pln.next = 2 ^ 32 - 1 then 1 else u.pln.next + 1) ∧ v.pln.events.getLsbD b = true ∧
      honoursEvent u = true ∧ gapOver u = true ∧ u.brd.givingUp = false ∧ residentCourse u 1 ≠ none ∧
      fitNow u = false) ∧
    (∃ (s u v : State) (dt b n num : Nat) (call : Call) (p : Bytes) (plan : Bool) (x : Ts) (d : Option Nat),
      u = s.elapse dt ∧ v = noteLow u ∧ p = call.payload ∧ n = partitionOf plan ∧ x = tsField p 4 ∧
      d = (if x.valid = true then some (tsNs x) else none) ∧
      num = (if u.pln.next = 2 ^ 32 - 1 then 1 else u.pln.next + 1) ∧
      (v.pln.events.getLsbD b = false ∨ honoursEvent u = false ∨ gapOver u = false ∨ u.brd.givingUp = true)) ∧
    (∃ (s u v : State) (dt n num : Nat) (call : Call) (p : Bytes) (j : Job) (plan : Bool) (x : Ts) (d : Option Nat),
      u = s.elapse dt ∧ v = noteLow u ∧ p = call.payload ∧ n = partitionOf plan ∧ x = tsField p 4 ∧
      d = (if x.valid = true then some (tsNs x) else none) ∧
      num = (if u.pln.next = 2 ^ 32 - 1 then 1 else u.pln.next + 1) ∧ tfind u.pln.waiting n = some j ∧
      runningOf u n = none ∧ swapDue u n = false ∧ u.brd.givingUp = false ∧ (j.plan = true → fitNow u = true)) ∧
    (∃ (s u v : State) (dt n num : Nat) (call : Call) (p : Bytes) (j : Job) (plan : Bool) (x : Ts) (d : Option Nat),
      u = s.elapse dt ∧ v = noteLow u ∧ p = call.payload ∧ n = partitionOf plan ∧ x = tsField p 4 ∧
      d = (if x.valid = true then some (tsNs x) else none) ∧
      num = (if u.pln.next = 2 ^ 32 - 1 then 1 else u.pln.next + 1) ∧ tfind u.pln.waiting n = some j ∧
      runningOf u n = none ∧ swapDue u n = false ∧ u.brd.givingUp = false ∧ j.plan = true ∧ fitNow u = false) ∧
    (∃ (s u v : State) (dt n num : Nat) (call : Call) (p : Bytes) (plan : Bool) (x : Ts) (d : Option Nat),
      u = s.elapse dt ∧ v = noteLow u ∧ p = call.payload ∧ n = partitionOf plan ∧ x = tsField p 4 ∧
      d = (if x.valid = true then some (tsNs x) else none) ∧
      num = (if u.pln.next = 2 ^ 32 - 1 then 1 else u.pln.next + 1) ∧
      (tfind u.pln.waiting n = none ∨ runningOf u n ≠ none ∨ swapDue u n = true ∨ u.brd.givingUp = true)) :=
  ⟨⟨demo .hold, _, _, 0, _, _, ask ([1, 0, 0, 0] ++ defaultRecord true), seen ([1, 0, 0, 0] ++ defaultRecord true),
    _, true, _, _, rfl, rfl, rfl, rfl, rfl, rfl, rfl, ⟨by decide +kernel, rfl⟩, by decide +kernel⟩,
    ⟨demo .hold, _, _, 0, _, _, ask (zeros 156), seen (zeros 156), _, true, _, _, rfl, rfl, rfl, rfl, rfl, rfl,
      rfl, ⟨by decide +kernel, rfl⟩, by decide +kernel⟩,
    ⟨demoPlan, _, _, 0, _, _, ask ([1, 0, 0, 0] ++ zeros 16), seen ([1, 0, 0, 0] ++ zeros 16), _, true, _, _, rfl,
      rfl, rfl, rfl, rfl, rfl, rfl, ⟨by decide +kernel, rfl⟩, by decide +kernel⟩,
    ⟨{ demoPlan with slv := { running := [(1, { job := ⟨1, true, .run, none, 0⟩, record := [], phase := 1 })] } },
      _, _, 0, _, _, ask ([1, 0, 0, 0] ++ zeros 16), seen ([1, 0, 0, 0] ++ zeros 16), _, true, _, _, rfl, rfl, rfl,
      rfl, rfl, rfl, rfl, ⟨by decide +kernel, rfl⟩, by decide +kernel⟩,
    ⟨{ demoPlan with pln := { demoPlan.pln with waiting := [(1, ⟨4, true, .run, none, 0⟩)] } }, _, _, 0, _, _,
      ask ([1, 0, 0, 0] ++ zeros 16), seen ([1, 0, 0, 0] ++ zeros 16), _, ⟨4, true, .run, none, 0⟩, true, _, _,
      rfl, rfl, rfl, rfl, rfl, rfl, rfl, ⟨by decide +kernel, rfl⟩, by decide +kernel⟩,
    ⟨demo .hold, _, _, 0, _, _, ask ([1, 0, 0, 0] ++ zeros 16), seen ([1, 0, 0, 0] ++ zeros 16), _, true, _, _,
      rfl, rfl, rfl, rfl, rfl, rfl, rfl, ⟨by decide +kernel, rfl⟩, by decide +kernel⟩,
    ⟨demo .hold, _, _, 0, _, _, ask ([2, 0, 0, 0] ++ zeros 16), seen ([2, 0, 0, 0] ++ zeros 16), _, true, _, _,
      rfl, rfl, rfl, rfl, rfl, rfl, rfl, ⟨by decide +kernel, rfl⟩, by decide +kernel⟩,
    ⟨demoPlan, _, _, 0, _, _, seen [], _, true, _, _, rfl, rfl, rfl, rfl, rfl, rfl, rfl, by decide +kernel⟩,
    ⟨{ demoPlan with slv := { running := [(1, { job := ⟨1, true, .run, none, 0⟩, record := [], phase := 1 })] } },
      _, _, 0, _, _, seen [], _, true, _, _, rfl, rfl, rfl, rfl, rfl, rfl, rfl, by decide +kernel⟩,
    ⟨demo .steer, _, _, 0, _, _, seen [], _, true, _, _, rfl, rfl, rfl, rfl, rfl, rfl, rfl, by decide +kernel⟩,
    ⟨{ demoPlan with pln := { demoPlan.pln with estimate := none } }, _, _, 0, _, _, seen [], _, true, _, _, rfl,
      rfl, rfl, rfl, rfl, rfl, rfl, by decide +kernel⟩,
    ⟨demo .hold, _, _, 0, _, _, seen [], _, true, _, _, rfl, rfl, rfl, rfl, rfl, rfl, rfl, by decide +kernel⟩,
    ⟨demo .hold, _, _, 0, _, 2, _, seen [], _, true, _, _, rfl, rfl, rfl, rfl, rfl, rfl, rfl, by decide +kernel⟩,
    ⟨demoPlan, _, _, 0, 3, _, _, seen [], _, true, _, _, rfl, rfl, rfl, rfl, rfl, rfl, rfl, by decide +kernel⟩,
    ⟨{ demoPlan with slv := { running := [(1, { job := ⟨1, true, .run, none, 0⟩, record := [], phase := 1 })] } },
      _, _, 0, 3, _, _, seen [], _, true, _, _, rfl, rfl, rfl, rfl, rfl, rfl, rfl, by decide +kernel⟩,
    ⟨{ demoPlan with pln := { demoPlan.pln with waiting := [(1, ⟨4, true, .run, none, 0⟩)] } }, _, _, 0, 3, _, _,
      seen [], _, ⟨4, true, .run, none, 0⟩, true, _, _, rfl, rfl, rfl, rfl, rfl, rfl, rfl, by decide +kernel⟩,
    ⟨{ demo .steer with pln := { lowSeen := true, events := 8 } }, _, _, 0, 3, _, _, seen [], _, true, _, _, rfl,
      rfl, rfl, rfl, rfl, rfl, rfl, by decide +kernel⟩,
    ⟨{ demoPlan with pln := { demoPlan.pln with estimate := none } }, _, _, 0, 3, _, _, seen [], _, true, _, _,
      rfl, rfl, rfl, rfl, rfl, rfl, rfl, by decide +kernel⟩,
    ⟨demo .hold, _, _, 0, 0, _, _, seen [], _, true, _, _, rfl, rfl, rfl, rfl, rfl, rfl, rfl, by decide +kernel⟩,
    ⟨{ demoPlan with pln := { demoPlan.pln with waiting := [(1, ⟨4, true, .run, none, 0⟩)] } }, _, _, 0, _, _,
      seen [], _, ⟨4, true, .run, none, 0⟩, true, _, _, rfl, rfl, rfl, rfl, rfl, rfl, rfl, by decide +kernel⟩,
    ⟨{ demoPlan with pln := { demoPlan.pln with estimate := none, waiting := [(1, ⟨4, true, .run, none, 0⟩)] } },
      _, _, 0, _, _, seen [], _, ⟨4, true, .run, none, 0⟩, true, _, _, rfl, rfl, rfl, rfl, rfl, rfl, rfl,
      by decide +kernel⟩,
    ⟨demo .hold, _, _, 0, _, _, seen [], _, true, _, _, rfl, rfl, rfl, rfl, rfl, rfl, rfl, by decide +kernel⟩⟩

/-- States and operands that meet the hypotheses of JobsRunOnTheFabric, clause by clause. -/
theorem witness_JobsRunOnTheFabric :
    (∃ (s u v y : State) (dt p : Nat) (m w : Memory) (r : Running) (basis : Option Kept) (flags : Half) (h record : Bytes) (wide : Bool) (e : Option Estimate) (f : FabricNotes),
      u = s.elapse dt ∧ v = endFaulty p (fabricSteps p (iterationSteps r) (fabricNotes f u)) ∧
      y = endFaulty p (fabricSteps p (iterationSteps r) u) ∧
      record = (if r.job.trigger = .partner then r.record else recordOf u r.job.plan) ∧
      wide = (!r.job.plan && (if r.job.trigger = .partner then r.wide else runsWide m record r.job.trigger)) ∧
      w = (if r.job.plan then (e.map (fun x => (initialise x m).1)).getD m else m) ∧ mayStart u p r = true ∧
      runningOf u p = some r ∧ (residentCourse u p).map (·.image) = some m ∧
      startRow m record (tfind u.slv.kept p) (tget u.slv.refused p false) = some (basis, flags, h) ∧
      deadlinePassed u (r.job.deadline.map (counterAt u)) = false ∧ workNeed m ≤ workFree u ∧
      e = estimateNumbered u (((startEstimate u r).map (fun x => x.job.toNat)).getD 0)) ∧
    (∃ (s u v y : State) (dt p : Nat) (m w : Memory) (r : Running) (basis : Option Kept) (flags : Half) (h record : Bytes) (wide : Bool) (e : Option Estimate) (f : FabricNotes),
      u = s.elapse dt ∧ v = endFaulty p (fabricSteps p (iterationSteps r) (fabricNotes f u)) ∧
      y = endFaulty p (fabricSteps p (iterationSteps r) u) ∧
      record = (if r.job.trigger = .partner then r.record else recordOf u r.job.plan) ∧
      wide = (!r.job.plan && (if r.job.trigger = .partner then r.wide else runsWide m record r.job.trigger)) ∧
      w = (if r.job.plan then (e.map (fun x => (initialise x m).1)).getD m else m) ∧ mayStart u p r = true ∧
      runningOf u p = some r ∧ (residentCourse u p).map (·.image) = some m ∧
      startRow m record (tfind u.slv.kept p) (tget u.slv.refused p false) = some (basis, flags, h) ∧
      deadlinePassed u (r.job.deadline.map (counterAt u)) = false ∧ workFree u < workNeed m) ∧
    (∃ (s u v y : State) (dt p : Nat) (m w : Memory) (r : Running) (basis : Option Kept) (flags : Half) (h record : Bytes) (wide : Bool) (e : Option Estimate) (f : FabricNotes),
      u = s.elapse dt ∧ v = endFaulty p (fabricSteps p (iterationSteps r) (fabricNotes f u)) ∧
      y = endFaulty p (fabricSteps p (iterationSteps r) u) ∧
      record = (if r.job.trigger = .partner then r.record else recordOf u r.job.plan) ∧
      wide = (!r.job.plan && (if r.job.trigger = .partner then r.wide else runsWide m record r.job.trigger)) ∧
      w = (if r.job.plan then (e.map (fun x => (initialise x m).1)).getD m else m) ∧ mayStart u p r = true ∧
      runningOf u p = some r ∧ (residentCourse u p).map (·.image) = some m ∧
      startRow m record (tfind u.slv.kept p) (tget u.slv.refused p false) = some (basis, flags, h) ∧
      deadlinePassed u (r.job.deadline.map (counterAt u)) = true) ∧
    (∃ (s u v y : State) (dt p : Nat) (m w : Memory) (r : Running) (record : Bytes) (wide : Bool) (e : Option Estimate) (f : FabricNotes),
      u = s.elapse dt ∧ v = endFaulty p (fabricSteps p (iterationSteps r) (fabricNotes f u)) ∧
      y = endFaulty p (fabricSteps p (iterationSteps r) u) ∧
      record = (if r.job.trigger = .partner then r.record else recordOf u r.job.plan) ∧
      wide = (!r.job.plan && (if r.job.trigger = .partner then r.wide else runsWide m record r.job.trigger)) ∧
      w = (if r.job.plan then (e.map (fun x => (initialise x m).1)).getD m else m) ∧ mayStart u p r = true ∧
      runningOf u p = some r ∧ (residentCourse u p).map (·.image) = some m ∧
      startRow m record (tfind u.slv.kept p) (tget u.slv.refused p false) = none) ∧
    (∃ (s u v y : State) (dt p : Nat) (m w : Memory) (r : Running) (record : Bytes) (wide : Bool) (e : Option Estimate) (f : FabricNotes),
      u = s.elapse dt ∧ v = endFaulty p (fabricSteps p (iterationSteps r) (fabricNotes f u)) ∧
      y = endFaulty p (fabricSteps p (iterationSteps r) u) ∧
      record = (if r.job.trigger = .partner then r.record else recordOf u r.job.plan) ∧
      wide = (!r.job.plan && (if r.job.trigger = .partner then r.wide else runsWide m record r.job.trigger)) ∧
      w = (if r.job.plan then (e.map (fun x => (initialise x m).1)).getD m else m) ∧
      (runningOf u p = none ∨ residentCourse u p = none ∨ runningOf u p = some r ∧ mayStart u p r = false)) ∧
    (∃ (s u v y : State) (dt p : Nat) (m w : Memory) (r : Running) (record : Bytes) (wide : Bool) (e : Option Estimate) (f : FabricNotes),
      u = s.elapse dt ∧ v = endFaulty p (fabricSteps p (iterationSteps r) (fabricNotes f u)) ∧
      y = endFaulty p (fabricSteps p (iterationSteps r) u) ∧
      record = (if r.job.trigger = .partner then r.record else recordOf u r.job.plan) ∧
      wide = (!r.job.plan && (if r.job.trigger = .partner then r.wide else runsWide m record r.job.trigger)) ∧
      w = (if r.job.plan then (e.map (fun x => (initialise x m).1)).getD m else m) ∧ runningOf u p = some r ∧
      (residentCourse u p).map (·.image) = some m ∧ r.phase = 10 ∧ r.ended = none ∧ u.pmu.fabBarred = false ∧
      workNeed m ≤ workFree u ∧ e = estimateNumbered u r.estimate) ∧
    (∃ (s u v y : State) (dt p : Nat) (m w : Memory) (r : Running) (record : Bytes) (wide : Bool) (e : Option Estimate) (f : FabricNotes),
      u = s.elapse dt ∧ v = endFaulty p (fabricSteps p (iterationSteps r) (fabricNotes f u)) ∧
      y = endFaulty p (fabricSteps p (iterationSteps r) u) ∧
      record = (if r.job.trigger = .partner then r.record else recordOf u r.job.plan) ∧
      wide = (!r.job.plan && (if r.job.trigger = .partner then r.wide else runsWide m record r.job.trigger)) ∧
      w = (if r.job.plan then (e.map (fun x => (initialise x m).1)).getD m else m) ∧
      (runningOf u p = none ∨ residentCourse u p = none ∨ runningOf u p = some r ∧
      (r.phase ≠ 10 ∨ r.ended ≠ none ∨ u.pmu.fabBarred = true ∨ (residentCourse u p).map (·.image) = some m ∧
      workFree u < workNeed m))) ∧
    (∃ (s u v y : State) (dt p : Nat) (m w : Memory) (r q : Running) (record : Bytes) (wide : Bool) (e : Option Estimate) (f : FabricNotes),
      u = s.elapse dt ∧ v = endFaulty p (fabricSteps p (iterationSteps r) (fabricNotes f u)) ∧
      y = endFaulty p (fabricSteps p (iterationSteps r) u) ∧
      record = (if r.job.trigger = .partner then r.record else recordOf u r.job.plan) ∧
      wide = (!r.job.plan && (if r.job.trigger = .partner then r.wide else runsWide m record r.job.trigger)) ∧
      w = (if r.job.plan then (e.map (fun x => (initialise x m).1)).getD m else m) ∧ runningOf u p = some r ∧
      iterating u r = true ∧ paced r = true ∧ tooLate u r = false ∧ f.doubleEcc = false ∧ runningOf v p = some q ∧
      q.ended = none ∧ q.fab.stage = .done) ∧
    (∃ (s u v y : State) (dt p : Nat) (m w : Memory) (r q : Running) (record : Bytes) (wide : Bool) (e : Option Estimate) (f : FabricNotes),
      u = s.elapse dt ∧ v = endFaulty p (fabricSteps p (iterationSteps r) (fabricNotes f u)) ∧
      y = endFaulty p (fabricSteps p (iterationSteps r) u) ∧
      record = (if r.job.trigger = .partner then r.record else recordOf u r.job.plan) ∧
      wide = (!r.job.plan && (if r.job.trigger = .partner then r.wide else runsWide m record r.job.trigger)) ∧
      w = (if r.job.plan then (e.map (fun x => (initialise x m).1)).getD m else m) ∧ runningOf u p = some r ∧
      iterating u r = true ∧ paced r = true ∧ tooLate u r = false ∧ f.doubleEcc = false ∧ runningOf v p = some q ∧
      (q.ended ≠ none ∨ q.fab.stage ≠ .done)) ∧
    (∃ (s u v y : State) (dt p : Nat) (m w : Memory) (r : Running) (record : Bytes) (wide : Bool) (e : Option Estimate) (f : FabricNotes),
      u = s.elapse dt ∧ v = endFaulty p (fabricSteps p (iterationSteps r) (fabricNotes f u)) ∧
      y = endFaulty p (fabricSteps p (iterationSteps r) u) ∧
      record = (if r.job.trigger = .partner then r.record else recordOf u r.job.plan) ∧
      wide = (!r.job.plan && (if r.job.trigger = .partner then r.wide else runsWide m record r.job.trigger)) ∧
      w = (if r.job.plan then (e.map (fun x => (initialise x m).1)).getD m else m) ∧ runningOf u p = some r ∧
      iterating u r = true ∧ paced r = true ∧ tooLate u r = false ∧ f.doubleEcc = true) ∧
    (∃ (s u v y : State) (dt p : Nat) (m w : Memory) (r : Running) (record : Bytes) (wide : Bool) (e : Option Estimate) (f : FabricNotes),
      u = s.elapse dt ∧ v = endFaulty p (fabricSteps p (iterationSteps r) (fabricNotes f u)) ∧
      y = endFaulty p (fabricSteps p (iterationSteps r) u) ∧
      record = (if r.job.trigger = .partner then r.record else recordOf u r.job.plan) ∧
      wide = (!r.job.plan && (if r.job.trigger = .partner then r.wide else runsWide m record r.job.trigger)) ∧
      w = (if r.job.plan then (e.map (fun x => (initialise x m).1)).getD m else m) ∧
      (runningOf u p = none ∨ runningOf u p = some r ∧
      (iterating u r = false ∨ paced r = false ∨ tooLate u r = true))) ∧
    (∃ (s u v y : State) (dt p : Nat) (m w : Memory) (r : Running) (record : Bytes) (wide : Bool) (e : Option Estimate) (f : FabricNotes),
      u = s.elapse dt ∧ v = endFaulty p (fabricSteps p (iterationSteps r) (fabricNotes f u)) ∧
      y = endFaulty p (fabricSteps p (iterationSteps r) u) ∧
      record = (if r.job.trigger = .partner then r.record else recordOf u r.job.plan) ∧
      wide = (!r.job.plan && (if r.job.trigger = .partner then r.wide else runsWide m record r.job.trigger)) ∧
      w = (if r.job.plan then (e.map (fun x => (initialise x m).1)).getD m else m) ∧ runningOf u p = some r ∧
      r.phase ≠ 1 ∧ r.ended = none ∧ deadlinePassed u r.d = true) ∧
    (∃ (s u v y : State) (dt p : Nat) (m w : Memory) (r : Running) (record : Bytes) (wide : Bool) (e : Option Estimate) (f : FabricNotes),
      u = s.elapse dt ∧ v = endFaulty p (fabricSteps p (iterationSteps r) (fabricNotes f u)) ∧
      y = endFaulty p (fabricSteps p (iterationSteps r) u) ∧
      record = (if r.job.trigger = .partner then r.record else recordOf u r.job.plan) ∧
      wide = (!r.job.plan && (if r.job.trigger = .partner then r.wide else runsWide m record r.job.trigger)) ∧
      w = (if r.job.plan then (e.map (fun x => (initialise x m).1)).getD m else m) ∧
      (runningOf u p = none ∨ runningOf u p = some r ∧
      (r.phase = 1 ∨ r.ended ≠ none ∨ deadlinePassed u r.d = false))) ∧
    (∃ (s u v y : State) (dt p : Nat) (m w : Memory) (r q : Running) (record : Bytes) (wide : Bool) (e : Option Estimate) (f : FabricNotes),
      u = s.elapse dt ∧ v = endFaulty p (fabricSteps p (iterationSteps r) (fabricNotes f u)) ∧
      y = endFaulty p (fabricSteps p (iterationSteps r) u) ∧
      record = (if r.job.trigger = .partner then r.record else recordOf u r.job.plan) ∧
      wide = (!r.job.plan && (if r.job.trigger = .partner then r.wide else runsWide m record r.job.trigger)) ∧
      w = (if r.job.plan then (e.map (fun x => (initialise x m).1)).getD m else m) ∧ runningOf u p = some r ∧
      iterating u r = true ∧ runningOf y p = some q ∧ q.ended = none ∧ stuck q = true) ∧
    (∃ (s u v y : State) (dt p : Nat) (m w : Memory) (r q : Running) (record : Bytes) (wide : Bool) (e : Option Estimate) (f : FabricNotes),
      u = s.elapse dt ∧ v = endFaulty p (fabricSteps p (iterationSteps r) (fabricNotes f u)) ∧
      y = endFaulty p (fabricSteps p (iterationSteps r) u) ∧
      record = (if r.job.trigger = .partner then r.record else recordOf u r.job.plan) ∧
      wide = (!r.job.plan && (if r.job.trigger = .partner then r.wide else runsWide m record r.job.trigger)) ∧
      w = (if r.job.plan then (e.map (fun x => (initialise x m).1)).getD m else m) ∧ runningOf u p = some r ∧
      iterating u r = true ∧ runningOf y p = some q ∧ (q.ended ≠ none ∨ stuck q = false)) ∧
    (∃ (s u v y : State) (dt p : Nat) (m w : Memory) (r : Running) (record : Bytes) (wide : Bool) (e : Option Estimate) (f : FabricNotes),
      u = s.elapse dt ∧ v = endFaulty p (fabricSteps p (iterationSteps r) (fabricNotes f u)) ∧
      y = endFaulty p (fabricSteps p (iterationSteps r) u) ∧
      record = (if r.job.trigger = .partner then r.record else recordOf u r.job.plan) ∧
      wide = (!r.job.plan && (if r.job.trigger = .partner then r.wide else runsWide m record r.job.trigger)) ∧
      w = (if r.job.plan then (e.map (fun x => (initialise x m).1)).getD m else m) ∧
      (runningOf u p = none ∨ runningOf u p = some r ∧ iterating u r = false)) :=
  ⟨⟨{ demo .hold with courses := [(0, { resident := some ⟨0, []⟩ })], slv := { running := [(0, { job := ⟨1, false, .run, none, 0⟩, record := defaultRecord false, phase := 1 })] } },
    _, _, _, 0, 0, [], _, { job := ⟨1, false, .run, none, 0⟩, record := defaultRecord false, phase := 1 }, none,
    wfColdNone, zeros 48, _, _, _, quiet, rfl, rfl, rfl, rfl, rfl, rfl, by decide +kernel, by decide +kernel,
    by decide +kernel, by decide +kernel, by decide +kernel, by decide +kernel, rfl⟩,
    ⟨{ demo .hold with courses := [(0, { resident := some ⟨0, [(35, 0x40)]⟩ })], slv := { running := [(0, { job := ⟨1, false, .run, none, 0⟩, record := defaultRecord false, phase := 1 })] } },
      _, _, _, 0, 0, [(35, 0x40)], _,
      { job := ⟨1, false, .run, none, 0⟩, record := defaultRecord false, phase := 1 }, none, wfColdNone, zeros 48,
      _, _, none, quiet, rfl, rfl, rfl, rfl, rfl, rfl, by decide +kernel⟩,
    ⟨{ demo .hold with courses := [(0, { resident := some ⟨0, []⟩ })], slv := { running := [(0, { job := ⟨1, false, .run, some 0, 0⟩, record := defaultRecord false, phase := 1 })] } },
      _, _, _, 0, 0, [], _, { job := ⟨1, false, .run, some 0, 0⟩, record := defaultRecord false, phase := 1 },
      none, wfColdNone, zeros 48, _, _, none, quiet, rfl, rfl, rfl, rfl, rfl, rfl, by decide +kernel⟩,
    ⟨{ demo .hold with courses := [(0, { resident := some ⟨0, []⟩ })], slv := { running := [(0, { job := ⟨1, false, .run, none, 0⟩, record := defaultRecord false, phase := 1 })], kept := [(0, { iterate := {}, signature := [1], job := 1, status := stOk, t0 := 0, hash := [], replaced := false })] } },
      _, _, _, 0, 0, [], _, { job := ⟨1, false, .run, none, 0⟩, record := defaultRecord false, phase := 1 }, _, _,
      none, quiet, rfl, rfl, rfl, rfl, rfl, rfl, by decide +kernel⟩,
    ⟨demo .hold, _, _, _, 0, 0, [], _,
      { job := ⟨1, false, .run, none, 0⟩, record := defaultRecord false, phase := 1 }, _, _, none, quiet, rfl, rfl,
      rfl, rfl, rfl, rfl, by decide +kernel⟩,
    ⟨{ demo .hold with courses := [(0, { resident := some ⟨0, []⟩ })], slv := { running := [(0, { job := ⟨1, false, .run, none, 0⟩, record := defaultRecord false, phase := 10 })] } },
      _, _, _, 0, 0, [], _, { job := ⟨1, false, .run, none, 0⟩, record := defaultRecord false, phase := 10 }, _, _,
      _, quiet, rfl, rfl, rfl, rfl, rfl, rfl, by decide +kernel, by decide +kernel, by decide +kernel,
      by decide +kernel, by decide +kernel, by decide +kernel, rfl⟩,
    ⟨demo .hold, _, _, _, 0, 0, [], _,
      { job := ⟨1, false, .run, none, 0⟩, record := defaultRecord false, phase := 10 }, _, _, none, quiet, rfl,
      rfl, rfl, rfl, rfl, rfl, by decide +kernel⟩,
    ⟨demoFabric demoSmall, _, _, _, 0, 0, [], _, demoRun demoSmall, demoFabric_ends.choose, _, _, none, quiet, rfl,
      rfl, rfl, rfl, rfl, rfl, by decide +kernel, by decide +kernel, by decide +kernel, by decide +kernel,
      by decide +kernel, demoFabric_ends.choose_spec.1, demoFabric_ends.choose_spec.2.1,
      demoFabric_ends.choose_spec.2.2⟩,
    ⟨{ demo .hold with courses := [(0, { resident := some ⟨0, []⟩ })], slv := { running := [(0, { job := ⟨1, false, .run, none, 0⟩, record := defaultRecord false, phase := 3 })] } },
      _, _, _, 0, 0, [], _, { job := ⟨1, false, .run, none, 0⟩, record := defaultRecord false, phase := 3 },
      { job := ⟨1, false, .run, none, 0⟩, record := defaultRecord false, phase := 3 }, _, _, none, quiet, rfl, rfl,
      rfl, rfl, rfl, rfl, by decide +kernel⟩,
    ⟨{ demo .hold with courses := [(0, { resident := some ⟨0, []⟩ })], slv := { running := [(0, { job := ⟨1, false, .run, none, 0⟩, record := defaultRecord false, phase := 3 })] } },
      _, _, _, 0, 0, [], _, { job := ⟨1, false, .run, none, 0⟩, record := defaultRecord false, phase := 3 }, _, _,
      none, ({ quiet with doubleEcc := true } : FabricNotes), rfl, rfl, rfl, rfl, rfl, rfl, by decide +kernel⟩,
    ⟨demo .hold, _, _, _, 0, 0, [], _,
      { job := ⟨1, false, .run, none, 0⟩, record := defaultRecord false, phase := 3 }, _, _, none, quiet, rfl, rfl,
      rfl, rfl, rfl, rfl, by decide +kernel⟩,
    ⟨{ demo .hold with courses := [(0, { resident := some ⟨0, []⟩ })], slv := { running := [(0, { job := ⟨1, false, .run, none, 0⟩, record := defaultRecord false, phase := 3, d := some 0 })] } },
      _, _, _, 0, 0, [], _,
      { job := ⟨1, false, .run, none, 0⟩, record := defaultRecord false, phase := 3, d := some 0 }, _, _, none,
      quiet, rfl, rfl, rfl, rfl, rfl, rfl, by decide +kernel⟩,
    ⟨demo .hold, _, _, _, 0, 0, [], _,
      { job := ⟨1, false, .run, none, 0⟩, record := defaultRecord false, phase := 3 }, _, _, none, quiet, rfl, rfl,
      rfl, rfl, rfl, rfl, by decide +kernel⟩,
    ⟨{ demo .hold with courses := [(0, { resident := some ⟨0, []⟩ })], slv := { running := [(0, { job := ⟨1, false, .run, none, 0⟩, record := defaultRecord false, phase := 3 })] } },
      _, _, _, 0, 0, [], _, { job := ⟨1, false, .run, none, 0⟩, record := defaultRecord false, phase := 3 },
      { job := ⟨1, false, .run, none, 0⟩, record := defaultRecord false, phase := 3 }, _, _, none, quiet, rfl, rfl,
      rfl, rfl, rfl, rfl, by decide +kernel⟩,
    ⟨demoFabric demoBound, _, _, _, 0, 0, [], _, demoRun demoBound,
      (runningOf (endFaulty 0 (fabricSteps 0 (iterationSteps (demoRun demoBound)) (demoFabric demoBound))) 0).getD (demoRun []),
      _, _, none, quiet, rfl, rfl, rfl, rfl, rfl, rfl, by decide +kernel⟩,
    ⟨demo .hold, _, _, _, 0, 0, [], _,
      { job := ⟨1, false, .run, none, 0⟩, record := defaultRecord false, phase := 3 }, _, _, none, quiet, rfl, rfl,
      rfl, rfl, rfl, rfl, by decide +kernel⟩⟩

/-- States and operands that meet the hypotheses of JobsEndAndFallbackFollows, clause by clause. -/
theorem witness_JobsEndAndFallbackFollows :
    (∃ (s u : State) (dt n k : Nat) (call : Call) (p h sig : Bytes) (r : Running) (st : Half) (known : Bool),
      u = s.elapse dt ∧ p = call.payload ∧ k = u32 p 0 ∧ known = u.pln.results.any (fun x => decide (x.job = k ∧
      ¬x.withdrawn)) ∧ runningOf u n = some r ∧ r.ended = some st ∧
      sig = hSignature (((residentCourse u n).map (·.image)).getD r.work) ∧
      h = resultHash sig r.wide r.iterations r.iterate) ∧
    (∃ (s u : State) (dt n k : Nat) (call : Call) (p : Bytes) (r : Running) (known : Bool), u = s.elapse dt ∧
      p = call.payload ∧ k = u32 p 0 ∧ known = u.pln.results.any (fun x => decide (x.job = k ∧ ¬x.withdrawn)) ∧
      (runningOf u n = none ∨ runningOf u n = some r ∧ r.ended = none)) ∧
    (∃ (s u : State) (dt n k : Nat) (c : Cmd) (call : Call) (p : Bytes) (r : Running) (known : Bool),
      u = s.elapse dt ∧ p = call.payload ∧ k = u32 p 0 ∧ known = u.pln.results.any (fun x => decide (x.job = k ∧
      ¬x.withdrawn)) ∧ Accepted rowJobAbort c u call ∧ p.length = 4 ∧ runningOf u n = some r ∧ r.job.number = k ∧
      n ≤ 1 ∧ (n = 1 → (runningOf u 0).map (fun x => x.job.number) ≠ some k) ∧ r.ended = none ∧ r.phase ≠ 1) ∧
    (∃ (s u : State) (dt n k : Nat) (c : Cmd) (call : Call) (p : Bytes) (r : Running) (known : Bool),
      u = s.elapse dt ∧ p = call.payload ∧ k = u32 p 0 ∧ known = u.pln.results.any (fun x => decide (x.job = k ∧
      ¬x.withdrawn)) ∧ Accepted rowJobAbort c u call ∧ p.length = 4 ∧ runningOf u n = some r ∧ r.job.number = k ∧
      n ≤ 1 ∧ (n = 1 → (runningOf u 0).map (fun x => x.job.number) ≠ some k) ∧ r.ended = none ∧ r.phase = 1) ∧
    (∃ (s u : State) (dt n k : Nat) (c : Cmd) (call : Call) (p : Bytes) (r : Running) (known : Bool),
      u = s.elapse dt ∧ p = call.payload ∧ k = u32 p 0 ∧ known = u.pln.results.any (fun x => decide (x.job = k ∧
      ¬x.withdrawn)) ∧ Accepted rowJobAbort c u call ∧ p.length = 4 ∧ runningOf u n = some r ∧ r.job.number = k ∧
      n ≤ 1 ∧ (n = 1 → (runningOf u 0).map (fun x => x.job.number) ≠ some k) ∧ r.ended ≠ none) ∧
    (∃ (s u : State) (dt n k : Nat) (c : Cmd) (call : Call) (p : Bytes) (j : Job) (known : Bool), u = s.elapse dt ∧
      p = call.payload ∧ k = u32 p 0 ∧ known = u.pln.results.any (fun x => decide (x.job = k ∧ ¬x.withdrawn)) ∧
      Accepted rowJobAbort c u call ∧ p.length = 4 ∧ (runningOf u 0).map (fun x => x.job.number) ≠ some k ∧
      (runningOf u 1).map (fun x => x.job.number) ≠ some k ∧ tfind u.pln.waiting n = some j ∧ j.number = k ∧
      n ≤ 1 ∧ (n = 1 → (tfind u.pln.waiting 0).map (fun x => x.number) ≠ some k)) ∧
    (∃ (s u : State) (dt k : Nat) (c : Cmd) (call : Call) (p : Bytes) (known : Bool), u = s.elapse dt ∧
      p = call.payload ∧ k = u32 p 0 ∧ known = u.pln.results.any (fun x => decide (x.job = k ∧ ¬x.withdrawn)) ∧
      Accepted rowJobAbort c u call ∧ p.length = 4 ∧ (runningOf u 0).map (fun x => x.job.number) ≠ some k ∧
      (runningOf u 1).map (fun x => x.job.number) ≠ some k ∧
      (tfind u.pln.waiting 0).map (fun x => x.number) ≠ some k ∧
      (tfind u.pln.waiting 1).map (fun x => x.number) ≠ some k ∧ k ≠ 0 ∧ known = true) ∧
    (∃ (s u : State) (dt k : Nat) (c : Cmd) (call : Call) (p : Bytes) (known : Bool), u = s.elapse dt ∧
      p = call.payload ∧ k = u32 p 0 ∧ known = u.pln.results.any (fun x => decide (x.job = k ∧ ¬x.withdrawn)) ∧
      Accepted rowJobAbort c u call ∧ p.length = 4 ∧ (runningOf u 0).map (fun x => x.job.number) ≠ some k ∧
      (runningOf u 1).map (fun x => x.job.number) ≠ some k ∧
      (tfind u.pln.waiting 0).map (fun x => x.number) ≠ some k ∧
      (tfind u.pln.waiting 1).map (fun x => x.number) ≠ some k ∧ (k = 0 ∨ known = false)) ∧
    (∃ (s u : State) (dt k : Nat) (c : Cmd) (call : Call) (p : Bytes) (y : JobResult) (known : Bool),
      u = s.elapse dt ∧ p = call.payload ∧ k = u32 p 0 ∧ known = u.pln.results.any (fun x => decide (x.job = k ∧
      ¬x.withdrawn)) ∧ Accepted rowJobResult c u call ∧ p.length = 4 ∧ 316 ≤ call.cap ∧ k ≠ 0 ∧
      jobLive u k = false ∧ u.pln.results.find? (fun z => decide (z.job = k ∧ ¬z.withdrawn)) = some y) ∧
    (∃ (s u : State) (dt k : Nat) (c : Cmd) (call : Call) (p : Bytes) (known : Bool), u = s.elapse dt ∧
      p = call.payload ∧ k = u32 p 0 ∧ known = u.pln.results.any (fun x => decide (x.job = k ∧ ¬x.withdrawn)) ∧
      Accepted rowJobResult c u call ∧ p.length = 4 ∧ 316 ≤ call.cap ∧ k ≠ 0 ∧ jobLive u k = true) ∧
    (∃ (s u : State) (dt k : Nat) (c : Cmd) (call : Call) (p : Bytes) (known : Bool), u = s.elapse dt ∧
      p = call.payload ∧ k = u32 p 0 ∧ known = u.pln.results.any (fun x => decide (x.job = k ∧ ¬x.withdrawn)) ∧
      Accepted rowJobResult c u call ∧ p.length = 4 ∧ 316 ≤ call.cap ∧ (k = 0 ∨ jobLive u k = false ∧
      known = false)) ∧
    (∃ (s u : State) (dt k : Nat) (c : Cmd) (call : Call) (p : Bytes) (l : Ledger) (known : Bool),
      u = s.elapse dt ∧ p = call.payload ∧ k = u32 p 0 ∧ known = u.pln.results.any (fun x => decide (x.job = k ∧
      ¬x.withdrawn)) ∧ Accepted rowLedgerRead c u call ∧ p.length = 8 ∧ 1 ≤ u16 p 6 ∧
      32 + u16 p 6 * (if 2 ^ 31 ≤ k then 16 else 8) ≤ call.limit ∧
      32 + u16 p 6 * (if 2 ^ 31 ≤ k then 16 else 8) ≤ call.cap ∧ k ≤ 65535 ∧ u.pln.ledger = some l ∧
      (tfind l.values k).isSome = true ∧ u16 p 4 < l.horizon) ∧
    (∃ (s u : State) (dt k : Nat) (c : Cmd) (call : Call) (p : Bytes) (l : Ledger) (known : Bool),
      u = s.elapse dt ∧ p = call.payload ∧ k = u32 p 0 ∧ known = u.pln.results.any (fun x => decide (x.job = k ∧
      ¬x.withdrawn)) ∧ Accepted rowLedgerRead c u call ∧ p.length = 8 ∧ 1 ≤ u16 p 6 ∧
      32 + u16 p 6 * (if 2 ^ 31 ≤ k then 16 else 8) ≤ call.limit ∧
      32 + u16 p 6 * (if 2 ^ 31 ≤ k then 16 else 8) ≤ call.cap ∧ k ≤ 65535 ∧ u.pln.ledger = some l ∧
      (tfind l.values k).isSome = true ∧ l.horizon ≤ u16 p 4) ∧
    (∃ (s u : State) (dt k : Nat) (c : Cmd) (call : Call) (p : Bytes) (l : Ledger) (known : Bool),
      u = s.elapse dt ∧ p = call.payload ∧ k = u32 p 0 ∧ known = u.pln.results.any (fun x => decide (x.job = k ∧
      ¬x.withdrawn)) ∧ Accepted rowLedgerRead c u call ∧ p.length = 8 ∧ 1 ≤ u16 p 6 ∧
      32 + u16 p 6 * (if 2 ^ 31 ≤ k then 16 else 8) ≤ call.limit ∧
      32 + u16 p 6 * (if 2 ^ 31 ≤ k then 16 else 8) ≤ call.cap ∧ k ≤ 65535 ∧
      (u.pln.ledger = none ∨ u.pln.ledger = some l ∧ tfind l.values k = none)) ∧
    (∃ (s u : State) (dt k : Nat) (c : Cmd) (call : Call) (p : Bytes) (e : Estimate) (known : Bool),
      u = s.elapse dt ∧ p = call.payload ∧ k = u32 p 0 ∧ known = u.pln.results.any (fun x => decide (x.job = k ∧
      ¬x.withdrawn)) ∧ Accepted rowLedgerRead c u call ∧ p.length = 8 ∧ 1 ≤ u16 p 6 ∧
      32 + u16 p 6 * (if 2 ^ 31 ≤ k then 16 else 8) ≤ call.limit ∧
      32 + u16 p 6 * (if 2 ^ 31 ≤ k then 16 else 8) ≤ call.cap ∧ 2 ^ 31 ≤ k ∧ k ≤ 2 ^ 31 + 15 ∧
      u.pln.estimate = some e ∧ (k - 2 ^ 31) * 65536 + u16 p 4 < e.states.length) ∧
    (∃ (s u : State) (dt k : Nat) (c : Cmd) (call : Call) (p : Bytes) (e : Estimate) (known : Bool),
      u = s.elapse dt ∧ p = call.payload ∧ k = u32 p 0 ∧ known = u.pln.results.any (fun x => decide (x.job = k ∧
      ¬x.withdrawn)) ∧ Accepted rowLedgerRead c u call ∧ p.length = 8 ∧ 1 ≤ u16 p 6 ∧
      32 + u16 p 6 * (if 2 ^ 31 ≤ k then 16 else 8) ≤ call.limit ∧
      32 + u16 p 6 * (if 2 ^ 31 ≤ k then 16 else 8) ≤ call.cap ∧ 2 ^ 31 ≤ k ∧ k ≤ 2 ^ 31 + 15 ∧
      u.pln.estimate = some e ∧ e.states.length ≤ (k - 2 ^ 31) * 65536 + u16 p 4) ∧
    (∃ (s u : State) (dt k : Nat) (c : Cmd) (call : Call) (p : Bytes) (known : Bool), u = s.elapse dt ∧
      p = call.payload ∧ k = u32 p 0 ∧ known = u.pln.results.any (fun x => decide (x.job = k ∧ ¬x.withdrawn)) ∧
      Accepted rowLedgerRead c u call ∧ p.length = 8 ∧ 1 ≤ u16 p 6 ∧
      32 + u16 p 6 * (if 2 ^ 31 ≤ k then 16 else 8) ≤ call.limit ∧
      32 + u16 p 6 * (if 2 ^ 31 ≤ k then 16 else 8) ≤ call.cap ∧ 2 ^ 31 ≤ k ∧ k ≤ 2 ^ 31 + 15 ∧
      u.pln.estimate = none) ∧
    (∃ (s u : State) (dt k : Nat) (c : Cmd) (call : Call) (p : Bytes) (known : Bool), u = s.elapse dt ∧
      p = call.payload ∧ k = u32 p 0 ∧ known = u.pln.results.any (fun x => decide (x.job = k ∧ ¬x.withdrawn)) ∧
      Accepted rowLedgerRead c u call ∧ p.length = 8 ∧ 1 ≤ u16 p 6 ∧
      32 + u16 p 6 * (if 2 ^ 31 ≤ k then 16 else 8) ≤ call.limit ∧
      32 + u16 p 6 * (if 2 ^ 31 ≤ k then 16 else 8) ≤ call.cap ∧ 65535 < k ∧ (k < 2 ^ 31 ∨ 2 ^ 31 + 15 < k)) ∧
    (∃ (s u : State) (dt k : Nat) (c : Cmd) (call : Call) (p : Bytes) (known : Bool), u = s.elapse dt ∧
      p = call.payload ∧ k = u32 p 0 ∧ known = u.pln.results.any (fun x => decide (x.job = k ∧ ¬x.withdrawn)) ∧
      Accepted rowLedgerRead c u call ∧ p.length = 8 ∧
      (u16 p 6 = 0 ∨ call.limit < 32 + u16 p 6 * (if 2 ^ 31 ≤ k then 16 else 8))) ∧
    (∃ (s u : State) (dt : Nat) (second : Bool) (l : Ledger), u = s.elapse dt ∧ u.pln.writing = some (second, l)) ∧
    (∃ (s u : State) (dt : Nat), u = s.elapse dt ∧ u.pln.writing = none) ∧
    (∃ (s u : State) (dt : Nat) (i : Instr), u = s.elapse dt ∧
      (i = .transientHoldRaise dt ∨ i = .transientHoldEnd dt) ∧ u.pln.hold = none ∧ (holdNow u).isSome = true) ∧
    (∃ (s u : State) (dt : Nat) (i : Instr), u = s.elapse dt ∧
      (i = .transientHoldRaise dt ∨ i = .transientHoldEnd dt) ∧ (u.pln.hold ≠ none ∨ holdNow u = none)) :=
  ⟨⟨{ demo .hold with courses := [(0, { resident := some ⟨0, []⟩ })], slv := { running := [(1, { job := ⟨1, false, .run, none, 0⟩, record := defaultRecord false, phase := 8, d := some 0, ended := some stIterLimit })] } },
    _, 0, 1, _, seen [], _, _, _,
    { job := ⟨1, false, .run, none, 0⟩, record := defaultRecord false, phase := 8, d := some 0, ended := some stIterLimit },
    stIterLimit, _, rfl, rfl, rfl, rfl, by decide +kernel, by decide +kernel, rfl, rfl⟩,
    ⟨demo .hold, _, 0, 1, _, seen [], _,
      { job := ⟨1, false, .run, none, 0⟩, record := defaultRecord false, phase := 3, d := some 0, ended := none },
      _, rfl, rfl, rfl, rfl, by decide +kernel⟩,
    ⟨{ demo .hold with courses := [(0, { resident := some ⟨0, []⟩ })], slv := { running := [(1, { job := ⟨1, false, .run, none, 0⟩, record := defaultRecord false, phase := 3, d := some 0, ended := none })] } },
      _, 0, 1, _, ask [1, 0, 0, 0], seen [1, 0, 0, 0], _,
      { job := ⟨1, false, .run, none, 0⟩, record := defaultRecord false, phase := 3, d := some 0, ended := none },
      _, rfl, rfl, rfl, rfl, ⟨by decide +kernel, rfl⟩, by decide +kernel⟩,
    ⟨{ demo .hold with courses := [(0, { resident := some ⟨0, []⟩ })], slv := { running := [(1, { job := ⟨1, false, .run, none, 0⟩, record := defaultRecord false, phase := 1, d := some 0, ended := none })] } },
      _, 0, 1, _, ask [1, 0, 0, 0], seen [1, 0, 0, 0], _,
      { job := ⟨1, false, .run, none, 0⟩, record := defaultRecord false, phase := 1, d := some 0, ended := none },
      _, rfl, rfl, rfl, rfl, ⟨by decide +kernel, rfl⟩, by decide +kernel⟩,
    ⟨{ demo .hold with courses := [(0, { resident := some ⟨0, []⟩ })], slv := { running := [(1, { job := ⟨1, false, .run, none, 0⟩, record := defaultRecord false, phase := 8, d := some 0, ended := some stIterLimit })] } },
      _, 0, 1, _, ask [1, 0, 0, 0], seen [1, 0, 0, 0], _,
      { job := ⟨1, false, .run, none, 0⟩, record := defaultRecord false, phase := 8, d := some 0, ended := some stIterLimit },
      _, rfl, rfl, rfl, rfl, ⟨by decide +kernel, rfl⟩, by decide +kernel⟩,
    ⟨{ demo .steer with pln := { waiting := [(1, ⟨1, true, .run, none, 0⟩)] } }, _, 0, 1, _, ask [1, 0, 0, 0],
      seen [1, 0, 0, 0], _, ⟨1, true, .run, none, 0⟩, _, rfl, rfl, rfl, rfl, ⟨by decide +kernel, rfl⟩,
      by decide +kernel⟩,
    ⟨{ demo .steer with pln := { results := [demoResult] } }, _, 0, _, ask [1, 0, 0, 0], seen [1, 0, 0, 0], _, _,
      rfl, rfl, rfl, rfl, ⟨by decide +kernel, rfl⟩, by decide +kernel, by decide +kernel, by decide +kernel,
      by decide +kernel, by decide +kernel, by decide +kernel, rfl⟩,
    ⟨demo .steer, _, 0, _, ask [1, 0, 0, 0], seen [1, 0, 0, 0], _, _, rfl, rfl, rfl, rfl, ⟨by decide +kernel, rfl⟩,
      by decide +kernel⟩,
    ⟨{ demo .steer with pln := { results := [demoResult] } }, _, 0, _, ask [1, 0, 0, 0], seen [1, 0, 0, 0], _,
      demoResult, _, rfl, rfl, rfl, rfl, ⟨by decide +kernel, rfl⟩, by decide +kernel⟩,
    ⟨{ demo .hold with courses := [(0, { resident := some ⟨0, []⟩ })], slv := { running := [(1, { job := ⟨1, false, .run, none, 0⟩, record := defaultRecord false, phase := 3, d := some 0, ended := none })] } },
      _, 0, _, ask [1, 0, 0, 0], seen [1, 0, 0, 0], _, _, rfl, rfl, rfl, rfl, ⟨by decide +kernel, rfl⟩,
      by decide +kernel⟩,
    ⟨demo .steer, _, 0, _, ask [0, 0, 0, 0], seen [0, 0, 0, 0], _, _, rfl, rfl, rfl, rfl, ⟨by decide +kernel, rfl⟩,
      by decide +kernel⟩,
    ⟨{ demo .steer with pln := { ledger := some demoLedger } }, _, 0, _, ask (le32 65535 ++ le16 0 ++ le16 1),
      seen (le32 65535 ++ le16 0 ++ le16 1), _, demoLedger, _, rfl, rfl, rfl, rfl, ⟨by decide +kernel, rfl⟩,
      by decide +kernel⟩,
    ⟨{ demo .steer with pln := { ledger := some demoLedger } }, _, 0, _, ask (le32 65535 ++ le16 1 ++ le16 1),
      seen (le32 65535 ++ le16 1 ++ le16 1), _, demoLedger, _, rfl, rfl, rfl, rfl, ⟨by decide +kernel, rfl⟩,
      by decide +kernel⟩,
    ⟨demo .steer, _, 0, _, ask (le32 65535 ++ le16 0 ++ le16 1), seen (le32 65535 ++ le16 0 ++ le16 1), _,
      demoLedger, _, rfl, rfl, rfl, rfl, ⟨by decide +kernel, rfl⟩, by decide +kernel⟩,
    ⟨{ demo .steer with pln := { estimate := some { demoEstimate with states := [(0, 1)] } } }, _, 0, _,
      ask (le32 0x80000000 ++ le16 0 ++ le16 1), seen (le32 0x80000000 ++ le16 0 ++ le16 1), _,
      { demoEstimate with states := [(0, 1)] }, _, rfl, rfl, rfl, rfl, ⟨by decide +kernel, rfl⟩, by decide +kernel⟩,
    ⟨{ demo .steer with pln := { estimate := some { demoEstimate with states := [(0, 1)] } } }, _, 0, _,
      ask (le32 0x80000000 ++ le16 1 ++ le16 1), seen (le32 0x80000000 ++ le16 1 ++ le16 1), _,
      { demoEstimate with states := [(0, 1)] }, _, rfl, rfl, rfl, rfl, ⟨by decide +kernel, rfl⟩, by decide +kernel⟩,
    ⟨demo .steer, _, 0, _, ask (le32 0x80000000 ++ le16 0 ++ le16 1), seen (le32 0x80000000 ++ le16 0 ++ le16 1),
      _, _, rfl, rfl, rfl, rfl, ⟨by decide +kernel, rfl⟩, by decide +kernel⟩,
    ⟨demo .steer, _, 0, _, ask (le32 65536 ++ le16 0 ++ le16 1), seen (le32 65536 ++ le16 0 ++ le16 1), _, _, rfl,
      rfl, rfl, rfl, ⟨by decide +kernel, rfl⟩, by decide +kernel⟩,
    ⟨demo .steer, _, 0, _, ask (le32 65535 ++ zeros 4), seen (le32 65535 ++ zeros 4), _, _, rfl, rfl, rfl, rfl,
      ⟨by decide +kernel, rfl⟩, by decide +kernel⟩,
    ⟨{ demo .steer with pln := { writing := some (true, demoLedger) } }, _, 0, true, demoLedger, rfl,
      by decide +kernel⟩,
    ⟨demo .steer, _, 0, rfl, by decide +kernel⟩,
    ⟨{ demo .steer with pln := { ledger := some demoLedger, effectP := defaultRecord true } }, _, 0,
      .transientHoldRaise 0, rfl, by decide +kernel⟩,
    ⟨{ demo .steer with pln := { hold := some 5 } }, _, 0, .transientHoldEnd 0, rfl, by decide +kernel⟩⟩

/-- States and operands that meet the hypotheses of LoopsAreCommanded, clause by clause. -/
theorem witness_LoopsAreCommanded :
    (∃ (s u : State) (dt k on : Nat) (c : Cmd) (call : Call) (p r : Bytes) (x : Slot), u = s.elapse dt ∧
      p = call.payload ∧ r = p.drop 4 ∧ x = slotState u k ∧ on = u16 p 2 ∧ Accepted rowLoopSet c u call ∧
      p.length = 100 ∧ k = u16 p 0 ∧ k ≤ 1023 ∧ on = 0 ∧ slotRecordOk k r = true ∧ roomFor u (slotPoints k) = true) ∧
    (∃ (s u : State) (dt k on : Nat) (c : Cmd) (call : Call) (p r : Bytes) (x : Slot), u = s.elapse dt ∧
      p = call.payload ∧ r = p.drop 4 ∧ x = slotState u k ∧ on = u16 p 2 ∧ Accepted rowLoopSet c u call ∧
      p.length = 100 ∧ k = u16 p 0 ∧ k ≤ 1023 ∧ on = 0 ∧ slotRecordOk k r = true ∧
      roomFor u (slotPoints k) = false) ∧
    (∃ (s u : State) (dt k on : Nat) (c : Cmd) (call : Call) (p r : Bytes) (x : Slot), u = s.elapse dt ∧
      p = call.payload ∧ r = p.drop 4 ∧ x = slotState u k ∧ on = u16 p 2 ∧ Accepted rowLoopSet c u call ∧
      p.length = 100 ∧ k = u16 p 0 ∧ (1023 < k ∨ on ≠ 0 ∨ slotRecordOk k r = false)) ∧
    (∃ (s u : State) (dt k on : Nat) (c : Cmd) (call : Call) (p r : Bytes) (x : Slot) (g : _), u = s.elapse dt ∧
      p = call.payload ∧ r = p.drop 4 ∧ x = slotState u k ∧ on = u16 p 2 ∧ Accepted rowLoopGainSet c u call ∧
      p.length = 516 ∧ k = u16 p 0 ∧ g = (rowsOf p 4 8 64).map (fun b => (w32 b 0, w32 b 4)) ∧ k ≤ 1023 ∧ on = 0 ∧
      tableOkay g = true) ∧
    (∃ (s u : State) (dt k on : Nat) (c : Cmd) (call : Call) (p r : Bytes) (x : Slot) (g : _), u = s.elapse dt ∧
      p = call.payload ∧ r = p.drop 4 ∧ x = slotState u k ∧ on = u16 p 2 ∧ Accepted rowLoopGainSet c u call ∧
      p.length = 516 ∧ k = u16 p 0 ∧ g = (rowsOf p 4 8 64).map (fun b => (w32 b 0, w32 b 4)) ∧
      (1023 < k ∨ on ≠ 0 ∨ tableOkay g = false)) ∧
    (∃ (s u : State) (dt k on : Nat) (c : Cmd) (call : Call) (p r : Bytes) (x : Slot), u = s.elapse dt ∧
      p = call.payload ∧ r = p.drop 4 ∧ x = slotState u k ∧ on = u16 p 2 ∧ Accepted rowLoopRead c u call ∧
      p.length = 4 ∧ 20 ≤ call.cap ∧ k = u16 p 0 ∧ k ≤ 1023 ∧ on = 0 ∧ hasRecord x = true) ∧
    (∃ (s u : State) (dt k on : Nat) (c : Cmd) (call : Call) (p r : Bytes) (x : Slot), u = s.elapse dt ∧
      p = call.payload ∧ r = p.drop 4 ∧ x = slotState u k ∧ on = u16 p 2 ∧ Accepted rowLoopRead c u call ∧
      p.length = 4 ∧ 20 ≤ call.cap ∧ k = u16 p 0 ∧ k ≤ 1023 ∧ on = 0 ∧ hasRecord x = false) ∧
    (∃ (s u : State) (dt k on : Nat) (c : Cmd) (call : Call) (p r : Bytes) (x : Slot), u = s.elapse dt ∧
      p = call.payload ∧ r = p.drop 4 ∧ x = slotState u k ∧ on = u16 p 2 ∧ Accepted rowLoopRead c u call ∧
      p.length = 4 ∧ 20 ≤ call.cap ∧ k = u16 p 0 ∧ (1023 < k ∨ on ≠ 0)) ∧
    (∃ (s u : State) (dt k on : Nat) (c : Cmd) (call : Call) (p r : Bytes) (x : Slot), u = s.elapse dt ∧
      p = call.payload ∧ r = p.drop 4 ∧ x = slotState u k ∧ on = u16 p 2 ∧ Accepted rowLoopEnable c u call ∧
      p.length = 4 ∧ k = u16 p 0 ∧ k ≤ 1023 ∧ hasRecord x = true ∧ on = 1 ∧ expressUnnamed u k = false ∧
      x.enabled = false) ∧
    (∃ (s u : State) (dt k on : Nat) (c : Cmd) (call : Call) (p r : Bytes) (x : Slot), u = s.elapse dt ∧
      p = call.payload ∧ r = p.drop 4 ∧ x = slotState u k ∧ on = u16 p 2 ∧ Accepted rowLoopEnable c u call ∧
      p.length = 4 ∧ k = u16 p 0 ∧ k ≤ 1023 ∧ hasRecord x = true ∧ on = 1 ∧ expressUnnamed u k = false ∧
      x.enabled = true ∧ latchedError x = true) ∧
    (∃ (s u : State) (dt k on : Nat) (c : Cmd) (call : Call) (p r : Bytes) (x : Slot), u = s.elapse dt ∧
      p = call.payload ∧ r = p.drop 4 ∧ x = slotState u k ∧ on = u16 p 2 ∧ Accepted rowLoopEnable c u call ∧
      p.length = 4 ∧ k = u16 p 0 ∧ k ≤ 1023 ∧ hasRecord x = true ∧ on = 1 ∧ expressUnnamed u k = false ∧
      x.enabled = true ∧ latchedError x = false) ∧
    (∃ (s u : State) (dt k on : Nat) (c : Cmd) (call : Call) (p r : Bytes) (x : Slot), u = s.elapse dt ∧
      p = call.payload ∧ r = p.drop 4 ∧ x = slotState u k ∧ on = u16 p 2 ∧ Accepted rowLoopEnable c u call ∧
      p.length = 4 ∧ k = u16 p 0 ∧ k ≤ 1023 ∧ hasRecord x = true ∧ on = 1 ∧ expressUnnamed u k = true) ∧
    (∃ (s u : State) (dt k on : Nat) (c : Cmd) (call : Call) (p r : Bytes) (x : Slot), u = s.elapse dt ∧
      p = call.payload ∧ r = p.drop 4 ∧ x = slotState u k ∧ on = u16 p 2 ∧ Accepted rowLoopEnable c u call ∧
      p.length = 4 ∧ k = u16 p 0 ∧ k ≤ 1023 ∧ hasRecord x = true ∧ on = 0) ∧
    (∃ (s u : State) (dt k on : Nat) (c : Cmd) (call : Call) (p r : Bytes) (x : Slot), u = s.elapse dt ∧
      p = call.payload ∧ r = p.drop 4 ∧ x = slotState u k ∧ on = u16 p 2 ∧ Accepted rowLoopEnable c u call ∧
      p.length = 4 ∧ k = u16 p 0 ∧ k ≤ 1023 ∧ on ≤ 1 ∧ hasRecord x = false) ∧
    (∃ (s u : State) (dt k on : Nat) (c : Cmd) (call : Call) (p r : Bytes) (x : Slot), u = s.elapse dt ∧
      p = call.payload ∧ r = p.drop 4 ∧ x = slotState u k ∧ on = u16 p 2 ∧ Accepted rowLoopEnable c u call ∧
      p.length = 4 ∧ k = u16 p 0 ∧ (1023 < k ∨ 1 < on)) ∧
    (∃ (s u : State) (dt k on : Nat) (c : Cmd) (call : Call) (p r : Bytes) (x : Slot), u = s.elapse dt ∧
      p = call.payload ∧ r = p.drop 4 ∧ x = slotState u k ∧ on = u16 p 2 ∧ Accepted rowTraceArm c u call ∧
      p.length = 20 ∧ k = u8 p 0 ∧ k ≤ 7 ∧ slice p 1 3 = zeros 3 ∧ traceElsewhere u k call.sid = none ∧
      u16 r 0 ≤ 1023 ∧ u8 r 2 ≤ 4 ∧ u8 r 3 ≤ 5 ∧ sfinite (w32 r 8) = true ∧ u32 r 12 = 0) ∧
    (∃ (s u : State) (dt k on : Nat) (c : Cmd) (call : Call) (p r : Bytes) (x : Slot), u = s.elapse dt ∧
      p = call.payload ∧ r = p.drop 4 ∧ x = slotState u k ∧ on = u16 p 2 ∧ Accepted rowTraceArm c u call ∧
      p.length = 20 ∧ k = u8 p 0 ∧ k ≤ 7 ∧ slice p 1 3 = zeros 3 ∧ traceElsewhere u k call.sid = none ∧
      (1023 < u16 r 0 ∨ 4 < u8 r 2 ∨ 5 < u8 r 3 ∨ sfinite (w32 r 8) = false ∨ u32 r 12 ≠ 0)) ∧
    (∃ (s u : State) (dt k on : Nat) (c : Cmd) (call : Call) (p r : Bytes) (x : Slot) (h : Word), u = s.elapse dt ∧
      p = call.payload ∧ r = p.drop 4 ∧ x = slotState u k ∧ on = u16 p 2 ∧ Accepted rowTraceArm c u call ∧
      p.length = 20 ∧ k = u8 p 0 ∧ k ≤ 7 ∧ slice p 1 3 = zeros 3 ∧ traceElsewhere u k call.sid = some h) ∧
    (∃ (s u : State) (dt k on : Nat) (c : Cmd) (call : Call) (p r : Bytes) (x : Slot), u = s.elapse dt ∧
      p = call.payload ∧ r = p.drop 4 ∧ x = slotState u k ∧ on = u16 p 2 ∧ Accepted rowTraceArm c u call ∧
      p.length = 20 ∧ k = u8 p 0 ∧ (7 < k ∨ slice p 1 3 ≠ zeros 3)) ∧
    (∃ (s u : State) (dt k on : Nat) (c : Cmd) (call : Call) (p r : Bytes) (x : Slot) (y : Trace),
      u = s.elapse dt ∧ p = call.payload ∧ r = p.drop 4 ∧ x = slotState u k ∧ on = u16 p 2 ∧
      Accepted rowTraceRead c u call ∧ p.length = 8 ∧ k = u8 p 0 ∧ 1 ≤ on ∧ 8 + 4 * on ≤ call.limit ∧
      8 + 4 * on ≤ call.cap ∧ k ≤ 7 ∧ u8 p 1 = 0 ∧ u32 p 4 ≤ 65535 ∧ tfind u.lpe.traces k = some y ∧ y.state = 3) ∧
    (∃ (s u : State) (dt k on : Nat) (c : Cmd) (call : Call) (p r : Bytes) (x : Slot) (y : Trace),
      u = s.elapse dt ∧ p = call.payload ∧ r = p.drop 4 ∧ x = slotState u k ∧ on = u16 p 2 ∧
      Accepted rowTraceRead c u call ∧ p.length = 8 ∧ k = u8 p 0 ∧ 1 ≤ on ∧ 8 + 4 * on ≤ call.limit ∧
      8 + 4 * on ≤ call.cap ∧ k ≤ 7 ∧ u8 p 1 = 0 ∧ u32 p 4 ≤ 65535 ∧
      (tfind u.lpe.traces k = none ∨ tfind u.lpe.traces k = some y ∧ y.state ≠ 3)) ∧
    (∃ (s u : State) (dt k on : Nat) (c : Cmd) (call : Call) (p r : Bytes) (x : Slot), u = s.elapse dt ∧
      p = call.payload ∧ r = p.drop 4 ∧ x = slotState u k ∧ on = u16 p 2 ∧ Accepted rowTraceRead c u call ∧
      p.length = 8 ∧ k = u8 p 0 ∧ 1 ≤ on ∧ 8 + 4 * on ≤ call.limit ∧ 8 + 4 * on ≤ call.cap ∧
      (7 < k ∨ u8 p 1 ≠ 0 ∨ 65535 < u32 p 4)) ∧
    (∃ (s u : State) (dt k on : Nat) (c : Cmd) (call : Call) (p r : Bytes) (x : Slot), u = s.elapse dt ∧
      p = call.payload ∧ r = p.drop 4 ∧ x = slotState u k ∧ on = u16 p 2 ∧ Accepted rowTraceRead c u call ∧
      p.length = 8 ∧ k = u8 p 0 ∧ (on = 0 ∨ call.limit < 8 + 4 * on)) :=
  ⟨⟨demoLoop .service true false, _, 0, _, _, ask ([0xFF, 3, 0, 0] ++ pidRecord),
    seen ([0xFF, 3, 0, 0] ++ pidRecord), _, _, _, rfl, rfl, rfl, rfl, rfl, ⟨by decide +kernel, rfl⟩,
    by decide +kernel, rfl, by decide +kernel, rfl, by decide +kernel⟩,
    ⟨demoFull .service, _, 0, _, _, ask ([0xFF, 3, 0, 0] ++ pidRecord), seen ([0xFF, 3, 0, 0] ++ pidRecord), _, _,
      _, rfl, rfl, rfl, rfl, rfl, ⟨by decide +kernel, rfl⟩, by decide +kernel, rfl, by decide +kernel, rfl,
      by decide +kernel, demoFull_room .service _ (by decide +kernel)⟩,
    ⟨demo .service, _, 0, _, _, ask ([0xFF, 3, 1, 0] ++ pidRecord), seen ([0xFF, 3, 1, 0] ++ pidRecord), _, _, _,
      rfl, rfl, rfl, rfl, rfl, ⟨by decide +kernel, rfl⟩, by decide +kernel, rfl, by decide +kernel⟩,
    ⟨demo .hold, _, 0, _, _, ask ([0xFF, 3, 0, 0] ++ zeros 512), seen ([0xFF, 3, 0, 0] ++ zeros 512), _, _, _, _,
      rfl, rfl, rfl, rfl, rfl, ⟨by decide +kernel, rfl⟩, by decide +kernel, rfl, rfl, by decide +kernel, rfl,
      by decide +kernel⟩,
    ⟨demo .hold, _, 0, _, _, ask ([0, 4, 0, 0] ++ zeros 512), seen ([0, 4, 0, 0] ++ zeros 512), _, _, _, _, rfl,
      rfl, rfl, rfl, rfl, ⟨by decide +kernel, rfl⟩, by decide +kernel, rfl, rfl, by decide +kernel⟩,
    ⟨demoLoop .hold false false, _, 0, _, _, ask [0xFF, 3, 0, 0], seen [0xFF, 3, 0, 0], _, _, _, rfl, rfl, rfl,
      rfl, rfl, ⟨by decide +kernel, rfl⟩, by decide +kernel, by decide +kernel, rfl, by decide +kernel, rfl,
      by decide +kernel⟩,
    ⟨demo .hold, _, 0, _, _, ask [0xFF, 3, 0, 0], seen [0xFF, 3, 0, 0], _, _, _, rfl, rfl, rfl, rfl, rfl,
      ⟨by decide +kernel, rfl⟩, by decide +kernel, by decide +kernel, rfl, by decide +kernel, rfl,
      by decide +kernel⟩,
    ⟨demo .hold, _, 0, _, _, ask [0, 4, 0, 0], seen [0, 4, 0, 0], _, _, _, rfl, rfl, rfl, rfl, rfl,
      ⟨by decide +kernel, rfl⟩, by decide +kernel, by decide +kernel, rfl, by decide +kernel⟩,
    ⟨demoLoop .hold false false, _, 0, _, _, ask [0xFF, 3, 1, 0], seen [0xFF, 3, 1, 0], _, _, _, rfl, rfl, rfl,
      rfl, rfl, ⟨by decide +kernel, rfl⟩, by decide +kernel, rfl, by decide +kernel, by decide +kernel, rfl,
      by decide +kernel⟩,
    ⟨{ demoLoop .hold true true with lpe := { running := true, slots := [(1023, { record := (pidRecord.set 19 1), enabled := true, fe := true })] } },
      _, 0, _, _, ask [0xFF, 3, 1, 0], seen [0xFF, 3, 1, 0], _, _, _, rfl, rfl, rfl, rfl, rfl, ⟨by decide +kernel,
      rfl⟩, by decide +kernel, rfl, by decide +kernel, by decide +kernel, rfl, by decide +kernel⟩,
    ⟨demoLoop .hold true true, _, 0, _, _, ask [0xFF, 3, 1, 0], seen [0xFF, 3, 1, 0], _, _, _, rfl, rfl, rfl, rfl,
      rfl, ⟨by decide +kernel, rfl⟩, by decide +kernel, rfl, by decide +kernel, by decide +kernel, rfl,
      by decide +kernel⟩,
    ⟨{ demoLoop .hold false false with lpe := { running := true, slots := [(1023, { record := (pidRecord.set 3 2) })] } },
      _, 0, _, _, ask [0xFF, 3, 1, 0], seen [0xFF, 3, 1, 0], _, _, _, rfl, rfl, rfl, rfl, rfl, ⟨by decide +kernel,
      rfl⟩, by decide +kernel, rfl, by decide +kernel, by decide +kernel, rfl, by decide +kernel⟩,
    ⟨demoLoop .hold true true, _, 0, _, _, ask [0xFF, 3, 0, 0], seen [0xFF, 3, 0, 0], _, _, _, rfl, rfl, rfl, rfl,
      rfl, ⟨by decide +kernel, rfl⟩, by decide +kernel, rfl, by decide +kernel, by decide +kernel, rfl⟩,
    ⟨demo .hold, _, 0, _, _, ask [0xFF, 3, 1, 0], seen [0xFF, 3, 1, 0], _, _, _, rfl, rfl, rfl, rfl, rfl,
      ⟨by decide +kernel, rfl⟩, by decide +kernel, rfl, by decide +kernel⟩,
    ⟨demo .hold, _, 0, _, _, ask [0, 4, 1, 0], seen [0, 4, 1, 0], _, _, _, rfl, rfl, rfl, rfl, rfl,
      ⟨by decide +kernel, rfl⟩, by decide +kernel, rfl, by decide +kernel⟩,
    ⟨demoLoop .hold true true, _, 0, _, _, ask ([7, 0, 0, 0] ++ le16 1023 ++ [4, 5] ++ zeros 12),
      seen ([7, 0, 0, 0] ++ le16 1023 ++ [4, 5] ++ zeros 12), _, _, _, rfl, rfl, rfl, rfl, rfl, ⟨by decide +kernel,
      rfl⟩, by decide +kernel, rfl, by decide +kernel⟩,
    ⟨demoLoop .hold true true, _, 0, _, _, ask ([7, 0, 0, 0] ++ le16 1024 ++ [4, 5] ++ zeros 12),
      seen ([7, 0, 0, 0] ++ le16 1024 ++ [4, 5] ++ zeros 12), _, _, _, rfl, rfl, rfl, rfl, rfl, ⟨by decide +kernel,
      rfl⟩, by decide +kernel, rfl, by decide +kernel⟩,
    ⟨{ demoLoop .hold true true with lpe := { running := true, traces := [(7, { state := 1, holder := 9 })] } }, _,
      0, _, _, ask ([7, 0, 0, 0] ++ le16 1023 ++ [4, 5] ++ zeros 12),
      seen ([7, 0, 0, 0] ++ le16 1023 ++ [4, 5] ++ zeros 12), _, _, _, 9, rfl, rfl, rfl, rfl, rfl,
      ⟨by decide +kernel, rfl⟩, by decide +kernel, rfl, by decide +kernel⟩,
    ⟨demo .hold, _, 0, _, _, ask ([8, 0, 0, 0] ++ le16 1023 ++ [4, 5] ++ zeros 12),
      seen ([8, 0, 0, 0] ++ le16 1023 ++ [4, 5] ++ zeros 12), _, _, _, rfl, rfl, rfl, rfl, rfl, ⟨by decide +kernel,
      rfl⟩, by decide +kernel, rfl, by decide +kernel⟩,
    ⟨demoLoop .hold true true, _, 0, _, _, ask ([7, 0, 1, 0] ++ le32 0), seen ([7, 0, 1, 0] ++ le32 0), _, _, _,
      { state := 3, samples := [1] }, rfl, rfl, rfl, rfl, rfl, ⟨by decide +kernel, rfl⟩, by decide +kernel, rfl,
      by decide +kernel⟩,
    ⟨demo .hold, _, 0, _, _, ask ([7, 0, 1, 0] ++ le32 0), seen ([7, 0, 1, 0] ++ le32 0), _, _, _,
      { state := 3, samples := [1] }, rfl, rfl, rfl, rfl, rfl, ⟨by decide +kernel, rfl⟩, by decide +kernel, rfl,
      by decide +kernel⟩,
    ⟨demo .hold, _, 0, _, _, ask ([8, 0, 1, 0] ++ le32 0), seen ([8, 0, 1, 0] ++ le32 0), _, _, _, rfl, rfl, rfl,
      rfl, rfl, ⟨by decide +kernel, rfl⟩, by decide +kernel, rfl, by decide +kernel⟩,
    ⟨demo .hold, _, 0, _, _, ask ([7, 0, 0, 0] ++ le32 0), seen ([7, 0, 0, 0] ++ le32 0), _, _, _, rfl, rfl, rfl,
      rfl, rfl, ⟨by decide +kernel, rfl⟩, by decide +kernel, rfl, by decide +kernel⟩⟩

/-- States and operands that meet the hypotheses of LoopsAreEvaluated, clause by clause. -/
theorem witness_LoopsAreEvaluated :
    (∃ (s u b v w : State) (dt k t0 : Nat) (r : Bytes) (f : State × Word × Word × Bool), u = s.elapse dt ∧
      slotDue u k = true ∧ b = applyAll evaluateSlot (dueBefore u k) u ∧ v = takeRecord k b ∧
      r = (slotState v k).record ∧ t0 = sampleInstantOf r (now v) ∧ f = formSetpoint k (tsNs (servoAt v t0)) v ∧
      w = modSlot k (fun z => { z with instant := some t0 }) f.1 ∧ lrFbSrc r = 2 ∧ expressChannel w k = none) ∧
    (∃ (s u b v w : State) (dt k n t0 : Nat) (r : Bytes) (f : State × Word × Word × Bool), u = s.elapse dt ∧
      slotDue u k = true ∧ b = applyAll evaluateSlot (dueBefore u k) u ∧ v = takeRecord k b ∧
      r = (slotState v k).record ∧ t0 = sampleInstantOf r (now v) ∧ f = formSetpoint k (tsNs (servoAt v t0)) v ∧
      w = modSlot k (fun z => { z with instant := some t0 }) f.1 ∧ lrFbSrc r = 2 ∧ expressChannel w k = some n ∧
      w.adc.running = true ∧ pd w 2 = true) ∧
    (∃ (s u b v w : State) (dt k n t0 : Nat) (r : Bytes) (f : State × Word × Word × Bool), u = s.elapse dt ∧
      slotDue u k = true ∧ b = applyAll evaluateSlot (dueBefore u k) u ∧ v = takeRecord k b ∧
      r = (slotState v k).record ∧ t0 = sampleInstantOf r (now v) ∧ f = formSetpoint k (tsNs (servoAt v t0)) v ∧
      w = modSlot k (fun z => { z with instant := some t0 }) f.1 ∧ lrFbSrc r = 2 ∧ expressChannel w k = some n ∧
      (w.adc.running = false ∨ pd w 2 = false)) ∧
    (∃ (s u b v w : State) (dt k j code t0 bad : Nat) (r : Bytes) (f : State × Word × Word × Bool) (cmp : Comparators) (q : Urgent) (y : Sample) (src bk : Source) (sp ff val fb : Word) (held ex lost froz rec first : Bool) (x : Slot) (act : Option Bool) (tr keep : Option Word) (latch pol : Nat) (i : Instr),
      u = s.elapse dt ∧ (i = .loopEvaluation dt k ∧ slotDue u k = true ∧
      b = applyAll evaluateSlot (dueBefore u k) u ∧ v = takeRecord k b ∧
      t0 = sampleInstantOf (slotState v k).record (now v) ∧ f = formSetpoint k (tsNs (servoAt v t0)) v ∧
      w = modSlot k (fun z => { z with instant := some t0 }) f.1 ∧ lrFbSrc (slotState v k).record ≠ 2 ∧
      sp = f.2.1 ∧ ff = f.2.2.1 ∧ ex = false ∧ r = (slotState w k).record ∧
      src = readSource w r (lrFbSrc r) (lrFbRef r) t0 ∨ i = .urgentConversionDone dt j code cmp ∧
      urgentHead u j = some q ∧ k = q.slot ∧ v = urgentStore j q code cmp u ∧ (slotState v k).express = some (sp,
      ff, held, t0) ∧ tfind v.adc.samples q.channel = some y ∧ loopsRun v = true ∧ (slotState v k).enabled = true ∧
      w = modSlot k (fun z => { z with express := none }) v ∧ ex = true ∧ r = (slotState w k).record ∧
      src = sampleSource (ageLimit r) t0 y) ∧ x = slotState w k ∧ lost = src.lost ∧
      froz = (isFrozen r (freezeNext src x.primary) && !lost) ∧ rec = decide (lost = false ∧ froz = false ∧
      x.acting ≠ none ∧ lrRecoverN r ≤ x.good + 1) ∧
      act = (if lost then some true else if froz then some false else if rec then none else x.acting) ∧
      first = (ex && act.isSome && decide (x.acting ≠ act)) ∧ latch = (if x.fe then lrFeAction r else 0) ∧
      pol = (if act = some true then lrLostPol r else lrFrozenPol r) ∧
      bk = readSource w r (lrBkSrc r) (lrBkRef r) t0 ∧
      bad = bit (decide (lrBkSrc r = 0xFF) || (x.backupGone && decide (x.acting = act)) || bk.lost || isFrozen r (freezeNext bk x.backup)) ∧
      tr = (primaryOutput w k).bind (fun o => if 2 ≤ rowOf w o ∧ rowOf w o ≤ 5 then outputInForce w k else none) ∧
      first = false ∧ latch ≠ 1 ∧ latch ≠ 2 ∧ (act = none ∧ fb = src.y ∧ keep = (if x.resume = none ∧
      rec = true then some x.u else x.resume) ∨ act ≠ none ∧ pol = 2 ∧ bad = 0 ∧ fb = bk.y ∧
      keep = (if x.onBackup = true ∧ x.acting = act then x.resume else some (x.resume.getD x.u))) ∧
      val = keep.getD (limited r x.u (lawOf x sp ff fb).u0)) ∧
    (∃ (s u b v w : State) (dt k j code t0 bad : Nat) (r : Bytes) (f : State × Word × Word × Bool) (cmp : Comparators) (q : Urgent) (y : Sample) (src bk : Source) (sp ff : Word) (held ex lost froz rec first : Bool) (x : Slot) (act : Option Bool) (tr : Option Word) (latch pol : Nat) (i : Instr),
      u = s.elapse dt ∧ (i = .loopEvaluation dt k ∧ slotDue u k = true ∧
      b = applyAll evaluateSlot (dueBefore u k) u ∧ v = takeRecord k b ∧
      t0 = sampleInstantOf (slotState v k).record (now v) ∧ f = formSetpoint k (tsNs (servoAt v t0)) v ∧
      w = modSlot k (fun z => { z with instant := some t0 }) f.1 ∧ lrFbSrc (slotState v k).record ≠ 2 ∧
      sp = f.2.1 ∧ ff = f.2.2.1 ∧ ex = false ∧ r = (slotState w k).record ∧
      src = readSource w r (lrFbSrc r) (lrFbRef r) t0 ∨ i = .urgentConversionDone dt j code cmp ∧
      urgentHead u j = some q ∧ k = q.slot ∧ v = urgentStore j q code cmp u ∧ (slotState v k).express = some (sp,
      ff, held, t0) ∧ tfind v.adc.samples q.channel = some y ∧ loopsRun v = true ∧ (slotState v k).enabled = true ∧
      w = modSlot k (fun z => { z with express := none }) v ∧ ex = true ∧ r = (slotState w k).record ∧
      src = sampleSource (ageLimit r) t0 y) ∧ x = slotState w k ∧ lost = src.lost ∧
      froz = (isFrozen r (freezeNext src x.primary) && !lost) ∧ rec = decide (lost = false ∧ froz = false ∧
      x.acting ≠ none ∧ lrRecoverN r ≤ x.good + 1) ∧
      act = (if lost then some true else if froz then some false else if rec then none else x.acting) ∧
      first = (ex && act.isSome && decide (x.acting ≠ act)) ∧ latch = (if x.fe then lrFeAction r else 0) ∧
      pol = (if act = some true then lrLostPol r else lrFrozenPol r) ∧
      bk = readSource w r (lrBkSrc r) (lrBkRef r) t0 ∧
      bad = bit (decide (lrBkSrc r = 0xFF) || (x.backupGone && decide (x.acting = act)) || bk.lost || isFrozen r (freezeNext bk x.backup)) ∧
      tr = (primaryOutput w k).bind (fun o => if 2 ≤ rowOf w o ∧ rowOf w o ≤ 5 then outputInForce w k else none) ∧
      (first = true ∨ latch = 1 ∨ latch ≠ 2 ∧ act ≠ none ∧ pol ≠ 1 ∧ (pol = 2 → bad = 1))) ∧
    (∃ (s u b v w : State) (dt k j code t0 bad : Nat) (r : Bytes) (f : State × Word × Word × Bool) (cmp : Comparators) (q : Urgent) (y : Sample) (src bk : Source) (sp ff : Word) (held ex lost froz rec first : Bool) (x : Slot) (act : Option Bool) (tr : Option Word) (latch pol : Nat) (i : Instr),
      u = s.elapse dt ∧ (i = .loopEvaluation dt k ∧ slotDue u k = true ∧
      b = applyAll evaluateSlot (dueBefore u k) u ∧ v = takeRecord k b ∧
      t0 = sampleInstantOf (slotState v k).record (now v) ∧ f = formSetpoint k (tsNs (servoAt v t0)) v ∧
      w = modSlot k (fun z => { z with instant := some t0 }) f.1 ∧ lrFbSrc (slotState v k).record ≠ 2 ∧
      sp = f.2.1 ∧ ff = f.2.2.1 ∧ ex = false ∧ r = (slotState w k).record ∧
      src = readSource w r (lrFbSrc r) (lrFbRef r) t0 ∨ i = .urgentConversionDone dt j code cmp ∧
      urgentHead u j = some q ∧ k = q.slot ∧ v = urgentStore j q code cmp u ∧ (slotState v k).express = some (sp,
      ff, held, t0) ∧ tfind v.adc.samples q.channel = some y ∧ loopsRun v = true ∧ (slotState v k).enabled = true ∧
      w = modSlot k (fun z => { z with express := none }) v ∧ ex = true ∧ r = (slotState w k).record ∧
      src = sampleSource (ageLimit r) t0 y) ∧ x = slotState w k ∧ lost = src.lost ∧
      froz = (isFrozen r (freezeNext src x.primary) && !lost) ∧ rec = decide (lost = false ∧ froz = false ∧
      x.acting ≠ none ∧ lrRecoverN r ≤ x.good + 1) ∧
      act = (if lost then some true else if froz then some false else if rec then none else x.acting) ∧
      first = (ex && act.isSome && decide (x.acting ≠ act)) ∧ latch = (if x.fe then lrFeAction r else 0) ∧
      pol = (if act = some true then lrLostPol r else lrFrozenPol r) ∧
      bk = readSource w r (lrBkSrc r) (lrBkRef r) t0 ∧
      bad = bit (decide (lrBkSrc r = 0xFF) || (x.backupGone && decide (x.acting = act)) || bk.lost || isFrozen r (freezeNext bk x.backup)) ∧
      tr = (primaryOutput w k).bind (fun o => if 2 ≤ rowOf w o ∧ rowOf w o ≤ 5 then outputInForce w k else none) ∧
      first = false ∧ latch ≠ 1 ∧ (latch = 2 ∨ act ≠ none ∧ pol = 1)) ∧
    (∃ (s u : State) (dt k : Nat), u = s.elapse dt ∧ slotDue u k = false) ∧
    (∃ (s u : State) (dt : Nat), u = s.elapse dt ∧ loopsRun u = true ∧
      everyDue u u.lpe.snapAt (10 * tickMs) = true) ∧
    (∃ (s u : State) (dt : Nat), u = s.elapse dt ∧
      (loopsRun u = false ∨ everyDue u u.lpe.snapAt (10 * tickMs) = false)) ∧
    (∃ (s u : State) (dt : Nat), u = s.elapse dt ∧ loopsRun u = true ∧ everyDue u u.lpe.aliveAt tickMs = true) ∧
    (∃ (s u : State) (dt : Nat), u = s.elapse dt ∧ (loopsRun u = false ∨ everyDue u u.lpe.aliveAt tickMs = false)) :=
  ⟨⟨{ demo .steer with adc := { running := true, records := [(64, { enable := true, express := 1022 })] }, lpe := { running := true, slots := [(1023, { record := (pidRecord.set 3 2), enabled := true })] } },
    _, _, _, _, 0, 1023, _, _, _, rfl, by decide +kernel, rfl, rfl, rfl, rfl, rfl, rfl, by decide +kernel⟩,
    ⟨{ demo .steer with adc := { running := true, records := [(64, { enable := true, express := 1023 })] }, lpe := { running := true, slots := [(1023, { record := (pidRecord.set 3 2), enabled := true })] } },
      _, _, _, _, 0, 1023, 64, _, _, _, rfl, by decide +kernel, rfl, rfl, rfl, rfl, rfl, rfl, by decide +kernel⟩,
    ⟨{ demo .steer with adc := { running := false, records := [(64, { enable := true, express := 1023 })] }, lpe := { running := true, slots := [(1023, { record := (pidRecord.set 3 2), enabled := true })] } },
      _, _, _, _, 0, 1023, 64, _, _, _, rfl, by decide +kernel, rfl, rfl, rfl, rfl, rfl, rfl, by decide +kernel⟩,
    ⟨{ demoLoop .steer true false with lpe := { running := true, slots := [(1023, { record := pidRecord, enabled := true })] } },
      _, _, _, _, 0, 1023, 0, 0, _, _, _, _, ⟨false, false⟩, ⟨0, 0, 0⟩, demoSample, _, _, _, _, _, _, false, _, _,
      _, _, _, _, _, _, _, _, _, .loopEvaluation 0 1023, rfl, Or.inl ⟨rfl, by decide +kernel, rfl, rfl, rfl, rfl,
      rfl, by decide +kernel, rfl, rfl, rfl, rfl, rfl⟩, rfl, rfl, rfl, rfl, rfl, rfl, rfl, rfl, rfl, rfl, rfl, rfl,
      by decide +kernel, by decide +kernel, Or.inl ⟨by decide +kernel, rfl, rfl⟩, rfl⟩,
    ⟨{ demoLoop .steer true false with lpe := { running := true, slots := [(1023, { record := pidRecord, enabled := true })] }, adc := { running := true } },
      _, _, _, _, 0, 1023, 0, 0, _, _, _, _, ⟨false, false⟩, ⟨0, 0, 0⟩, demoSample, _, _, _, _, false, _, _, _, _,
      _, _, _, _, _, _, .loopEvaluation 0 1023, rfl, Or.inl ⟨rfl, by decide +kernel, rfl, rfl, rfl, rfl, rfl,
      by decide +kernel, rfl, rfl, rfl, rfl, rfl⟩, rfl, rfl, rfl, rfl, rfl, rfl, rfl, rfl, rfl, rfl, rfl,
      by decide +kernel⟩,
    ⟨{ demoLoop .steer true false with lpe := { running := true, slots := [(1023, { record := (pidRecord.set 17 1), enabled := true })] }, adc := { running := true } },
      _, _, _, _, 0, 1023, 0, 0, _, _, _, _, ⟨false, false⟩, ⟨0, 0, 0⟩, demoSample, _, _, _, _, false, _, _, _, _,
      _, _, _, _, _, _, .loopEvaluation 0 1023, rfl, Or.inl ⟨rfl, by decide +kernel, rfl, rfl, rfl, rfl, rfl,
      by decide +kernel, rfl, rfl, rfl, rfl, rfl⟩, rfl, rfl, rfl, rfl, rfl, rfl, rfl, rfl, rfl, rfl, rfl, rfl,
      by decide +kernel⟩,
    ⟨demo .steer, _, 0, 1023, rfl, by decide +kernel⟩,
    ⟨demoLoop .steer true false, _, 0, rfl, by decide +kernel⟩,
    ⟨{ demo .steer with lpe := {} }, _, 0, rfl, by decide +kernel⟩,
    ⟨demoLoop .steer true false, _, 0, rfl, by decide +kernel⟩,
    ⟨{ demo .steer with lpe := {} }, _, 0, rfl, by decide +kernel⟩⟩

/-- States and operands that meet the hypotheses of OutputsAreCommanded, clause by clause. -/
theorem witness_OutputsAreCommanded :
    (∃ (s u : State) (dt o n : Nat) (c : Cmd) (call : Call) (p : Bytes) (x : Word), u = s.elapse dt ∧
      p = call.payload ∧ o = u16 p 0 ∧ n = u16 p 2 ∧ x = w32 p 4 ∧ Accepted rowOutSet c u call ∧ p.length = 8 ∧
      manualElsewhere u call.sid = none ∧ o ≤ 111 ∧ n = 0 ∧ outputValueOk o x = true) ∧
    (∃ (s u : State) (dt o n : Nat) (c : Cmd) (call : Call) (p : Bytes) (x : Word), u = s.elapse dt ∧
      p = call.payload ∧ o = u16 p 0 ∧ n = u16 p 2 ∧ x = w32 p 4 ∧ Accepted rowOutSet c u call ∧ p.length = 8 ∧
      manualElsewhere u call.sid = none ∧ (111 < o ∨ n ≠ 0 ∨ outputValueOk o x = false)) ∧
    (∃ (s u : State) (dt o n : Nat) (c : Cmd) (call : Call) (p : Bytes) (x h : Word), u = s.elapse dt ∧
      p = call.payload ∧ o = u16 p 0 ∧ n = u16 p 2 ∧ x = w32 p 4 ∧ Accepted rowOutSet c u call ∧ p.length = 8 ∧
      manualElsewhere u call.sid = some h) ∧
    (∃ (s u : State) (dt o n : Nat) (c : Cmd) (call : Call) (p : Bytes) (x : Word), u = s.elapse dt ∧
      p = call.payload ∧ o = u16 p 0 ∧ n = u16 p 2 ∧ x = w32 p 4 ∧ Accepted rowOutBind c u call ∧ p.length = 4 ∧
      o ≤ 111 ∧ gpioInput u o = false ∧ (n ≤ 1023 ∨ n = 0xFFFF)) ∧
    (∃ (s u : State) (dt o n : Nat) (c : Cmd) (call : Call) (p : Bytes) (x : Word), u = s.elapse dt ∧
      p = call.payload ∧ o = u16 p 0 ∧ n = u16 p 2 ∧ x = w32 p 4 ∧ Accepted rowOutBind c u call ∧ p.length = 4 ∧
      (111 < o ∨ gpioInput u o = true ∨ 1023 < n ∧ n ≠ 0xFFFF)) ∧
    (∃ (s u : State) (dt o n : Nat) (c : Cmd) (call : Call) (p : Bytes) (x : Word), u = s.elapse dt ∧
      p = call.payload ∧ o = u16 p 0 ∧ n = u16 p 2 ∧ x = w32 p 4 ∧ Accepted rowSlcSafeSet c u call ∧ p.length = 8 ∧
      o ≤ 127 ∧ n = 0 ∧ (x = sHighZ ∨ outputValueOk o x = true)) ∧
    (∃ (s u : State) (dt o n : Nat) (c : Cmd) (call : Call) (p : Bytes) (x : Word), u = s.elapse dt ∧
      p = call.payload ∧ o = u16 p 0 ∧ n = u16 p 2 ∧ x = w32 p 4 ∧ Accepted rowSlcSafeSet c u call ∧ p.length = 8 ∧
      (127 < o ∨ n ≠ 0 ∨ x ≠ sHighZ ∧ outputValueOk o x = false)) ∧
    (∃ (s u : State) (dt o n : Nat) (c : Cmd) (call : Call) (p : Bytes) (x : Word), u = s.elapse dt ∧
      p = call.payload ∧ o = u16 p 0 ∧ n = u16 p 2 ∧ x = w32 p 4 ∧ Accepted rowOutRead c u call ∧ p.length = 4 ∧
      1 ≤ n ∧ n ≤ 128 ∧ o + n ≤ 128 ∧ 4 * n ≤ call.cap) ∧
    (∃ (s u : State) (dt o n : Nat) (c : Cmd) (call : Call) (p : Bytes) (x : Word), u = s.elapse dt ∧
      p = call.payload ∧ o = u16 p 0 ∧ n = u16 p 2 ∧ x = w32 p 4 ∧ Accepted rowOutRead c u call ∧ p.length = 4 ∧
      (n = 0 ∨ 128 < n ∨ 128 < o + n)) :=
  ⟨⟨demo .manual, _, 0, _, _, ask ([47, 0, 0, 0] ++ le32 0x3F800000), seen ([47, 0, 0, 0] ++ le32 0x3F800000), _,
    _, rfl, rfl, rfl, rfl, rfl, ⟨by decide +kernel, rfl⟩, by decide +kernel, by decide +kernel, by decide +kernel,
    rfl, by decide +kernel⟩,
    ⟨demo .manual, _, 0, _, _, ask ([112, 0, 0, 0] ++ le32 0x3F800000), seen ([112, 0, 0, 0] ++ le32 0x3F800000),
      _, _, rfl, rfl, rfl, rfl, rfl, ⟨by decide +kernel, rfl⟩, by decide +kernel⟩,
    ⟨{ demo .manual with sys := { (demo .manual).sys with manual := some 9 } }, _, 0, _, _,
      ask ([47, 0, 0, 0] ++ le32 0x3F800000), seen ([47, 0, 0, 0] ++ le32 0x3F800000), _, _, 9, rfl, rfl, rfl, rfl,
      rfl, ⟨by decide +kernel, rfl⟩, by decide +kernel⟩,
    ⟨demo .service, _, 0, _, _, ask [47, 0, 0xFF, 3], seen [47, 0, 0xFF, 3], _, _, rfl, rfl, rfl, rfl, rfl,
      ⟨by decide +kernel, rfl⟩, by decide +kernel⟩,
    ⟨demo .service, _, 0, _, _, ask [112, 0, 0xFF, 3], seen [112, 0, 0xFF, 3], _, _, rfl, rfl, rfl, rfl, rfl,
      ⟨by decide +kernel, rfl⟩, by decide +kernel⟩,
    ⟨demo .service, _, 0, _, _, ask ([127, 0, 0, 0] ++ le32 0x40000000), seen ([127, 0, 0, 0] ++ le32 0x40000000),
      _, _, rfl, rfl, rfl, rfl, rfl, ⟨by decide +kernel, rfl⟩, by decide +kernel, by decide +kernel, rfl,
      by decide +kernel⟩,
    ⟨demo .service, _, 0, _, _, ask ([128, 0, 0, 0] ++ le32 0x40000000), seen ([128, 0, 0, 0] ++ le32 0x40000000),
      _, _, rfl, rfl, rfl, rfl, rfl, ⟨by decide +kernel, rfl⟩, by decide +kernel⟩,
    ⟨demo .hold, _, 0, _, _, ask [0, 0, 128, 0], seen [0, 0, 128, 0], _, _, rfl, rfl, rfl, rfl, rfl,
      ⟨by decide +kernel, rfl⟩, by decide +kernel⟩,
    ⟨demo .hold, _, 0, _, _, ask [0, 0, 129, 0], seen [0, 0, 129, 0], _, _, rfl, rfl, rfl, rfl, rfl,
      ⟨by decide +kernel, rfl⟩, by decide +kernel⟩⟩

/-- States and operands that meet the hypotheses of FieldBusesAreCommanded, clause by clause. -/
theorem witness_FieldBusesAreCommanded :
    (∃ (s u : State) (dt n : Nat) (c : Cmd) (call : Call) (p r : Bytes) (off : Bool), u = s.elapse dt ∧
      p = call.payload ∧ r = p.drop 4 ∧ n = u8 p 0 ∧ Accepted rowCanChanSet c u call ∧ p.length = 20 ∧
      off = ((canOf u n).busOff || decide (255 < (canOf u n).tecount)) ∧ n ≤ 15 ∧ allZero (slice p 1 3) = true ∧
      timingOk r = true) ∧
    (∃ (s u : State) (dt n : Nat) (c : Cmd) (call : Call) (p r : Bytes) (off : Bool), u = s.elapse dt ∧
      p = call.payload ∧ r = p.drop 4 ∧ n = u8 p 0 ∧ Accepted rowCanChanSet c u call ∧ p.length = 20 ∧
      off = ((canOf u n).busOff || decide (255 < (canOf u n).tecount)) ∧
      (15 < n ∨ allZero (slice p 1 3) = false ∨ timingOk r = false)) ∧
    (∃ (s u : State) (dt n o : Nat) (c : Cmd) (call : Call) (p r : Bytes) (x : CanObj), u = s.elapse dt ∧
      p = call.payload ∧ r = p.drop 4 ∧ n = u8 p 0 ∧ Accepted rowCanObjSet c u call ∧ p.length = 116 ∧ o = u8 p 1 ∧
      x = objOf u n o ∧ n ≤ 15 ∧ o ≤ 127 ∧ u16 p 2 = 0 ∧ objectOk (ctFd (canOf u n).record) r = true) ∧
    (∃ (s u : State) (dt n o : Nat) (c : Cmd) (call : Call) (p r : Bytes) (x : CanObj), u = s.elapse dt ∧
      p = call.payload ∧ r = p.drop 4 ∧ n = u8 p 0 ∧ Accepted rowCanObjSet c u call ∧ p.length = 116 ∧ o = u8 p 1 ∧
      x = objOf u n o ∧ (15 < n ∨ 127 < o ∨ u16 p 2 ≠ 0 ∨ objectOk (ctFd (canOf u n).record) r = false)) ∧
    (∃ (s u : State) (dt n o : Nat) (c : Cmd) (call : Call) (p r : Bytes) (x : CanObj) (f : CanFrame),
      u = s.elapse dt ∧ p = call.payload ∧ r = p.drop 4 ∧ n = u8 p 0 ∧ Accepted rowCanSend c u call ∧
      p.length = 4 + u8 p 3 ∧ o = u8 p 1 ∧ x = objOf u n o ∧ u8 p 2 ≤ 15 ∧
      u8 p 3 = dlcBytes (decide (x.record ≠ [] ∧ coFormat x.record = 0)) (u8 p 2) ∧
      (u8 p 2 ≤ 8 ∨ coFormat x.record = 0 ∨ ctFd (canOf u n).record = true) ∧ n ≤ 15 ∧ o ≤ 127 ∧
      transmits x = true ∧ coSrc x.record = 0 ∧ f = frameOf (ctFd (canOf u n).record) x.record r) ∧
    (∃ (s u : State) (dt n o : Nat) (c : Cmd) (call : Call) (p r : Bytes) (x : CanObj), u = s.elapse dt ∧
      p = call.payload ∧ r = p.drop 4 ∧ n = u8 p 0 ∧ Accepted rowCanSend c u call ∧ p.length = 4 + u8 p 3 ∧
      o = u8 p 1 ∧ x = objOf u n o ∧ u8 p 2 ≤ 15 ∧ u8 p 3 = dlcBytes (decide (x.record ≠ [] ∧
      coFormat x.record = 0)) (u8 p 2) ∧ (u8 p 2 ≤ 8 ∨ coFormat x.record = 0 ∨ ctFd (canOf u n).record = true) ∧
      (15 < n ∨ 127 < o ∨ transmits x = false ∨ coSrc x.record ≠ 0)) ∧
    (∃ (s u : State) (dt n o : Nat) (c : Cmd) (call : Call) (p r : Bytes) (x : CanObj), u = s.elapse dt ∧
      p = call.payload ∧ r = p.drop 4 ∧ n = u8 p 0 ∧ Accepted rowCanSend c u call ∧ p.length = 4 + u8 p 3 ∧
      o = u8 p 1 ∧ x = objOf u n o ∧ (15 < u8 p 2 ∨ u8 p 3 ≠ dlcBytes (decide (x.record ≠ [] ∧
      coFormat x.record = 0)) (u8 p 2) ∨ 8 < u8 p 2 ∧ coFormat x.record ≠ 0 ∧ ctFd (canOf u n).record = false)) ∧
    (∃ (s u : State) (dt n o : Nat) (c : Cmd) (call : Call) (p r : Bytes) (x : CanObj) (won : Bool),
      u = s.elapse dt ∧ p = call.payload ∧ r = p.drop 4 ∧ n = u8 p 0 ∧ Accepted rowCanCancel c u call ∧
      p.length = 4 ∧ o = u8 p 1 ∧ x = objOf u n o ∧ won = ((canOf u n).active.map (·.won)).getD false ∧ n ≤ 15 ∧
      o ≤ 127 ∧ u16 p 2 = 0 ∧ transmits x = true ∧ x.state = 0) ∧
    (∃ (s u : State) (dt n o : Nat) (c : Cmd) (call : Call) (p r : Bytes) (x : CanObj) (won : Bool),
      u = s.elapse dt ∧ p = call.payload ∧ r = p.drop 4 ∧ n = u8 p 0 ∧ Accepted rowCanCancel c u call ∧
      p.length = 4 ∧ o = u8 p 1 ∧ x = objOf u n o ∧ won = ((canOf u n).active.map (·.won)).getD false ∧ n ≤ 15 ∧
      o ≤ 127 ∧ u16 p 2 = 0 ∧ transmits x = true ∧ x.state = 1) ∧
    (∃ (s u : State) (dt n o : Nat) (c : Cmd) (call : Call) (p r : Bytes) (x : CanObj) (won : Bool),
      u = s.elapse dt ∧ p = call.payload ∧ r = p.drop 4 ∧ n = u8 p 0 ∧ Accepted rowCanCancel c u call ∧
      p.length = 4 ∧ o = u8 p 1 ∧ x = objOf u n o ∧ won = ((canOf u n).active.map (·.won)).getD false ∧ n ≤ 15 ∧
      o ≤ 127 ∧ u16 p 2 = 0 ∧ transmits x = true ∧ 2 ≤ x.state ∧ won = true) ∧
    (∃ (s u : State) (dt n o : Nat) (c : Cmd) (call : Call) (p r : Bytes) (x : CanObj) (won : Bool),
      u = s.elapse dt ∧ p = call.payload ∧ r = p.drop 4 ∧ n = u8 p 0 ∧ Accepted rowCanCancel c u call ∧
      p.length = 4 ∧ o = u8 p 1 ∧ x = objOf u n o ∧ won = ((canOf u n).active.map (·.won)).getD false ∧ n ≤ 15 ∧
      o ≤ 127 ∧ u16 p 2 = 0 ∧ transmits x = true ∧ 2 ≤ x.state ∧ won = false) ∧
    (∃ (s u : State) (dt n o : Nat) (c : Cmd) (call : Call) (p r : Bytes) (x : CanObj) (won : Bool),
      u = s.elapse dt ∧ p = call.payload ∧ r = p.drop 4 ∧ n = u8 p 0 ∧ Accepted rowCanCancel c u call ∧
      p.length = 4 ∧ o = u8 p 1 ∧ x = objOf u n o ∧ won = ((canOf u n).active.map (·.won)).getD false ∧
      (15 < n ∨ 127 < o ∨ u16 p 2 ≠ 0 ∨ transmits x = false)) ∧
    (∃ (s u : State) (dt n : Nat) (c : Cmd) (call : Call) (p r : Bytes), u = s.elapse dt ∧ p = call.payload ∧
      r = p.drop 4 ∧ n = u8 p 0 ∧ Accepted rowCanStatus c u call ∧ p.length = 4 ∧ 20 ≤ call.cap ∧ n ≤ 15 ∧
      allZero (slice p 1 3) = true) ∧
    (∃ (s u : State) (dt n : Nat) (c : Cmd) (call : Call) (p r : Bytes), u = s.elapse dt ∧ p = call.payload ∧
      r = p.drop 4 ∧ n = u8 p 0 ∧ Accepted rowCanStatus c u call ∧ p.length = 4 ∧ 20 ≤ call.cap ∧
      (15 < n ∨ allZero (slice p 1 3) = false)) :=
  ⟨⟨demo .service, _, 0, _, ask ([15, 0, 0, 0] ++ canTiming), seen ([15, 0, 0, 0] ++ canTiming), _, _, _, rfl, rfl,
    rfl, rfl, ⟨by decide +kernel, rfl⟩, by decide +kernel, rfl, by decide +kernel⟩,
    ⟨demo .service, _, 0, _, ask ([16, 0, 0, 0] ++ canTiming), seen ([16, 0, 0, 0] ++ canTiming), _, _, _, rfl,
      rfl, rfl, rfl, ⟨by decide +kernel, rfl⟩, by decide +kernel, rfl, by decide +kernel⟩,
    ⟨demo .service, _, 0, _, _, ask ([15, 127, 0, 0] ++ canRecord 0 0), seen ([15, 127, 0, 0] ++ canRecord 0 0), _,
      _, _, rfl, rfl, rfl, rfl, ⟨by decide +kernel, rfl⟩, by decide +kernel, rfl, rfl, by decide +kernel⟩,
    ⟨demo .service, _, 0, _, _, ask ([15, 128, 0, 0] ++ canRecord 0 0), seen ([15, 128, 0, 0] ++ canRecord 0 0), _,
      _, _, rfl, rfl, rfl, rfl, ⟨by decide +kernel, rfl⟩, by decide +kernel, rfl, rfl, by decide +kernel⟩,
    ⟨demoCan 0 0 0 (none), _, 0, _, _, ask ([15, 127, 8, 8] ++ zeros 8), seen ([15, 127, 8, 8] ++ zeros 8), _, _,
      _, _, rfl, rfl, rfl, rfl, ⟨by decide +kernel, rfl⟩, by decide +kernel, rfl, rfl, by decide +kernel,
      by decide +kernel, by decide +kernel, by decide +kernel, by decide +kernel, by decide +kernel,
      by decide +kernel, rfl⟩,
    ⟨demo .steer, _, 0, _, _, ask ([15, 127, 8, 8] ++ zeros 8), seen ([15, 127, 8, 8] ++ zeros 8), _, _, _, rfl,
      rfl, rfl, rfl, ⟨by decide +kernel, rfl⟩, by decide +kernel, rfl, rfl, by decide +kernel⟩,
    ⟨demoCan 0 0 0 (none), _, 0, _, _, ask [15, 127, 16, 0], seen [15, 127, 16, 0], _, _, _, rfl, rfl, rfl, rfl,
      ⟨by decide +kernel, rfl⟩, by decide +kernel, rfl, rfl, by decide +kernel⟩,
    ⟨demoCan 0 0 0 (none), _, 0, _, _, ask [15, 127, 0, 0], seen [15, 127, 0, 0], _, _, _, _, rfl, rfl, rfl, rfl,
      ⟨by decide +kernel, rfl⟩, by decide +kernel, rfl, rfl, rfl, by decide +kernel⟩,
    ⟨demoCan 0 0 1 (none), _, 0, _, _, ask [15, 127, 0, 0], seen [15, 127, 0, 0], _, _, _, _, rfl, rfl, rfl, rfl,
      ⟨by decide +kernel, rfl⟩, by decide +kernel, rfl, rfl, rfl, by decide +kernel⟩,
    ⟨demoCan 0 0 2 (some (canTaken true)), _, 0, _, _, ask [15, 127, 0, 0], seen [15, 127, 0, 0], _, _, _, _, rfl,
      rfl, rfl, rfl, ⟨by decide +kernel, rfl⟩, by decide +kernel, rfl, rfl, rfl, by decide +kernel,
      by decide +kernel, by decide +kernel, by decide +kernel, by decide +kernel, rfl⟩,
    ⟨demoCan 0 0 2 (some (canTaken false)), _, 0, _, _, ask [15, 127, 0, 0], seen [15, 127, 0, 0], _, _, _, _, rfl,
      rfl, rfl, rfl, ⟨by decide +kernel, rfl⟩, by decide +kernel, rfl, rfl, rfl, by decide +kernel,
      by decide +kernel, by decide +kernel, by decide +kernel, by decide +kernel, rfl⟩,
    ⟨demo .steer, _, 0, _, _, ask [15, 127, 0, 0], seen [15, 127, 0, 0], _, _, _, _, rfl, rfl, rfl, rfl,
      ⟨by decide +kernel, rfl⟩, by decide +kernel, rfl, rfl, rfl, by decide +kernel⟩,
    ⟨demoCan 0 0 0 (none), _, 0, _, ask [15, 0, 0, 0], seen [15, 0, 0, 0], _, _, rfl, rfl, rfl, rfl,
      ⟨by decide +kernel, rfl⟩, by decide +kernel⟩,
    ⟨demoCan 0 0 0 (none), _, 0, _, ask [16, 0, 0, 0], seen [16, 0, 0, 0], _, _, rfl, rfl, rfl, rfl,
      ⟨by decide +kernel, rfl⟩, by decide +kernel⟩⟩

/-- States and operands that meet the hypotheses of FieldBusesRun, clause by clause. -/
theorem witness_FieldBusesRun :
    (∃ (s u w : State) (dt n o t0 : Nat) (x : CanObj) (y : Point), u = s.elapse dt ∧ canDueNow u n o = true ∧
      x = objOf u n o ∧ t0 = (dueInstant x.record (now u)).getD 0 ∧
      w = modObj n o (fun y => { y with instant := some t0 }) u ∧ canRow u n x = 3 ∧ coSafeAct x.record = 1) ∧
    (∃ (s u w : State) (dt n o t0 : Nat) (x : CanObj) (v z : Option Dword) (y : Point), u = s.elapse dt ∧
      canDueNow u n o = true ∧ x = objOf u n o ∧ t0 = (dueInstant x.record (now u)).getD 0 ∧
      w = modObj n o (fun y => { y with instant := some t0 }) u ∧ (canRow u n x ≠ 3 ∨ coSafeAct x.record ≠ 1) ∧
      v = (if canRow u n x = 3 ∧
      coSafeAct x.record = 0 then some (widen (coSafeValue x.record)) else (canValue x.record (tsNs (servoAt w t0)) w).2) ∧
      z = v.bind (scaled x.record)) ∧
    (∃ (s u : State) (dt n o : Nat), u = s.elapse dt ∧ canDueNow u n o = false) ∧
    (∃ (s u : State) (dt n : Nat) (x : CanObj) (a : CanActive), u = s.elapse dt ∧ (canOf u n).active = some a ∧
      a.won = false ∧ x = objOf u n a.object ∧ a.live = true ∧ x.cancelReq = true) ∧
    (∃ (s u : State) (dt n : Nat) (x : CanObj) (a : CanActive), u = s.elapse dt ∧ (canOf u n).active = some a ∧
      a.won = false ∧ x = objOf u n a.object ∧ (a.live = false ∨ x.cancelReq = false)) ∧
    (∃ (s u : State) (dt n : Nat) (x : CanObj) (a : CanActive), u = s.elapse dt ∧ (canOf u n).active = some a ∧
      a.won = false ∧ x = objOf u n a.object ∧ a.live = true ∧ x.cancelReq = true) ∧
    (∃ (s u : State) (dt n : Nat) (x : CanObj) (a : CanActive), u = s.elapse dt ∧ (canOf u n).active = some a ∧
      a.won = false ∧ x = objOf u n a.object ∧ a.live = true ∧ x.cancelReq = false) ∧
    (∃ (s u : State) (dt n : Nat) (x : CanObj) (a : CanActive), u = s.elapse dt ∧ (canOf u n).active = some a ∧
      a.won = false ∧ x = objOf u n a.object ∧ a.live = false) ∧
    (∃ (s u : State) (dt n : Nat) (a : CanActive), u = s.elapse dt ∧
      ((canOf u n).active = none ∨ (canOf u n).active = some a ∧ a.won = true)) ∧
    (∃ (s u : State) (dt n : Nat) (x : CanObj) (a : CanActive), u = s.elapse dt ∧ (canOf u n).active = some a ∧
      (canOf u n).tecount ≤ 255 ∧ x = objOf u n a.object) ∧
    (∃ (s u : State) (dt n : Nat) (x : CanObj) (a : CanActive) (e : CanError) (tec : Nat), u = s.elapse dt ∧
      (canOf u n).active = some a ∧ (canOf u n).tecount ≤ 255 ∧ x = objOf u n a.object ∧
      tec = (if tecExempt (canOf u n) a e then (canOf u n).tecount else (canOf u n).tecount + 8)) ∧
    (∃ (s u : State) (dt n : Nat), u = s.elapse dt ∧ ((canOf u n).active = none ∨ 255 < (canOf u n).tecount)) ∧
    (∃ (s u : State) (dt n : Nat) (f : CanFrame), u = s.elapse dt ∧ canHears u n = true ∧
      (f.fd = false ∨ ctFd (canOf u n).record = true)) ∧
    (∃ (s u : State) (dt n : Nat) (f : CanFrame), u = s.elapse dt ∧ (canHears u n = false ∨ f.fd = true ∧
      ctFd (canOf u n).record = false)) ∧
    (∃ (s u : State) (dt n : Nat), u = s.elapse dt ∧ canHears u n = true) ∧
    (∃ (s u : State) (dt n : Nat), u = s.elapse dt ∧ canHears u n = false) ∧
    (∃ (s u : State) (dt n : Nat), u = s.elapse dt ∧ (canOf u n).busOff = false ∧ 255 < (canOf u n).tecount) ∧
    (∃ (s u : State) (dt n : Nat), u = s.elapse dt ∧ ((canOf u n).busOff = true ∨ (canOf u n).tecount ≤ 255)) ∧
    (∃ (s u : State) (dt n : Nat), u = s.elapse dt ∧ (canOf u n).busOff = true) ∧
    (∃ (s u : State) (dt n : Nat), u = s.elapse dt ∧ (canOf u n).busOff = false) ∧
    (∃ (s u : State) (dt n : Nat), u = s.elapse dt ∧ canOn u n = true ∧ (canOf u n).integrating = true) ∧
    (∃ (s u : State) (dt n : Nat), u = s.elapse dt ∧ (canOn u n = false ∨ (canOf u n).integrating = false)) :=
  ⟨⟨{ demoCan 3 1 0 none with sys := (demo .safe).sys }, _, _, 0, 15, 127, _, _, demoPoint, rfl, by decide +kernel,
    rfl, rfl, rfl, by decide +kernel⟩,
    ⟨demoCan 3 1 0 (none), _, _, 0, 15, 127, _, _, _, _, demoPoint, rfl, by decide +kernel, rfl, rfl, rfl,
      by decide +kernel, rfl, rfl⟩,
    ⟨demoCan 0 0 0 (none), _, 0, 15, 127, rfl, by decide +kernel⟩,
    ⟨{ demo .steer with can := { channels := [(15, { record := canTiming, active := some (canTaken false), objects := [(127, { record := canRecord 0 0, state := 2, data := some canDemoFrame, cancelReq := true })] })] } },
      _, 0, 15, _, canTaken false, rfl, by decide +kernel, by decide +kernel, rfl, by decide +kernel⟩,
    ⟨demoCan 0 0 2 (some (canTaken false)), _, 0, 15, _, canTaken false, rfl, by decide +kernel, by decide +kernel,
      rfl, by decide +kernel⟩,
    ⟨{ demo .steer with can := { channels := [(15, { record := canTiming, active := some (canTaken false), objects := [(127, { record := canRecord 0 0, state := 2, data := some canDemoFrame, cancelReq := true })] })] } },
      _, 0, 15, _, canTaken false, rfl, by decide +kernel, by decide +kernel, rfl, by decide +kernel⟩,
    ⟨demoCan 0 0 2 (some (canTaken false)), _, 0, 15, _, canTaken false, rfl, by decide +kernel, by decide +kernel,
      rfl, by decide +kernel⟩,
    ⟨demoCan 0 0 2 (some { canTaken false with live := false }), _, 0, 15, _,
      { canTaken false with live := false }, rfl, by decide +kernel, by decide +kernel, rfl, by decide +kernel⟩,
    ⟨demoCan 0 0 0 (none), _, 0, 15, canTaken false, rfl, by decide +kernel⟩,
    ⟨demoCan 0 0 2 (some (canTaken true)), _, 0, 15, _, canTaken true, rfl, by decide +kernel, by decide +kernel,
      rfl⟩,
    ⟨demoCan 0 0 2 (some (canTaken true)), _, 0, 15, _, canTaken true, .ack, _, rfl, by decide +kernel,
      by decide +kernel, rfl, rfl⟩,
    ⟨demoCan 0 0 0 (none), _, 0, 15, rfl, by decide +kernel⟩,
    ⟨demoChannel false false 0, _, 0, 15, canDemoFrame, rfl, by decide +kernel⟩,
    ⟨demo .steer, _, 0, 15, canDemoFrame, rfl, by decide +kernel⟩,
    ⟨demoChannel false false 0, _, 0, 15, rfl, by decide +kernel⟩,
    ⟨demo .steer, _, 0, 15, rfl, by decide +kernel⟩,
    ⟨demoChannel false false 256, _, 0, 15, rfl, by decide +kernel⟩,
    ⟨demo .steer, _, 0, 15, rfl, by decide +kernel⟩,
    ⟨demoChannel true false 256, _, 0, 15, rfl, by decide +kernel⟩,
    ⟨demo .steer, _, 0, 15, rfl, by decide +kernel⟩,
    ⟨demoChannel false true 0, _, 0, 15, rfl, by decide +kernel⟩,
    ⟨demo .steer, _, 0, 15, rfl, by decide +kernel⟩⟩

/-- States and operands that meet the hypotheses of PairIsCommanded, clause by clause. -/
theorem witness_PairIsCommanded :
    (∃ (s u : State) (dt : Nat) (c : Cmd) (call : Call) (p : Bytes), u = s.elapse dt ∧ p = call.payload ∧
      Accepted rowPairSet c u call ∧ p.length = 16 ∧ pairOk p = true ∧ u8 p 0 = 1) ∧
    (∃ (s u : State) (dt : Nat) (c : Cmd) (call : Call) (p : Bytes), u = s.elapse dt ∧ p = call.payload ∧
      Accepted rowPairSet c u call ∧ p.length = 16 ∧ pairOk p = true ∧ u8 p 0 = 0) ∧
    (∃ (s u : State) (dt : Nat) (c : Cmd) (call : Call) (p : Bytes), u = s.elapse dt ∧ p = call.payload ∧
      Accepted rowPairSet c u call ∧ p.length = 16 ∧ pairOk p = false) ∧
    (∃ (s u : State) (dt : Nat) (c : Cmd) (call : Call) (p : Bytes), u = s.elapse dt ∧ p = call.payload ∧
      Accepted rowPairStatus c u call ∧ p.length = 0 ∧ 64 ≤ call.cap) ∧
    (∃ (s u : State) (dt : Nat) (c : Cmd) (call : Call) (p : Bytes), u = s.elapse dt ∧ p = call.payload ∧
      Accepted rowPairHandover c u call ∧ p.length = 4 ∧ u32 p 0 = 0x5A560B03 ∧ u.brd.record.paired = true ∧
      u.sys.token = true ∧ partnerHealthy u = true) ∧
    (∃ (s u : State) (dt : Nat) (c : Cmd) (call : Call) (p : Bytes), u = s.elapse dt ∧ p = call.payload ∧
      Accepted rowPairHandover c u call ∧ p.length = 4 ∧ u32 p 0 = 0x5A560B03 ∧ u.brd.record.paired = true ∧
      u.sys.token = true ∧ partnerHealthy u = false) ∧
    (∃ (s u : State) (dt : Nat) (c : Cmd) (call : Call) (p : Bytes), u = s.elapse dt ∧ p = call.payload ∧
      Accepted rowPairHandover c u call ∧ p.length = 4 ∧ u32 p 0 = 0x5A560B03 ∧ u.brd.record.paired = true ∧
      u.sys.token = false ∧ u.sys.mode = .shadow ∧ partnerHas u = true ∧ healthOf u = 0 ∧
      (u.brd.former = modeCode .steer ∨ u.brd.former = modeCode .hold ∨ u.brd.former = modeCode .island)) ∧
    (∃ (s u : State) (dt : Nat) (c : Cmd) (call : Call) (p : Bytes), u = s.elapse dt ∧ p = call.payload ∧
      Accepted rowPairHandover c u call ∧ p.length = 4 ∧ u32 p 0 = 0x5A560B03 ∧ u.brd.record.paired = true ∧
      u.sys.token = false ∧ u.sys.mode = .shadow ∧ partnerHas u = true ∧ healthOf u = 0 ∧
      u.brd.former ≠ modeCode .steer ∧ u.brd.former ≠ modeCode .hold ∧ u.brd.former ≠ modeCode .island) ∧
    (∃ (s u : State) (dt : Nat) (c : Cmd) (call : Call) (p : Bytes), u = s.elapse dt ∧ p = call.payload ∧
      Accepted rowPairHandover c u call ∧ p.length = 4 ∧ u32 p 0 = 0x5A560B03 ∧ u.brd.record.paired = true ∧
      u.sys.token = false ∧ (u.sys.mode ≠ .shadow ∨ partnerHas u = false ∨ healthOf u ≠ 0)) ∧
    (∃ (s u : State) (dt : Nat) (c : Cmd) (call : Call) (p : Bytes), u = s.elapse dt ∧ p = call.payload ∧
      Accepted rowPairHandover c u call ∧ p.length = 4 ∧ u32 p 0 = 0x5A560B03 ∧ u.brd.record.paired = false) ∧
    (∃ (s u : State) (dt : Nat) (c : Cmd) (call : Call) (p : Bytes), u = s.elapse dt ∧ p = call.payload ∧
      Accepted rowPairHandover c u call ∧ p.length = 4 ∧ u32 p 0 ≠ 0x5A560B03) ∧
    (∃ (s u : State) (dt : Nat) (c : Cmd) (call : Call) (p : Bytes) (x : Compare), u = s.elapse dt ∧
      p = call.payload ∧ Accepted rowPairCompare c u call ∧ p.length = 4 ∧ 100 ≤ call.cap ∧
      u.brd.record.paired = true ∧ compareOf u (u32 p 0) = some x) ∧
    (∃ (s u : State) (dt : Nat) (c : Cmd) (call : Call) (p : Bytes), u = s.elapse dt ∧ p = call.payload ∧
      Accepted rowPairCompare c u call ∧ p.length = 4 ∧ 100 ≤ call.cap ∧
      (u.brd.record.paired = false ∨ compareOf u (u32 p 0) = none)) :=
  ⟨⟨demo .service, _, 0, ask ([1, 1, 20, 10] ++ le32 5 ++ le16 1000 ++ le16 3600 ++ le32 0),
    seen ([1, 1, 20, 10] ++ le32 5 ++ le16 1000 ++ le16 3600 ++ le32 0), _, rfl, rfl, ⟨by decide +kernel, rfl⟩,
    by decide +kernel⟩,
    ⟨demo .service, _, 0, ask ([0, 1, 20, 10] ++ le32 0 ++ le16 1000 ++ le16 3600 ++ le32 0),
      seen ([0, 1, 20, 10] ++ le32 0 ++ le16 1000 ++ le16 3600 ++ le32 0), _, rfl, rfl, ⟨by decide +kernel, rfl⟩,
      by decide +kernel⟩,
    ⟨demo .service, _, 0, ask ([1, 1, 20, 10] ++ le32 0 ++ le16 1000 ++ le16 3600 ++ le32 0),
      seen ([1, 1, 20, 10] ++ le32 0 ++ le16 1000 ++ le16 3600 ++ le32 0), _, rfl, rfl, ⟨by decide +kernel, rfl⟩,
      by decide +kernel⟩,
    ⟨demoPair .hold true false, _, 0, ask [], seen [], _, rfl, rfl, ⟨by decide +kernel, rfl⟩, by decide +kernel⟩,
    ⟨demoPair .hold true false, _, 0, ask (le32 0x5A560B03), seen (le32 0x5A560B03), _, rfl, rfl,
      ⟨by decide +kernel, rfl⟩, by decide +kernel⟩,
    ⟨{ demoPair .hold true false with brd := { (demoPair .hold true false).brd with partnerHealth := 1 } }, _, 0,
      ask (le32 0x5A560B03), seen (le32 0x5A560B03), _, rfl, rfl, ⟨by decide +kernel, rfl⟩, by decide +kernel⟩,
    ⟨{ demoPair .shadow false true with brd := { (demoPair .shadow false true).brd with former := modeCode .steer } },
      _, 0, ask (le32 0x5A560B03), seen (le32 0x5A560B03), _, rfl, rfl, ⟨by decide +kernel, rfl⟩,
      by decide +kernel⟩,
    ⟨demoPair .shadow false true, _, 0, ask (le32 0x5A560B03), seen (le32 0x5A560B03), _, rfl, rfl,
      ⟨by decide +kernel, rfl⟩, by decide +kernel⟩,
    ⟨demoPair .shadow false false, _, 0, ask (le32 0x5A560B03), seen (le32 0x5A560B03), _, rfl, rfl,
      ⟨by decide +kernel, rfl⟩, by decide +kernel⟩,
    ⟨demo .hold, _, 0, ask (le32 0x5A560B03), seen (le32 0x5A560B03), _, rfl, rfl, ⟨by decide +kernel, rfl⟩,
      by decide +kernel⟩,
    ⟨demoPair .hold true false, _, 0, ask (le32 0x5A560B04), seen (le32 0x5A560B04), _, rfl, rfl,
      ⟨by decide +kernel, rfl⟩, by decide +kernel⟩,
    ⟨{ demoPair .hold true false with brd := { (demoPair .hold true false).brd with compares := [{ job := 3, partition := 1 }] } },
      _, 0, ask (le32 3), seen (le32 3), _, { job := 3, partition := 1 }, rfl, rfl, ⟨by decide +kernel, rfl⟩,
      by decide +kernel⟩,
    ⟨demoPair .hold true false, _, 0, ask (le32 3), seen (le32 3), _, rfl, rfl, ⟨by decide +kernel, rfl⟩,
      by decide +kernel⟩⟩

/-- States and operands that meet the hypotheses of BraidLaneRuns, clause by clause. -/
theorem witness_BraidLaneRuns :
    (∃ (s u : State) (dt : Nat) (x : Hello) (core : Unacked → Word × Half × Frame) (q w : List (Half × Frame)),
      u = s.elapse dt ∧ core = (fun z => (z.seq, z.tagged, z.frame)) ∧ u.brd.record.paired = true ∧
      pd u 11 = true ∧ reinitRuns u 7 0 = false ∧ (braidSlot u).isSome = true ∧
      x.pairId.toNat = u.brd.record.pairId ∧ x.side ≠ u.brd.record.side ∧
      q = u.brd.unacked.map (fun z => (z.tagged, z.frame)) ∧
      w = ((u.brd.rebuild.head?).toList.filter (fun i => !u.brd.unacked.any (fun z => decide (z.frame = .request i)))).map (fun i => (untagged,
      .request i))) ∧
    (∃ (s u : State) (dt : Nat) (x : Hello) (core : Unacked → Word × Half × Frame), u = s.elapse dt ∧
      core = (fun z => (z.seq, z.tagged, z.frame)) ∧ u.brd.record.paired = true ∧ pd u 11 = true ∧
      reinitRuns u 7 0 = false ∧ (braidSlot u).isSome = true ∧
      (x.pairId.toNat ≠ u.brd.record.pairId ∨ x.side = u.brd.record.side)) ∧
    (∃ (s u : State) (dt : Nat) (core : Unacked → Word × Half × Frame), u = s.elapse dt ∧ core = (fun z => (z.seq,
      z.tagged, z.frame)) ∧ u.brd.record.paired = true ∧ pd u 11 = true ∧ reinitRuns u 7 0 = false ∧
      (braidSlot u).isSome = true) ∧
    (∃ (s u : State) (dt : Nat) (core : Unacked → Word × Half × Frame), u = s.elapse dt ∧ core = (fun z => (z.seq,
      z.tagged, z.frame)) ∧ u.brd.record.paired = true ∧ pd u 11 = true ∧ reinitRuns u 7 0 = false ∧
      braidSlot u = none) ∧
    (∃ (s u : State) (dt : Nat) (core : Unacked → Word × Half × Frame), u = s.elapse dt ∧ core = (fun z => (z.seq,
      z.tagged, z.frame)) ∧ (u.brd.record.paired = false ∨ pd u 11 = false ∨ reinitRuns u 7 0 = true)) ∧
    (∃ (s u : State) (dt : Nat) (core : Unacked → Word × Half × Frame), u = s.elapse dt ∧ core = (fun z => (z.seq,
      z.tagged, z.frame)) ∧ u.brd.link ≠ 0) ∧
    (∃ (s u : State) (dt : Nat) (core : Unacked → Word × Half × Frame), u = s.elapse dt ∧ core = (fun z => (z.seq,
      z.tagged, z.frame)) ∧ u.brd.link = 0) ∧
    (∃ (s u : State) (dt : Nat) (core : Unacked → Word × Half × Frame), u = s.elapse dt ∧ core = (fun z => (z.seq,
      z.tagged, z.frame)) ∧ linkUp u = true ∧
      everyDue u (u.brd.unacked.head?.bind (·.sentAt)) (100 * tickUs) = true) ∧
    (∃ (s u : State) (dt : Nat) (core : Unacked → Word × Half × Frame), u = s.elapse dt ∧ core = (fun z => (z.seq,
      z.tagged, z.frame)) ∧
      (linkUp u = false ∨ everyDue u (u.brd.unacked.head?.bind (·.sentAt)) (100 * tickUs) = false)) ∧
    (∃ (s u : State) (dt m : Nat) (seq : Word) (core : Unacked → Word × Half × Frame), u = s.elapse dt ∧
      core = (fun z => (z.seq, z.tagged, z.frame)) ∧ linkUp u = true ∧ m = (if seq ≠ 0 ∧
      u.brd.discarded.1 = seq then u.brd.discarded.2 + 1 else 1) ∧ seq ≠ 0 ∧ m < 3) ∧
    (∃ (s u : State) (dt m : Nat) (seq : Word) (core : Unacked → Word × Half × Frame), u = s.elapse dt ∧
      core = (fun z => (z.seq, z.tagged, z.frame)) ∧ linkUp u = true ∧ m = (if seq ≠ 0 ∧
      u.brd.discarded.1 = seq then u.brd.discarded.2 + 1 else 1) ∧ seq ≠ 0 ∧ 3 ≤ m) ∧
    (∃ (s u : State) (dt m : Nat) (seq : Word) (core : Unacked → Word × Half × Frame), u = s.elapse dt ∧
      core = (fun z => (z.seq, z.tagged, z.frame)) ∧ linkUp u = true ∧ m = (if seq ≠ 0 ∧
      u.brd.discarded.1 = seq then u.brd.discarded.2 + 1 else 1) ∧ seq = 0) ∧
    (∃ (s u : State) (dt : Nat) (core : Unacked → Word × Half × Frame), u = s.elapse dt ∧ core = (fun z => (z.seq,
      z.tagged, z.frame)) ∧ linkUp u = false) ∧
    (∃ (s u : State) (dt : Nat) (h : BraidHead) (core : Unacked → Word × Half × Frame) (rest : List Unacked),
      u = s.elapse dt ∧ core = (fun z => (z.seq, z.tagged, z.frame)) ∧ inOrder h u = true ∧
      rest = u.brd.unacked.filter (fun z => decide (2 ^ 31 ≤ (h.ack - z.seq).toNat))) ∧
    (∃ (s u : State) (dt : Nat) (h : BraidHead) (core : Unacked → Word × Half × Frame), u = s.elapse dt ∧
      core = (fun z => (z.seq, z.tagged, z.frame)) ∧ inOrder h u = false) ∧
    (∃ (s u : State) (dt : Nat) (core : Unacked → Word × Half × Frame), u = s.elapse dt ∧ core = (fun z => (z.seq,
      z.tagged, z.frame)) ∧ u.brd.record.paired = true ∧ pd u 11 = true ∧ u.sys.mode.live = true ∧
      everyDue u u.brd.beatSent (u.brd.record.hbMs * tickMs) = true) ∧
    (∃ (s u : State) (dt : Nat) (core : Unacked → Word × Half × Frame), u = s.elapse dt ∧ core = (fun z => (z.seq,
      z.tagged, z.frame)) ∧
      (u.brd.record.paired = false ∨ pd u 11 = false ∨ u.sys.mode.live = false ∨ everyDue u u.brd.beatSent (u.brd.record.hbMs * tickMs) = false)) ∧
    (∃ (s u : State) (dt : Nat) (h : BraidHead) (core : Unacked → Word × Half × Frame), u = s.elapse dt ∧
      core = (fun z => (z.seq, z.tagged, z.frame)) ∧ inOrder h u = true) ∧
    (∃ (s u : State) (dt : Nat) (h : BraidHead) (core : Unacked → Word × Half × Frame), u = s.elapse dt ∧
      core = (fun z => (z.seq, z.tagged, z.frame)) ∧ inOrder h u = false) ∧
    (∃ (s u : State) (dt m : Nat) (core : Unacked → Word × Half × Frame), u = s.elapse dt ∧
      core = (fun z => (z.seq, z.tagged, z.frame)) ∧ u.brd.record.paired = true ∧ u.sys.mode = .shadow ∧
      m = u.brd.missed + 1 ∧ passed u (missBase u) (m * u.brd.record.hbMs * tickMs) = true ∧
      requestDue u m = false) ∧
    (∃ (s u : State) (dt m : Nat) (core : Unacked → Word × Half × Frame), u = s.elapse dt ∧
      core = (fun z => (z.seq, z.tagged, z.frame)) ∧ u.brd.record.paired = true ∧ u.sys.mode = .shadow ∧
      m = u.brd.missed + 1 ∧ passed u (missBase u) (m * u.brd.record.hbMs * tickMs) = true ∧
      requestDue u m = true ∧ u.sys.token = false ∧ u.board.ownIn = true) ∧
    (∃ (s u : State) (dt m : Nat) (core : Unacked → Word × Half × Frame), u = s.elapse dt ∧
      core = (fun z => (z.seq, z.tagged, z.frame)) ∧ u.brd.record.paired = true ∧ u.sys.mode = .shadow ∧
      m = u.brd.missed + 1 ∧ passed u (missBase u) (m * u.brd.record.hbMs * tickMs) = true ∧
      requestDue u m = true ∧ u.sys.token = false ∧ u.board.ownIn = false) ∧
    (∃ (s u : State) (dt m : Nat) (core : Unacked → Word × Half × Frame), u = s.elapse dt ∧
      core = (fun z => (z.seq, z.tagged, z.frame)) ∧ u.brd.record.paired = true ∧ u.sys.mode = .shadow ∧
      m = u.brd.missed + 1 ∧ passed u (missBase u) (m * u.brd.record.hbMs * tickMs) = true ∧
      requestDue u m = true ∧ u.sys.token = true) ∧
    (∃ (s u : State) (dt : Nat) (core : Unacked → Word × Half × Frame), u = s.elapse dt ∧ core = (fun z => (z.seq,
      z.tagged, z.frame)) ∧
      (u.brd.record.paired = false ∨ u.sys.mode ≠ .shadow ∨ passed u (missBase u) ((u.brd.missed + 1) * u.brd.record.hbMs * tickMs) = false)) :=
  ⟨⟨demoPair .hold true false, _, 0, { pairId := 5, side := true, latency := 9 }, _, _, _, rfl, rfl,
    by decide +kernel, by decide +kernel, by decide +kernel, by decide +kernel, by decide +kernel,
    by decide +kernel, rfl, rfl⟩,
    ⟨demoPair .hold true false, _, 0, { pairId := 6, side := true, latency := 9 }, _, rfl, rfl, by decide +kernel⟩,
    ⟨demoPair .hold true false, _, 0, _, rfl, rfl, by decide +kernel⟩,
    ⟨{ demoPair .hold true false with key := {} }, _, 0, _, rfl, rfl, by decide +kernel⟩,
    ⟨demo .steer, _, 0, _, rfl, rfl, by decide +kernel⟩,
    ⟨demoPair .hold true false, _, 0, _, rfl, rfl, by decide +kernel⟩,
    ⟨demo .steer, _, 0, _, rfl, rfl, by decide +kernel⟩,
    ⟨demoPair .hold true false, _, 0, _, rfl, rfl, by decide +kernel⟩,
    ⟨demo .steer, _, 0, _, rfl, rfl, by decide +kernel⟩,
    ⟨demoPair .hold true false, _, 0, _, 3, _, rfl, rfl, by decide +kernel, rfl, by decide +kernel⟩,
    ⟨{ demoPair .hold true false with brd := { (demoPair .hold true false).brd with discarded := (3, 2) } }, _, 0,
      _, 3, _, rfl, rfl, by decide +kernel, rfl, by decide +kernel⟩,
    ⟨demoPair .hold true false, _, 0, _, 0, _, rfl, rfl, by decide +kernel, rfl, by decide +kernel⟩,
    ⟨demo .steer, _, 0, _, rfl, rfl, by decide +kernel⟩,
    ⟨demoPair .hold true false, _, 0, nextHead, _, _, rfl, rfl, by decide +kernel, rfl⟩,
    ⟨demoPair .hold true false, _, 0, { nextHead with seq := 2 }, _, rfl, rfl, by decide +kernel⟩,
    ⟨demoPair .hold true false, _, 0, _, rfl, rfl, by decide +kernel⟩,
    ⟨demo .steer, _, 0, _, rfl, rfl, by decide +kernel⟩,
    ⟨demoPair .hold true false, _, 0, nextHead, _, rfl, rfl, by decide +kernel⟩,
    ⟨demo .steer, _, 0, nextHead, _, rfl, rfl, by decide +kernel⟩,
    ⟨demoPair .shadow false true, _, 0, _, _, rfl, rfl, by decide +kernel, by decide +kernel, rfl,
      by decide +kernel⟩,
    ⟨{ demoPair .shadow false true with brd := { (demoPair .shadow false true).brd with missed := 2 } }, _, 0, _,
      _, rfl, rfl, by decide +kernel, by decide +kernel, rfl, by decide +kernel⟩,
    ⟨{ demoPair .shadow false false with brd := { (demoPair .shadow false false).brd with missed := 2 } }, _, 0, _,
      _, rfl, rfl, by decide +kernel, by decide +kernel, rfl, by decide +kernel⟩,
    ⟨{ demoPair .shadow true false with brd := { (demoPair .shadow true false).brd with missed := 2 } }, _, 0, _,
      _, rfl, rfl, by decide +kernel, by decide +kernel, rfl, by decide +kernel⟩,
    ⟨demo .steer, _, 0, _, rfl, rfl, by decide +kernel⟩⟩

/-- States and operands that meet the hypotheses of TokenPasses, clause by clause. -/
theorem witness_TokenPasses :
    (∃ (s u v w : State) (dt n : Nat) (acts gives asks : Bool), u = s.elapse dt ∧ v = partnerExcites false u ∧
      w = partnerExcites true u ∧ acts = decide (u.upd.stage = 4 ∧ u.upd.waiting.isSome = true ∧
      partnerIsReady u = true) ∧ gives = (u.brd.givingUp && loopsDrive u.sys.mode) ∧
      asks = (u.brd.requesting.isSome && !u.sys.token && decide (u.sys.mode = .shadow)) ∧ u.brd.lease = some n ∧
      n ≤ now u ∧ u.brd.record.paired = true ∧ u.brd.requested = true ∧ u.sys.token = true) ∧
    (∃ (s u v w : State) (dt n : Nat) (acts gives asks : Bool), u = s.elapse dt ∧ v = partnerExcites false u ∧
      w = partnerExcites true u ∧ acts = decide (u.upd.stage = 4 ∧ u.upd.waiting.isSome = true ∧
      partnerIsReady u = true) ∧ gives = (u.brd.givingUp && loopsDrive u.sys.mode) ∧
      asks = (u.brd.requesting.isSome && !u.sys.token && decide (u.sys.mode = .shadow)) ∧ u.brd.lease = some n ∧
      n ≤ now u ∧ u.brd.record.paired = true ∧ (u.brd.requested = false ∨ u.sys.token = false)) ∧
    (∃ (s u v w : State) (dt n : Nat) (acts gives asks : Bool), u = s.elapse dt ∧ v = partnerExcites false u ∧
      w = partnerExcites true u ∧ acts = decide (u.upd.stage = 4 ∧ u.upd.waiting.isSome = true ∧
      partnerIsReady u = true) ∧ gives = (u.brd.givingUp && loopsDrive u.sys.mode) ∧
      asks = (u.brd.requesting.isSome && !u.sys.token && decide (u.sys.mode = .shadow)) ∧
      (u.brd.lease = none ∨ u.brd.lease = some n ∧ now u < n ∨ u.brd.record.paired = false)) ∧
    (∃ (s u v w : State) (dt : Nat) (acts gives asks : Bool), u = s.elapse dt ∧ v = partnerExcites false u ∧
      w = partnerExcites true u ∧ acts = decide (u.upd.stage = 4 ∧ u.upd.waiting.isSome = true ∧
      partnerIsReady u = true) ∧ gives = (u.brd.givingUp && loopsDrive u.sys.mode) ∧
      asks = (u.brd.requesting.isSome && !u.sys.token && decide (u.sys.mode = .shadow)) ∧
      u.brd.record.paired = true ∧ u.sys.token = true ∧ acts = false ∧ gives = true) ∧
    (∃ (s u v w : State) (dt : Nat) (acts gives asks : Bool), u = s.elapse dt ∧ v = partnerExcites false u ∧
      w = partnerExcites true u ∧ acts = decide (u.upd.stage = 4 ∧ u.upd.waiting.isSome = true ∧
      partnerIsReady u = true) ∧ gives = (u.brd.givingUp && loopsDrive u.sys.mode) ∧
      asks = (u.brd.requesting.isSome && !u.sys.token && decide (u.sys.mode = .shadow)) ∧
      u.brd.record.paired = true ∧ u.sys.token = true ∧ (acts = false ∨ u.sys.mode ≠ .shadow) ∧ gives = false ∧
      leaseValid u = false) ∧
    (∃ (s u v w : State) (dt : Nat) (acts gives asks : Bool), u = s.elapse dt ∧ v = partnerExcites false u ∧
      w = partnerExcites true u ∧ acts = decide (u.upd.stage = 4 ∧ u.upd.waiting.isSome = true ∧
      partnerIsReady u = true) ∧ gives = (u.brd.givingUp && loopsDrive u.sys.mode) ∧
      asks = (u.brd.requesting.isSome && !u.sys.token && decide (u.sys.mode = .shadow)) ∧
      u.brd.record.paired = true ∧ u.sys.token = true ∧ gives = false ∧ leaseValid u = true) ∧
    (∃ (s u v w : State) (dt : Nat) (acts gives asks : Bool), u = s.elapse dt ∧ v = partnerExcites false u ∧
      w = partnerExcites true u ∧ acts = decide (u.upd.stage = 4 ∧ u.upd.waiting.isSome = true ∧
      partnerIsReady u = true) ∧ gives = (u.brd.givingUp && loopsDrive u.sys.mode) ∧
      asks = (u.brd.requesting.isSome && !u.sys.token && decide (u.sys.mode = .shadow)) ∧
      u.brd.record.paired = true ∧ u.sys.token = true ∧ acts = true ∧ alwaysOn u = true ∧
      (gives = true ∨ u.sys.mode = .shadow ∧ leaseValid u = false)) ∧
    (∃ (s u v w : State) (dt : Nat) (acts gives asks : Bool), u = s.elapse dt ∧ v = partnerExcites false u ∧
      w = partnerExcites true u ∧ acts = decide (u.upd.stage = 4 ∧ u.upd.waiting.isSome = true ∧
      partnerIsReady u = true) ∧ gives = (u.brd.givingUp && loopsDrive u.sys.mode) ∧
      asks = (u.brd.requesting.isSome && !u.sys.token && decide (u.sys.mode = .shadow)) ∧
      (u.brd.record.paired = false ∨ u.sys.token = false) ∧
      (acts = false ∨ u.sys.token = true ∨ u.sys.mode ≠ .shadow)) ∧
    (∃ (s u v w : State) (dt : Nat) (acts gives asks : Bool), u = s.elapse dt ∧ v = partnerExcites false u ∧
      w = partnerExcites true u ∧ acts = decide (u.upd.stage = 4 ∧ u.upd.waiting.isSome = true ∧
      partnerIsReady u = true) ∧ gives = (u.brd.givingUp && loopsDrive u.sys.mode) ∧
      asks = (u.brd.requesting.isSome && !u.sys.token && decide (u.sys.mode = .shadow)) ∧
      (u.brd.record.paired = false ∨ u.sys.token = false) ∧ acts = true ∧ alwaysOn u = true ∧ u.sys.token = false ∧
      u.sys.mode = .shadow) ∧
    (∃ (s u v w : State) (dt : Nat) (acts gives asks : Bool), u = s.elapse dt ∧ v = partnerExcites false u ∧
      w = partnerExcites true u ∧ acts = decide (u.upd.stage = 4 ∧ u.upd.waiting.isSome = true ∧
      partnerIsReady u = true) ∧ gives = (u.brd.givingUp && loopsDrive u.sys.mode) ∧
      asks = (u.brd.requesting.isSome && !u.sys.token && decide (u.sys.mode = .shadow)) ∧
      u.brd.record.paired = true ∧ taking u = true ∧ u.brd.record.side = true) ∧
    (∃ (s u v w : State) (dt : Nat) (acts gives asks : Bool), u = s.elapse dt ∧ v = partnerExcites false u ∧
      w = partnerExcites true u ∧ acts = decide (u.upd.stage = 4 ∧ u.upd.waiting.isSome = true ∧
      partnerIsReady u = true) ∧ gives = (u.brd.givingUp && loopsDrive u.sys.mode) ∧
      asks = (u.brd.requesting.isSome && !u.sys.token && decide (u.sys.mode = .shadow)) ∧
      u.brd.record.paired = true ∧ taking u = true ∧ u.brd.record.side = false) ∧
    (∃ (s u v w : State) (dt : Nat) (acts gives asks : Bool), u = s.elapse dt ∧ v = partnerExcites false u ∧
      w = partnerExcites true u ∧ acts = decide (u.upd.stage = 4 ∧ u.upd.waiting.isSome = true ∧
      partnerIsReady u = true) ∧ gives = (u.brd.givingUp && loopsDrive u.sys.mode) ∧
      asks = (u.brd.requesting.isSome && !u.sys.token && decide (u.sys.mode = .shadow)) ∧
      u.brd.record.paired = true ∧ taking u = false ∧ u.sys.token = true) ∧
    (∃ (s u v w : State) (dt : Nat) (acts gives asks : Bool), u = s.elapse dt ∧ v = partnerExcites false u ∧
      w = partnerExcites true u ∧ acts = decide (u.upd.stage = 4 ∧ u.upd.waiting.isSome = true ∧
      partnerIsReady u = true) ∧ gives = (u.brd.givingUp && loopsDrive u.sys.mode) ∧
      asks = (u.brd.requesting.isSome && !u.sys.token && decide (u.sys.mode = .shadow)) ∧
      u.brd.record.paired = true ∧ u.sys.token = false ∧ u.board.ownIn = false) ∧
    (∃ (s u v w : State) (dt : Nat) (acts gives asks : Bool), u = s.elapse dt ∧ v = partnerExcites false u ∧
      w = partnerExcites true u ∧ acts = decide (u.upd.stage = 4 ∧ u.upd.waiting.isSome = true ∧
      partnerIsReady u = true) ∧ gives = (u.brd.givingUp && loopsDrive u.sys.mode) ∧
      asks = (u.brd.requesting.isSome && !u.sys.token && decide (u.sys.mode = .shadow)) ∧
      u.brd.record.paired = true ∧ u.sys.token = false ∧ u.board.ownIn = true) ∧
    (∃ (s u v w : State) (dt : Nat) (acts gives asks : Bool), u = s.elapse dt ∧ v = partnerExcites false u ∧
      w = partnerExcites true u ∧ acts = decide (u.upd.stage = 4 ∧ u.upd.waiting.isSome = true ∧
      partnerIsReady u = true) ∧ gives = (u.brd.givingUp && loopsDrive u.sys.mode) ∧
      asks = (u.brd.requesting.isSome && !u.sys.token && decide (u.sys.mode = .shadow)) ∧
      u.brd.record.paired = false) ∧
    (∃ (s u v w : State) (dt : Nat) (acts gives asks : Bool), u = s.elapse dt ∧ v = partnerExcites false u ∧
      w = partnerExcites true u ∧ acts = decide (u.upd.stage = 4 ∧ u.upd.waiting.isSome = true ∧
      partnerIsReady u = true) ∧ gives = (u.brd.givingUp && loopsDrive u.sys.mode) ∧
      asks = (u.brd.requesting.isSome && !u.sys.token && decide (u.sys.mode = .shadow)) ∧
      u.brd.record.paired = true ∧ asks = true) ∧
    (∃ (s u v w : State) (dt : Nat) (acts gives asks : Bool), u = s.elapse dt ∧ v = partnerExcites false u ∧
      w = partnerExcites true u ∧ acts = decide (u.upd.stage = 4 ∧ u.upd.waiting.isSome = true ∧
      partnerIsReady u = true) ∧ gives = (u.brd.givingUp && loopsDrive u.sys.mode) ∧
      asks = (u.brd.requesting.isSome && !u.sys.token && decide (u.sys.mode = .shadow)) ∧
      u.brd.record.paired = true ∧ u.sys.token = false ∧ u.sys.mode = .shadow ∧ u.brd.requesting = none ∧
      u.brd.partnerHolds = true ∧ u.brd.missed = 0) ∧
    (∃ (s u v w : State) (dt : Nat) (acts gives asks : Bool), u = s.elapse dt ∧ v = partnerExcites false u ∧
      w = partnerExcites true u ∧ acts = decide (u.upd.stage = 4 ∧ u.upd.waiting.isSome = true ∧
      partnerIsReady u = true) ∧ gives = (u.brd.givingUp && loopsDrive u.sys.mode) ∧
      asks = (u.brd.requesting.isSome && !u.sys.token && decide (u.sys.mode = .shadow)) ∧
      u.brd.record.paired = true ∧ asks = false ∧
      (u.sys.token = true ∨ u.sys.mode ≠ .shadow ∨ u.brd.partnerHolds = false ∨ u.brd.missed ≠ 0)) ∧
    (∃ (s u v w : State) (dt : Nat) (acts gives asks : Bool), u = s.elapse dt ∧ v = partnerExcites false u ∧
      w = partnerExcites true u ∧ acts = decide (u.upd.stage = 4 ∧ u.upd.waiting.isSome = true ∧
      partnerIsReady u = true) ∧ gives = (u.brd.givingUp && loopsDrive u.sys.mode) ∧
      asks = (u.brd.requesting.isSome && !u.sys.token && decide (u.sys.mode = .shadow)) ∧
      u.brd.record.paired = false) ∧
    (∃ (s u v w : State) (dt n : Nat) (acts gives asks : Bool), u = s.elapse dt ∧ v = partnerExcites false u ∧
      w = partnerExcites true u ∧ acts = decide (u.upd.stage = 4 ∧ u.upd.waiting.isSome = true ∧
      partnerIsReady u = true) ∧ gives = (u.brd.givingUp && loopsDrive u.sys.mode) ∧
      asks = (u.brd.requesting.isSome && !u.sys.token && decide (u.sys.mode = .shadow)) ∧
      u.brd.requesting = some n ∧ passed u n tickMs = true) ∧
    (∃ (s u v w : State) (dt n : Nat) (acts gives asks : Bool), u = s.elapse dt ∧ v = partnerExcites false u ∧
      w = partnerExcites true u ∧ acts = decide (u.upd.stage = 4 ∧ u.upd.waiting.isSome = true ∧
      partnerIsReady u = true) ∧ gives = (u.brd.givingUp && loopsDrive u.sys.mode) ∧
      asks = (u.brd.requesting.isSome && !u.sys.token && decide (u.sys.mode = .shadow)) ∧
      (u.brd.requesting = none ∨ u.brd.requesting = some n ∧ passed u n tickMs = false)) ∧
    (∃ (s u v w a : State) (dt : Nat) (h : BraidHead) (k : NoticeKind) (acts gives asks : Bool), u = s.elapse dt ∧
      v = partnerExcites false u ∧ w = partnerExcites true u ∧ acts = decide (u.upd.stage = 4 ∧
      u.upd.waiting.isSome = true ∧ partnerIsReady u = true) ∧ gives = (u.brd.givingUp && loopsDrive u.sys.mode) ∧
      asks = (u.brd.requesting.isSome && !u.sys.token && decide (u.sys.mode = .shadow)) ∧ inOrder h u = true ∧
      exec (.braidAckFrame dt h) s = .next a ∧ u.brd.record.paired = true ∧ u.sys.token = false ∧
      u.sys.mode = .shadow ∧ (k = .release ∨ k = .pwrfail) ∧ u.board.ownIn = true) ∧
    (∃ (s u v w a : State) (dt : Nat) (h : BraidHead) (k : NoticeKind) (acts gives asks : Bool), u = s.elapse dt ∧
      v = partnerExcites false u ∧ w = partnerExcites true u ∧ acts = decide (u.upd.stage = 4 ∧
      u.upd.waiting.isSome = true ∧ partnerIsReady u = true) ∧ gives = (u.brd.givingUp && loopsDrive u.sys.mode) ∧
      asks = (u.brd.requesting.isSome && !u.sys.token && decide (u.sys.mode = .shadow)) ∧ inOrder h u = true ∧
      exec (.braidAckFrame dt h) s = .next a ∧ u.brd.record.paired = true ∧ u.sys.token = false ∧
      u.sys.mode = .shadow ∧ (k = .release ∨ k = .pwrfail) ∧ u.board.ownIn = false) ∧
    (∃ (s u v w a : State) (dt : Nat) (h : BraidHead) (acts gives asks : Bool), u = s.elapse dt ∧
      v = partnerExcites false u ∧ w = partnerExcites true u ∧ acts = decide (u.upd.stage = 4 ∧
      u.upd.waiting.isSome = true ∧ partnerIsReady u = true) ∧ gives = (u.brd.givingUp && loopsDrive u.sys.mode) ∧
      asks = (u.brd.requesting.isSome && !u.sys.token && decide (u.sys.mode = .shadow)) ∧ inOrder h u = true ∧
      exec (.braidAckFrame dt h) s = .next a ∧ u.brd.record.paired = true ∧ u.sys.token = false ∧
      u.sys.mode = .shadow ∧ u.board.ownIn = true) ∧
    (∃ (s u v w a : State) (dt : Nat) (h : BraidHead) (acts gives asks : Bool), u = s.elapse dt ∧
      v = partnerExcites false u ∧ w = partnerExcites true u ∧ acts = decide (u.upd.stage = 4 ∧
      u.upd.waiting.isSome = true ∧ partnerIsReady u = true) ∧ gives = (u.brd.givingUp && loopsDrive u.sys.mode) ∧
      asks = (u.brd.requesting.isSome && !u.sys.token && decide (u.sys.mode = .shadow)) ∧ inOrder h u = true ∧
      exec (.braidAckFrame dt h) s = .next a ∧ u.brd.record.paired = true ∧ u.sys.token = false ∧
      u.sys.mode = .shadow ∧ u.board.ownIn = false) ∧
    (∃ (s u v w a : State) (dt : Nat) (h : BraidHead) (acts gives asks : Bool), u = s.elapse dt ∧
      v = partnerExcites false u ∧ w = partnerExcites true u ∧ acts = decide (u.upd.stage = 4 ∧
      u.upd.waiting.isSome = true ∧ partnerIsReady u = true) ∧ gives = (u.brd.givingUp && loopsDrive u.sys.mode) ∧
      asks = (u.brd.requesting.isSome && !u.sys.token && decide (u.sys.mode = .shadow)) ∧ inOrder h u = true ∧
      exec (.braidAckFrame dt h) s = .next a ∧ u.sys.token = true ∧ partnerHealthy u = true ∧
      loopsDrive u.sys.mode = true) ∧
    (∃ (s u v w a : State) (dt : Nat) (h : BraidHead) (acts gives asks : Bool), u = s.elapse dt ∧
      v = partnerExcites false u ∧ w = partnerExcites true u ∧ acts = decide (u.upd.stage = 4 ∧
      u.upd.waiting.isSome = true ∧ partnerIsReady u = true) ∧ gives = (u.brd.givingUp && loopsDrive u.sys.mode) ∧
      asks = (u.brd.requesting.isSome && !u.sys.token && decide (u.sys.mode = .shadow)) ∧ inOrder h u = true ∧
      exec (.braidAckFrame dt h) s = .next a ∧ u.brd.record.paired = false ∧ u.sys.token = false ∧
      u.sys.mode = .shadow) ∧
    (∃ (s u v w a : State) (dt : Nat) (h : BraidHead) (k : NoticeKind) (acts gives asks : Bool), u = s.elapse dt ∧
      v = partnerExcites false u ∧ w = partnerExcites true u ∧ acts = decide (u.upd.stage = 4 ∧
      u.upd.waiting.isSome = true ∧ partnerIsReady u = true) ∧ gives = (u.brd.givingUp && loopsDrive u.sys.mode) ∧
      asks = (u.brd.requesting.isSome && !u.sys.token && decide (u.sys.mode = .shadow)) ∧ inOrder h u = true ∧
      exec (.braidAckFrame dt h) s = .next a ∧
      (u.brd.record.paired = false ∨ u.sys.token = true ∨ u.sys.mode ≠ .shadow) ∧ (k = .release ∨ k = .pwrfail)) ∧
    (∃ (s u v w a : State) (dt : Nat) (h : BraidHead) (acts gives asks : Bool), u = s.elapse dt ∧
      v = partnerExcites false u ∧ w = partnerExcites true u ∧ acts = decide (u.upd.stage = 4 ∧
      u.upd.waiting.isSome = true ∧ partnerIsReady u = true) ∧ gives = (u.brd.givingUp && loopsDrive u.sys.mode) ∧
      asks = (u.brd.requesting.isSome && !u.sys.token && decide (u.sys.mode = .shadow)) ∧ inOrder h u = true ∧
      exec (.braidAckFrame dt h) s = .next a ∧ (u.sys.token = true ∧
      (partnerHealthy u = false ∨ loopsDrive u.sys.mode = false) ∨ u.sys.token = false ∧ u.sys.mode ≠ .shadow)) ∧
    (∃ (s u v w a : State) (dt : Nat) (h : BraidHead) (acts gives asks : Bool), u = s.elapse dt ∧
      v = partnerExcites false u ∧ w = partnerExcites true u ∧ acts = decide (u.upd.stage = 4 ∧
      u.upd.waiting.isSome = true ∧ partnerIsReady u = true) ∧ gives = (u.brd.givingUp && loopsDrive u.sys.mode) ∧
      asks = (u.brd.requesting.isSome && !u.sys.token && decide (u.sys.mode = .shadow)) ∧ inOrder h u = true ∧
      exec (.braidAckFrame dt h) s = .next a) ∧
    (∃ (s u v w a : State) (dt : Nat) (h : BraidHead) (acts gives asks : Bool), u = s.elapse dt ∧
      v = partnerExcites false u ∧ w = partnerExcites true u ∧ acts = decide (u.upd.stage = 4 ∧
      u.upd.waiting.isSome = true ∧ partnerIsReady u = true) ∧ gives = (u.brd.givingUp && loopsDrive u.sys.mode) ∧
      asks = (u.brd.requesting.isSome && !u.sys.token && decide (u.sys.mode = .shadow)) ∧ inOrder h u = true ∧
      exec (.braidAckFrame dt h) s = .next a) ∧
    (∃ (s u v w : State) (dt : Nat) (h : BraidHead) (acts gives asks : Bool), u = s.elapse dt ∧
      v = partnerExcites false u ∧ w = partnerExcites true u ∧ acts = decide (u.upd.stage = 4 ∧
      u.upd.waiting.isSome = true ∧ partnerIsReady u = true) ∧ gives = (u.brd.givingUp && loopsDrive u.sys.mode) ∧
      asks = (u.brd.requesting.isSome && !u.sys.token && decide (u.sys.mode = .shadow)) ∧ inOrder h u = false) :=
  ⟨⟨{ demoPair .hold true false with brd := { (demoPair .hold true false).brd with lease := some (60 * tickS), requested := true } },
    _, _, _, 0, 60 * tickS, _, _, _, rfl, rfl, rfl, rfl, rfl, rfl, by decide +kernel⟩,
    ⟨{ demoPair .hold true false with brd := { (demoPair .hold true false).brd with lease := some (60 * tickS) } },
      _, _, _, 0, 60 * tickS, _, _, _, rfl, rfl, rfl, rfl, rfl, rfl, by decide +kernel⟩,
    ⟨demo .steer, _, _, _, 0, 0, _, _, _, rfl, rfl, rfl, rfl, rfl, rfl, by decide +kernel⟩,
    ⟨{ demoPair .hold true false with brd := { (demoPair .hold true false).brd with givingUp := true } }, _, _, _,
      0, _, _, _, rfl, rfl, rfl, rfl, rfl, rfl, by decide +kernel, by decide +kernel, rfl, rfl⟩,
    ⟨demoPair .hold true false, _, _, _, 0, _, _, _, rfl, rfl, rfl, rfl, rfl, rfl, by decide +kernel,
      by decide +kernel, by decide +kernel, rfl, by decide +kernel⟩,
    ⟨{ demoPair .hold true false with brd := { (demoPair .hold true false).brd with lease := some (61 * tickS) } },
      _, _, _, 0, _, _, _, rfl, rfl, rfl, rfl, rfl, rfl, by decide +kernel, by decide +kernel, rfl,
      by decide +kernel⟩,
    ⟨{ { demoPair .hold true false with brd := { (demoPair .hold true false).brd with givingUp := true } } with upd := { stage := 4, waiting := some 0 } },
      _, _, _, 0, _, _, _, rfl, rfl, rfl, rfl, rfl, rfl, by decide +kernel, by decide +kernel, rfl,
      by decide +kernel⟩,
    ⟨demo .steer, _, _, _, 0, _, _, _, rfl, rfl, rfl, rfl, rfl, rfl, by decide +kernel⟩,
    ⟨{ demoPair .shadow false true with upd := { stage := 4, waiting := some 0 } }, _, _, _, 0, _, _, _, rfl, rfl,
      rfl, rfl, rfl, rfl, by decide +kernel, rfl, by decide +kernel⟩,
    ⟨{ demoPair .hold true false with brd := { (demoPair .hold true false).brd with takenAt := some (60 * tickS), record := { paired := true, pairId := 5, side := true } } },
      _, _, _, 0, _, _, _, rfl, rfl, rfl, rfl, rfl, rfl, by decide +kernel⟩,
    ⟨{ demoPair .hold true false with brd := { (demoPair .hold true false).brd with takenAt := some (60 * tickS) } },
      _, _, _, 0, _, _, _, rfl, rfl, rfl, rfl, rfl, rfl, by decide +kernel⟩,
    ⟨demoPair .hold true false, _, _, _, 0, _, _, _, rfl, rfl, rfl, rfl, rfl, rfl, by decide +kernel⟩,
    ⟨demoPair .shadow false false, _, _, _, 0, _, _, _, rfl, rfl, rfl, rfl, rfl, rfl, by decide +kernel⟩,
    ⟨demoPair .shadow false true, _, _, _, 0, _, _, _, rfl, rfl, rfl, rfl, rfl, rfl, by decide +kernel⟩,
    ⟨demo .steer, _, _, _, 0, _, _, _, rfl, rfl, rfl, rfl, rfl, rfl, by decide +kernel⟩,
    ⟨{ demoPair .shadow false true with brd := { (demoPair .shadow false true).brd with requesting := some 0 } },
      _, _, _, 0, _, _, _, rfl, rfl, rfl, rfl, rfl, rfl, by decide +kernel, rfl⟩,
    ⟨{ demoPair .shadow false true with brd := { (demoPair .shadow false true).brd with partnerHolds := true } },
      _, _, _, 0, _, _, _, rfl, rfl, rfl, rfl, rfl, rfl, by decide +kernel⟩,
    ⟨demoPair .hold true false, _, _, _, 0, _, _, _, rfl, rfl, rfl, rfl, rfl, rfl, by decide +kernel, rfl,
      by decide +kernel⟩,
    ⟨demo .steer, _, _, _, 0, _, _, _, rfl, rfl, rfl, rfl, rfl, rfl, by decide +kernel⟩,
    ⟨{ demoPair .shadow false true with brd := { (demoPair .shadow false true).brd with requesting := some 0 } },
      _, _, _, 0, 0, _, _, _, rfl, rfl, rfl, rfl, rfl, rfl, by decide +kernel⟩,
    ⟨demoPair .hold true false, _, _, _, 0, 0, _, _, _, rfl, rfl, rfl, rfl, rfl, rfl, by decide +kernel⟩,
    ⟨demoPair .shadow false true, _, _, _, (after (.braidAckFrame 0 nextHead) (demoPair .shadow false true)), 0,
      nextHead, .release, _, _, _, rfl, rfl, rfl, rfl, rfl, rfl, by decide +kernel, ack_next _ _,
      by decide +kernel⟩,
    ⟨demoPair .shadow false false, _, _, _, (after (.braidAckFrame 0 nextHead) (demoPair .shadow false false)), 0,
      nextHead, .pwrfail, _, _, _, rfl, rfl, rfl, rfl, rfl, rfl, by decide +kernel, ack_next _ _,
      by decide +kernel⟩,
    ⟨demoPair .shadow false true, _, _, _, (after (.braidAckFrame 0 nextHead) (demoPair .shadow false true)), 0,
      nextHead, _, _, _, rfl, rfl, rfl, rfl, rfl, rfl, by decide +kernel, ack_next _ _, by decide +kernel⟩,
    ⟨demoPair .shadow false false, _, _, _, (after (.braidAckFrame 0 nextHead) (demoPair .shadow false false)), 0,
      nextHead, _, _, _, rfl, rfl, rfl, rfl, rfl, rfl, by decide +kernel, ack_next _ _, by decide +kernel⟩,
    ⟨demoPair .hold true false, _, _, _, (after (.braidAckFrame 0 nextHead) (demoPair .hold true false)), 0,
      nextHead, _, _, _, rfl, rfl, rfl, rfl, rfl, rfl, by decide +kernel, ack_next _ _, by decide +kernel⟩,
    ⟨{ demo .shadow with sys := { mode := .shadow, prev := .boot, started := true }, brd := { link := 2 } }, _, _,
      _,
      (after (.braidAckFrame 0 nextHead) ({ demo .shadow with sys := { mode := .shadow, prev := .boot, started := true }, brd := { link := 2 } })),
      0, nextHead, _, _, _, rfl, rfl, rfl, rfl, rfl, rfl, by decide +kernel, ack_next _ _, by decide +kernel⟩,
    ⟨demoPair .hold true false, _, _, _, (after (.braidAckFrame 0 nextHead) (demoPair .hold true false)), 0,
      nextHead, .release, _, _, _, rfl, rfl, rfl, rfl, rfl, rfl, by decide +kernel, ack_next _ _,
      by decide +kernel⟩,
    ⟨{ demoPair .hold true false with brd := { (demoPair .hold true false).brd with partnerHealth := 1 } }, _, _,
      _,
      (after (.braidAckFrame 0 nextHead) ({ demoPair .hold true false with brd := { (demoPair .hold true false).brd with partnerHealth := 1 } })),
      0, nextHead, _, _, _, rfl, rfl, rfl, rfl, rfl, rfl, by decide +kernel, ack_next _ _, by decide +kernel⟩,
    ⟨demoPair .hold true false, _, _, _, (after (.braidAckFrame 0 nextHead) (demoPair .hold true false)), 0,
      nextHead, _, _, _, rfl, rfl, rfl, rfl, rfl, rfl, by decide +kernel, ack_next _ _⟩,
    ⟨demoPair .hold true false, _, _, _, (after (.braidAckFrame 0 nextHead) (demoPair .hold true false)), 0,
      nextHead, _, _, _, rfl, rfl, rfl, rfl, rfl, rfl, by decide +kernel, ack_next _ _⟩,
    ⟨demo .steer, _, _, _, 0, nextHead, _, _, _, rfl, rfl, rfl, rfl, rfl, rfl, by decide +kernel⟩⟩

/-- States and operands that meet the hypotheses of MirroredStateIsApplied, clause by clause. -/
theorem witness_MirroredStateIsApplied :
    (∃ (s u : State) (dt : Nat) (h : BraidHead) (slots : Table SlotSnap) (up : PairUpdate) (p : Bytes) (i : Instr) (f : LedgerFrame) (entry : PartnerRecord → Intake),
      u = s.elapse dt ∧
      entry = (fun r => { record := { index := 0, opsec := r.opsec.toNat, cycle := (r.cycle ||| 0x02000000).toNat, code := r.code.toNat, subject := r.subject.toNat, legalS := r.legalS.toNat, legalNs := r.legalNs.toNat, repeats := r.repeats.toNat, aux := r.aux.toNat, data := r.data.toNat }, partner := true, begun := false }) ∧
      (i = .integrators dt h slots ∨ i = .pairStatusFrame dt h up ∨ i = .ledgerFrame dt h f ∨ i = .deltaFrame dt h p ∨ i = .declareFrame dt h p) ∧
      inOrder h u = false) ∧
    (∃ (s u a : State) (dt : Nat) (h : BraidHead) (slots : Table SlotSnap) (up : PairUpdate) (p : Bytes) (i : Instr) (f : LedgerFrame) (entry : PartnerRecord → Intake),
      u = s.elapse dt ∧
      entry = (fun r => { record := { index := 0, opsec := r.opsec.toNat, cycle := (r.cycle ||| 0x02000000).toNat, code := r.code.toNat, subject := r.subject.toNat, legalS := r.legalS.toNat, legalNs := r.legalNs.toNat, repeats := r.repeats.toNat, aux := r.aux.toNat, data := r.data.toNat }, partner := true, begun := false }) ∧
      (i = .integrators dt h slots ∨ i = .pairStatusFrame dt h up ∨ i = .ledgerFrame dt h f ∨ i = .deltaFrame dt h p ∨ i = .declareFrame dt h p) ∧
      inOrder h u = true ∧ u.sys.mode ≠ .shadow ∧ exec (.braidAckFrame dt h) s = .next a) ∧
    (∃ (s u : State) (dt : Nat) (h : BraidHead) (rs : List MirrorPoint) (qs : List PartnerRecord) (i : Instr) (entry : PartnerRecord → Intake),
      u = s.elapse dt ∧
      entry = (fun r => { record := { index := 0, opsec := r.opsec.toNat, cycle := (r.cycle ||| 0x02000000).toNat, code := r.code.toNat, subject := r.subject.toNat, legalS := r.legalS.toNat, legalNs := r.legalNs.toNat, repeats := r.repeats.toNat, aux := r.aux.toNat, data := r.data.toNat }, partner := true, begun := false }) ∧
      (i = .pointDelta dt h rs ∨ i = .recordFrame dt h qs) ∧ inOrder h u = false) ∧
    (∃ (s u : State) (dt k : Nat) (h : BraidHead) (x : Slot) (entry : PartnerRecord → Intake), u = s.elapse dt ∧
      entry = (fun r => { record := { index := 0, opsec := r.opsec.toNat, cycle := (r.cycle ||| 0x02000000).toNat, code := r.code.toNat, subject := r.subject.toNat, legalS := r.legalS.toNat, legalNs := r.legalNs.toNat, repeats := r.repeats.toNat, aux := r.aux.toNat, data := r.data.toNat }, partner := true, begun := false }) ∧
      inOrder h u = true ∧ u.sys.mode = .shadow ∧ tfind u.lpe.slots k = some x) ∧
    (∃ (s u : State) (dt w : Nat) (h : BraidHead) (entry : PartnerRecord → Intake), u = s.elapse dt ∧
      entry = (fun r => { record := { index := 0, opsec := r.opsec.toNat, cycle := (r.cycle ||| 0x02000000).toNat, code := r.code.toNat, subject := r.subject.toNat, legalS := r.legalS.toNat, legalNs := r.legalNs.toNat, repeats := r.repeats.toNat, aux := r.aux.toNat, data := r.data.toNat }, partner := true, begun := false }) ∧
      inOrder h u = true ∧ u.sys.mode = .shadow ∧ w < 32) ∧
    (∃ (s u : State) (dt : Nat) (h : BraidHead) (entry : PartnerRecord → Intake), u = s.elapse dt ∧
      entry = (fun r => { record := { index := 0, opsec := r.opsec.toNat, cycle := (r.cycle ||| 0x02000000).toNat, code := r.code.toNat, subject := r.subject.toNat, legalS := r.legalS.toNat, legalNs := r.legalNs.toNat, repeats := r.repeats.toNat, aux := r.aux.toNat, data := r.data.toNat }, partner := true, begun := false }) ∧
      inOrder h u = true ∧ u.sys.mode = .shadow) ∧
    (∃ (s u : State) (dt : Nat) (h : BraidHead) (entry : PartnerRecord → Intake), u = s.elapse dt ∧
      entry = (fun r => { record := { index := 0, opsec := r.opsec.toNat, cycle := (r.cycle ||| 0x02000000).toNat, code := r.code.toNat, subject := r.subject.toNat, legalS := r.legalS.toNat, legalNs := r.legalNs.toNat, repeats := r.repeats.toNat, aux := r.aux.toNat, data := r.data.toNat }, partner := true, begun := false }) ∧
      inOrder h u = true ∧ u.sys.mode = .shadow) ∧
    (∃ (s u : State) (dt : Nat) (h : BraidHead) (p : Bytes) (tt : Table Point) (entry : PartnerRecord → Intake),
      u = s.elapse dt ∧
      entry = (fun r => { record := { index := 0, opsec := r.opsec.toNat, cycle := (r.cycle ||| 0x02000000).toNat, code := r.code.toNat, subject := r.subject.toNat, legalS := r.legalS.toNat, legalNs := r.legalNs.toNat, repeats := r.repeats.toNat, aux := r.aux.toNat, data := r.data.toNat }, partner := true, begun := false }) ∧
      inOrder h u = true ∧ u.sys.mode = .shadow ∧ declareAll u.pts.points (rowsOf p 4 16 (u32 p 0)) = some tt) ∧
    (∃ (s u : State) (dt : Nat) (h : BraidHead) (p : Bytes) (entry : PartnerRecord → Intake), u = s.elapse dt ∧
      entry = (fun r => { record := { index := 0, opsec := r.opsec.toNat, cycle := (r.cycle ||| 0x02000000).toNat, code := r.code.toNat, subject := r.subject.toNat, legalS := r.legalS.toNat, legalNs := r.legalNs.toNat, repeats := r.repeats.toNat, aux := r.aux.toNat, data := r.data.toNat }, partner := true, begun := false }) ∧
      inOrder h u = true ∧ u.sys.mode = .shadow ∧ declareAll u.pts.points (rowsOf p 4 16 (u32 p 0)) = none) ∧
    (∃ (s u : State) (dt : Nat) (h : BraidHead) (p : Bytes) (entry : PartnerRecord → Intake), u = s.elapse dt ∧
      entry = (fun r => { record := { index := 0, opsec := r.opsec.toNat, cycle := (r.cycle ||| 0x02000000).toNat, code := r.code.toNat, subject := r.subject.toNat, legalS := r.legalS.toNat, legalNs := r.legalNs.toNat, repeats := r.repeats.toNat, aux := r.aux.toNat, data := r.data.toNat }, partner := true, begun := false }) ∧
      inOrder h u = true ∧ u.sys.mode = .shadow ∧ tagWaits u (u8 p 0) h.tagged = true) ∧
    (∃ (s u : State) (dt : Nat) (h : BraidHead) (p : Bytes) (c : Course) (entry : PartnerRecord → Intake),
      u = s.elapse dt ∧
      entry = (fun r => { record := { index := 0, opsec := r.opsec.toNat, cycle := (r.cycle ||| 0x02000000).toNat, code := r.code.toNat, subject := r.subject.toNat, legalS := r.legalS.toNat, legalNs := r.legalNs.toNat, repeats := r.repeats.toNat, aux := r.aux.toNat, data := r.data.toNat }, partner := true, begun := false }) ∧
      inOrder h u = true ∧ u.sys.mode = .shadow ∧ tagWaits u (u8 p 0) h.tagged = false ∧
      residentCourse u (u8 p 0) = some c ∧ slice p 4 16 = hSignature c.image) ∧
    (∃ (s u : State) (dt : Nat) (h : BraidHead) (p : Bytes) (c : Course) (entry : PartnerRecord → Intake),
      u = s.elapse dt ∧
      entry = (fun r => { record := { index := 0, opsec := r.opsec.toNat, cycle := (r.cycle ||| 0x02000000).toNat, code := r.code.toNat, subject := r.subject.toNat, legalS := r.legalS.toNat, legalNs := r.legalNs.toNat, repeats := r.repeats.toNat, aux := r.aux.toNat, data := r.data.toNat }, partner := true, begun := false }) ∧
      inOrder h u = true ∧ u.sys.mode = .shadow ∧ tagWaits u (u8 p 0) h.tagged = false ∧
      (residentCourse u (u8 p 0) = none ∨ residentCourse u (u8 p 0) = some c ∧ slice p 4 16 ≠ hSignature c.image)) ∧
    (∃ (s u : State) (dt : Nat) (h : BraidHead) (rs : List MirrorPoint) (y : MirrorPoint) (g : Point) (pin : Bool) (entry : PartnerRecord → Intake),
      u = s.elapse dt ∧
      entry = (fun r => { record := { index := 0, opsec := r.opsec.toNat, cycle := (r.cycle ||| 0x02000000).toNat, code := r.code.toNat, subject := r.subject.toNat, legalS := r.legalS.toNat, legalNs := r.legalNs.toNat, repeats := r.repeats.toNat, aux := r.aux.toNat, data := r.data.toNat }, partner := true, begun := false }) ∧
      inOrder h u = true ∧ rs.filter (fun r => decide (r.ident = y.ident)) = [y] ∧ findPoint u y.ident = some g ∧
      y.ident / 65536 ≠ 0 ∧ y.hostPin = some pin) ∧
    (∃ (s u : State) (dt : Nat) (h : BraidHead) (rs : List MirrorPoint) (y : MirrorPoint) (g : Point) (entry : PartnerRecord → Intake),
      u = s.elapse dt ∧
      entry = (fun r => { record := { index := 0, opsec := r.opsec.toNat, cycle := (r.cycle ||| 0x02000000).toNat, code := r.code.toNat, subject := r.subject.toNat, legalS := r.legalS.toNat, legalNs := r.legalNs.toNat, repeats := r.repeats.toNat, aux := r.aux.toNat, data := r.data.toNat }, partner := true, begun := false }) ∧
      inOrder h u = true ∧ rs.filter (fun r => decide (r.ident = y.ident)) = [y] ∧ findPoint u y.ident = some g ∧
      y.ident / 65536 ≠ 0 ∧ y.hostPin = none ∧ seqNewer y.reportSeq g.reportSeq = true ∧ g.pinned = false) ∧
    (∃ (s u : State) (dt : Nat) (h : BraidHead) (rs : List MirrorPoint) (y : MirrorPoint) (g : Point) (entry : PartnerRecord → Intake),
      u = s.elapse dt ∧
      entry = (fun r => { record := { index := 0, opsec := r.opsec.toNat, cycle := (r.cycle ||| 0x02000000).toNat, code := r.code.toNat, subject := r.subject.toNat, legalS := r.legalS.toNat, legalNs := r.legalNs.toNat, repeats := r.repeats.toNat, aux := r.aux.toNat, data := r.data.toNat }, partner := true, begun := false }) ∧
      inOrder h u = true ∧ rs.filter (fun r => decide (r.ident = y.ident)) = [y] ∧ findPoint u y.ident = some g ∧
      y.ident / 65536 ≠ 0 ∧ y.hostPin = none ∧ seqNewer y.reportSeq g.reportSeq = true ∧ g.pinned = true) ∧
    (∃ (s u : State) (dt : Nat) (h : BraidHead) (rs : List MirrorPoint) (y : MirrorPoint) (g : Point) (entry : PartnerRecord → Intake),
      u = s.elapse dt ∧
      entry = (fun r => { record := { index := 0, opsec := r.opsec.toNat, cycle := (r.cycle ||| 0x02000000).toNat, code := r.code.toNat, subject := r.subject.toNat, legalS := r.legalS.toNat, legalNs := r.legalNs.toNat, repeats := r.repeats.toNat, aux := r.aux.toNat, data := r.data.toNat }, partner := true, begun := false }) ∧
      inOrder h u = true ∧ rs.filter (fun r => decide (r.ident = y.ident)) = [y] ∧ findPoint u y.ident = some g ∧
      y.ident / 65536 ≠ 0 ∧ y.hostPin = none ∧ seqNewer y.reportSeq g.reportSeq = false) ∧
    (∃ (s u : State) (dt : Nat) (h : BraidHead) (entry : PartnerRecord → Intake), u = s.elapse dt ∧
      entry = (fun r => { record := { index := 0, opsec := r.opsec.toNat, cycle := (r.cycle ||| 0x02000000).toNat, code := r.code.toNat, subject := r.subject.toNat, legalS := r.legalS.toNat, legalNs := r.legalNs.toNat, repeats := r.repeats.toNat, aux := r.aux.toNat, data := r.data.toNat }, partner := true, begun := false }) ∧
      inOrder h u = true) ∧
    (∃ (s u : State) (dt : Nat) (h : BraidHead) (qs : List PartnerRecord) (entry : PartnerRecord → Intake),
      u = s.elapse dt ∧
      entry = (fun r => { record := { index := 0, opsec := r.opsec.toNat, cycle := (r.cycle ||| 0x02000000).toNat, code := r.code.toNat, subject := r.subject.toNat, legalS := r.legalS.toNat, legalNs := r.legalNs.toNat, repeats := r.repeats.toNat, aux := r.aux.toNat, data := r.data.toNat }, partner := true, begun := false }) ∧
      inOrder h u = true ∧ (u.log.running = false ∨ (u.log.fifo.head?).any (·.begun) = true) ∧
      u.log.fifo.length + qs.length ≤ 64) ∧
    (∃ (s u : State) (dt : Nat) (h : BraidHead) (entry : PartnerRecord → Intake), u = s.elapse dt ∧
      entry = (fun r => { record := { index := 0, opsec := r.opsec.toNat, cycle := (r.cycle ||| 0x02000000).toNat, code := r.code.toNat, subject := r.subject.toNat, legalS := r.legalS.toNat, legalNs := r.legalNs.toNat, repeats := r.repeats.toNat, aux := r.aux.toNat, data := r.data.toNat }, partner := true, begun := false }) ∧
      inOrder h u = true ∧ u.log.running = true ∧ u.log.fifo = [] ∧ u.log.permanent.length < 2048) ∧
    (∃ (s u : State) (dt : Nat) (h : BraidHead) (entry : PartnerRecord → Intake), u = s.elapse dt ∧
      entry = (fun r => { record := { index := 0, opsec := r.opsec.toNat, cycle := (r.cycle ||| 0x02000000).toNat, code := r.code.toNat, subject := r.subject.toNat, legalS := r.legalS.toNat, legalNs := r.legalNs.toNat, repeats := r.repeats.toNat, aux := r.aux.toNat, data := r.data.toNat }, partner := true, begun := false }) ∧
      inOrder h u = true ∧ u.log.running = true ∧ u.log.fifo = [] ∧ 2048 ≤ u.log.permanent.length) ∧
    (∃ (s u : State) (dt : Nat) (h : BraidHead) (entry : PartnerRecord → Intake), u = s.elapse dt ∧
      entry = (fun r => { record := { index := 0, opsec := r.opsec.toNat, cycle := (r.cycle ||| 0x02000000).toNat, code := r.code.toNat, subject := r.subject.toNat, legalS := r.legalS.toNat, legalNs := r.legalNs.toNat, repeats := r.repeats.toNat, aux := r.aux.toNat, data := r.data.toNat }, partner := true, begun := false }) ∧
      inOrder h u = true ∧ 64 ≤ u.log.fifo.length) :=
  ⟨⟨demo .steer, _, 0, nextHead, [(5, demoSnap)], demoUpdate, [], .integrators 0 nextHead [(5, demoSnap)],
    .ledger demoLedger, _, rfl, rfl, by decide +kernel⟩,
    ⟨demoPair .hold true false, _, (after (.braidAckFrame 0 nextHead) (demoPair .hold true false)), 0, nextHead,
      [(5, demoSnap)], demoUpdate, [], .integrators 0 nextHead [(5, demoSnap)], .ledger demoLedger, _, rfl, rfl,
      by decide +kernel, by decide +kernel, by decide +kernel, ack_next _ _⟩,
    ⟨demo .steer, _, 0, nextHead, [demoMirror 0x20001], [], .pointDelta 0 nextHead [demoMirror 0x20001], _, rfl,
      rfl, by decide +kernel⟩,
    ⟨demoShadow, _, 0, 5, nextHead, { record := pidRecord }, _, rfl, rfl, by decide +kernel⟩,
    ⟨demoShadow, _, 0, 9, nextHead, _, rfl, rfl, by decide +kernel⟩,
    ⟨demoShadow, _, 0, nextHead, _, rfl, rfl, by decide +kernel⟩,
    ⟨demoShadow, _, 0, nextHead, _, rfl, rfl, by decide +kernel⟩,
    ⟨demoShadow, _, 0, nextHead, (le32 1 ++ le32 131073 ++ [2, 1, 0, 0] ++ le32 100 ++ zeros 4), _, _, rfl, rfl,
      by decide +kernel, by decide +kernel, rfl⟩,
    ⟨demoFull .shadow, _, 0, nextHead, (le32 1 ++ le32 131074 ++ [2, 0, 0, 0] ++ le32 100 ++ zeros 4), _, rfl, rfl,
      by decide +kernel, by decide +kernel, demoFull_declare .shadow _ (by decide +kernel)⟩,
    ⟨{ demoShadow with courses := [(0, { coming := some ⟨0, []⟩ })] }, _, 0, nextHead,
      ([0, 1, 0, 0] ++ zeros 16 ++ zeros 4), _, rfl, rfl, by decide +kernel⟩,
    ⟨demoShadow, _, 0, nextHead, ([0, 1, 0, 0] ++ hSignature [] ++ zeros 4), ⟨0, []⟩, _, rfl, rfl,
      by decide +kernel⟩,
    ⟨demoShadow, _, 0, nextHead, ([0, 1, 0, 0] ++ (zeros 15 ++ [1]) ++ zeros 4), ⟨0, []⟩, _, rfl, rfl,
      by decide +kernel⟩,
    ⟨demoShadow, _, 0, nextHead, [{ demoMirror 0x20001 with reportSeq := 1, hostPin := some true }],
      { demoMirror 0x20001 with reportSeq := 1, hostPin := some true }, demoPoint, true, _, rfl, rfl,
      by decide +kernel⟩,
    ⟨demoShadow, _, 0, nextHead, [{ demoMirror 0x20001 with reportSeq := 1, hostPin := none }],
      { demoMirror 0x20001 with reportSeq := 1, hostPin := none }, demoPoint, _, rfl, rfl, by decide +kernel⟩,
    ⟨{ demoShadow with pts := { running := true, points := [(0, { demoPoint with pinned := true })] } }, _, 0,
      nextHead, [{ demoMirror 0x20001 with reportSeq := 1, hostPin := none }],
      { demoMirror 0x20001 with reportSeq := 1, hostPin := none }, { demoPoint with pinned := true }, _, rfl, rfl,
      by decide +kernel⟩,
    ⟨demoShadow, _, 0, nextHead, [{ demoMirror 0x20001 with reportSeq := 0, hostPin := none }],
      { demoMirror 0x20001 with reportSeq := 0, hostPin := none }, demoPoint, _, rfl, rfl, by decide +kernel⟩,
    ⟨demoShadow, _, 0, nextHead, _, rfl, rfl, by decide +kernel⟩,
    ⟨{ demoShadow with log := { running := true, fifo := [demoIntake true] } }, _, 0, nextHead,
      [demoPartnerRecord], _, rfl, rfl, by decide +kernel⟩,
    ⟨{ demoShadow with log := { running := true, fifo := [] } }, _, 0, nextHead, _, rfl, rfl, by decide +kernel⟩,
    ⟨{ demoShadow with log := { running := true, fifo := [], permanent := List.replicate 2048 (demoIntake true).record } },
      _, 0, nextHead, _, rfl, rfl, by decide +kernel⟩,
    ⟨{ demoShadow with log := { running := true, fifo := List.replicate 64 (demoIntake true) } }, _, 0, nextHead,
      _, rfl, rfl, by decide +kernel⟩⟩

/-- States and operands that meet the hypotheses of JobsAreMirrored, clause by clause. -/
theorem witness_JobsAreMirrored :
    (∃ (s u : State) (dt k : Nat) (h : BraidHead) (j : JobStartInfo) (vs : List (Dword × Nat)) (hash : Bytes) (i : Instr),
      u = s.elapse dt ∧
      (i = .jobStartFrame dt h j ∨ i = .gatherFrame dt h vs ∨ i = .iterDone dt h k ∨ i = .jobEndFrame dt h k hash) ∧
      inOrder h u = false) ∧
    (∃ (s u a : State) (dt k : Nat) (h : BraidHead) (j : JobStartInfo) (vs : List (Dword × Nat)) (hash : Bytes) (i : Instr),
      u = s.elapse dt ∧
      (i = .jobStartFrame dt h j ∨ i = .gatherFrame dt h vs ∨ i = .iterDone dt h k ∨ i = .jobEndFrame dt h k hash) ∧
      inOrder h u = true ∧ u.sys.mode ≠ .shadow ∧ exec (.braidAckFrame dt h) s = .next a) ∧
    (∃ (s u : State) (dt p : Nat) (h : BraidHead) (j : JobStartInfo), u = s.elapse dt ∧ inOrder h u = true ∧
      u.sys.mode = .shadow ∧ p = partitionOf j.plan) ∧
    (∃ (s u : State) (dt p : Nat) (h : BraidHead) (r : Running), u = s.elapse dt ∧ inOrder h u = true ∧
      u.sys.mode = .shadow ∧ p ≤ 1 ∧ runningOf u p = some r ∧ r.job.trigger = .partner ∧
      h.tagged = jobTag p r.job.number) ∧
    (∃ (s u : State) (dt p : Nat) (h : BraidHead) (r : Running), u = s.elapse dt ∧ inOrder h u = true ∧
      u.sys.mode = .shadow ∧ p ≤ 1 ∧ runningOf u p = some r ∧ r.job.trigger = .partner ∧
      h.tagged = jobTag p r.job.number) ∧
    (∃ (s u : State) (dt p k : Nat) (h : BraidHead) (r : Running), u = s.elapse dt ∧ inOrder h u = true ∧
      u.sys.mode = .shadow ∧ p ≤ 1 ∧ runningOf u p = some r ∧ r.job.trigger = .partner ∧
      h.tagged = jobTag p r.job.number ∧ r.ended = none ∧ r.phase = 3 ∧ r.iterations = k ∧ 0 < k) ∧
    (∃ (s u : State) (dt p k : Nat) (h : BraidHead) (r : Running), u = s.elapse dt ∧ inOrder h u = true ∧
      u.sys.mode = .shadow ∧ p ≤ 1 ∧ runningOf u p = some r ∧ r.job.trigger = .partner ∧
      h.tagged = jobTag p r.job.number ∧ r.ended = none ∧ r.phase = 3 ∧ r.iterations = k + 1) ∧
    (∃ (s u : State) (dt p k : Nat) (h : BraidHead) (r : Running), u = s.elapse dt ∧ inOrder h u = true ∧
      u.sys.mode = .shadow ∧ p ≤ 1 ∧ runningOf u p = some r ∧ r.job.trigger = .partner ∧
      h.tagged = jobTag p r.job.number ∧ (r.ended ≠ none ∨ r.phase ≠ 3 ∨ r.iterations ≠ k + 1 ∧
      (r.iterations ≠ k ∨ k = 0))) ∧
    (∃ (s u : State) (dt p k : Nat) (h : BraidHead) (vs : List (Dword × Nat)) (r : Running) (hash : Bytes) (i : Instr),
      u = s.elapse dt ∧ inOrder h u = true ∧ u.sys.mode = .shadow ∧
      (i = .gatherFrame dt h vs ∨ i = .iterDone dt h k ∨ i = .jobEndFrame dt h k hash) ∧ p ≤ 1 ∧
      (runningOf u p = none ∨ runningOf u p = some r ∧
      (r.job.trigger ≠ .partner ∨ h.tagged ≠ jobTag p r.job.number))) ∧
    (∃ (s u : State) (dt : Nat) (h : BraidHead) (y : Compare) (tag : Compare → Bool), u = s.elapse dt ∧
      inOrder h u = true ∧ u.sys.mode = .shadow ∧ tag = (fun z => decide (jobTag z.partition z.job = h.tagged)) ∧
      u.brd.compares.reverse.find? tag = some y ∧ compareOf u y.job = some y ∧ y.outcome = 0 ∧ y.own = [] ∧
      (runningOf u y.partition).map (·.job.number) = some y.job) ∧
    (∃ (s u : State) (dt k o : Nat) (h : BraidHead) (hash : Bytes) (y : Compare) (tag : Compare → Bool),
      u = s.elapse dt ∧ inOrder h u = true ∧ u.sys.mode = .shadow ∧
      tag = (fun z => decide (jobTag z.partition z.job = h.tagged)) ∧ u.brd.compares.reverse.find? tag = some y ∧
      compareOf u y.job = some y ∧ y.outcome = 0 ∧ y.own ≠ [] ∧
      (o = (if y.differs ∨ y.iterations < k ∨ u.brd.partnerFirmware ≠ u.sys.firmware then 3 else if y.own = hash then 1 else 2))) ∧
    (∃ (s u : State) (dt : Nat) (h : BraidHead) (y : Compare) (tag : Compare → Bool), u = s.elapse dt ∧
      inOrder h u = true ∧ u.sys.mode = .shadow ∧ tag = (fun z => decide (jobTag z.partition z.job = h.tagged)) ∧
      u.brd.compares.reverse.find? tag = some y ∧ compareOf u y.job = some y ∧ y.outcome = 0 ∧ y.own = [] ∧
      (runningOf u y.partition).map (·.job.number) ≠ some y.job) ∧
    (∃ (s u : State) (dt : Nat) (h : BraidHead) (tag : Compare → Bool), u = s.elapse dt ∧ inOrder h u = true ∧
      u.sys.mode = .shadow ∧ tag = (fun z => decide (jobTag z.partition z.job = h.tagged)) ∧
      u.brd.compares.reverse.find? tag = none) ∧
    (∃ (s u : State) (dt : Nat) (h : BraidHead) (y : Compare) (job : Word), u = s.elapse dt ∧ inOrder h u = true ∧
      compareOf u job.toNat = some y ∧ y.outcome = 0) ∧
    (∃ (s u a : State) (dt : Nat) (h : BraidHead) (y : Compare) (job : Word), u = s.elapse dt ∧
      inOrder h u = true ∧ (compareOf u job.toNat = none ∨ compareOf u job.toNat = some y ∧ y.outcome ≠ 0) ∧
      exec (.braidAckFrame dt h) s = .next a) ∧
    (∃ (s u : State) (dt : Nat) (h : BraidHead), u = s.elapse dt ∧ inOrder h u = false) ∧
    (∃ (s u : State) (dt p k n : Nat) (hash image sig : Bytes) (job : Word) (st : Half) (vectors : List (List Dword)) (item : BulkItem) (rest : List Nat) (rs : List MirrorPoint) (ds : List Bytes) (e : Option Estimate) (l : Option Ledger),
      u = s.elapse dt ∧ (item = .course p image ∧ n = (if p = 0 then 0 else 3) ∨ item = .points rs ds ∧
      n = 1 ∨ item = .ledgers e l ∧ n = 2 ∨ item = .iterate p sig job st k hash vectors ∧ n = 4 + p) ∧
      rest = u.brd.rebuild.filter (fun z => decide (z ≠ n))) :=
  ⟨⟨demo .steer, _, 0, 3, { nextHead with tagged := jobTag 0 1 }, demoStartInfo, [], zeros 48,
    .iterDone 0 ({ nextHead with tagged := jobTag 0 1 }) 3, rfl, by decide +kernel⟩,
    ⟨demoPair .hold true false, _,
      (after (.braidAckFrame 0 ({ nextHead with tagged := jobTag 0 1 })) (demoPair .hold true false)), 0, 3,
      { nextHead with tagged := jobTag 0 1 }, demoStartInfo, [], zeros 48,
      .iterDone 0 ({ nextHead with tagged := jobTag 0 1 }) 3, rfl, by decide +kernel, by decide +kernel,
      by decide +kernel, ack_next _ _⟩,
    ⟨demoShadow, _, 0, 0, { nextHead with tagged := jobTag 0 1 }, demoStartInfo, rfl, by decide +kernel⟩,
    ⟨demoShadow, _, 0, 0, { nextHead with tagged := jobTag 0 1 },
      { job := ⟨1, false, .partner, none, 0⟩, record := defaultRecord false, phase := 3, iterations := 0, ended := none },
      rfl, by decide +kernel⟩,
    ⟨demoShadow, _, 0, 0, { nextHead with tagged := jobTag 0 1 },
      { job := ⟨1, false, .partner, none, 0⟩, record := defaultRecord false, phase := 3, iterations := 0, ended := none },
      rfl, by decide +kernel⟩,
    ⟨{ demoShadow with slv := { running := [(0, { job := ⟨1, false, .partner, none, 0⟩, record := defaultRecord false, phase := 3, iterations := 3, ended := none })] } },
      _, 0, 0, 3, { nextHead with tagged := jobTag 0 1 },
      { job := ⟨1, false, .partner, none, 0⟩, record := defaultRecord false, phase := 3, iterations := 3, ended := none },
      rfl, by decide +kernel⟩,
    ⟨{ demoShadow with slv := { running := [(0, { job := ⟨1, false, .partner, none, 0⟩, record := defaultRecord false, phase := 3, iterations := 4, ended := none })] } },
      _, 0, 0, 3, { nextHead with tagged := jobTag 0 1 },
      { job := ⟨1, false, .partner, none, 0⟩, record := defaultRecord false, phase := 3, iterations := 4, ended := none },
      rfl, by decide +kernel⟩,
    ⟨demoShadow, _, 0, 0, 3, { nextHead with tagged := jobTag 0 1 },
      { job := ⟨1, false, .partner, none, 0⟩, record := defaultRecord false, phase := 3, iterations := 0, ended := none },
      rfl, by decide +kernel⟩,
    ⟨demoShadow, _, 0, 0, 3, nextHead, [],
      { job := ⟨1, false, .partner, none, 0⟩, record := defaultRecord false, phase := 3, iterations := 0, ended := none },
      zeros 48, .iterDone 0 nextHead 3, rfl, by decide +kernel⟩,
    ⟨{ demoShadow with brd := { demoShadow.brd with compares := [{ job := 1, partition := 0 }] } }, _, 0,
      { nextHead with tagged := jobTag 0 1 }, { job := 1, partition := 0 }, _, rfl, by decide +kernel,
      by decide +kernel, rfl, by decide +kernel⟩,
    ⟨{ demoShadow with brd := { demoShadow.brd with compares := [{ job := 1, partition := 0, own := zeros 48 }] } },
      _, 0, 3, _, { nextHead with tagged := jobTag 0 1 }, zeros 48, { job := 1, partition := 0, own := zeros 48 },
      _, rfl, by decide +kernel, by decide +kernel, rfl, by decide +kernel, by decide +kernel, by decide +kernel,
      by decide +kernel, rfl⟩,
    ⟨{ demoShadow with brd := { demoShadow.brd with compares := [{ job := 5, partition := 0 }] } }, _, 0,
      { nextHead with tagged := jobTag 0 5 }, { job := 5, partition := 0 }, _, rfl, by decide +kernel,
      by decide +kernel, rfl, by decide +kernel⟩,
    ⟨demoShadow, _, 0, { nextHead with tagged := jobTag 0 1 }, _, rfl, by decide +kernel, by decide +kernel, rfl,
      by decide +kernel⟩,
    ⟨{ demoPair .hold true false with brd := { (demoPair .hold true false).brd with compares := [{ job := 3, partition := 0 }] } },
      _, 0, nextHead, { job := 3, partition := 0 }, 3, rfl, by decide +kernel⟩,
    ⟨{ demoPair .hold true false with brd := { (demoPair .hold true false).brd with compares := [{ job := 4, partition := 0 }] } },
      _,
      (after (.braidAckFrame 0 ({ nextHead with tagged := jobTag 0 1 })) ({ demoPair .hold true false with brd := { (demoPair .hold true false).brd with compares := [{ job := 4, partition := 0 }] } })),
      0, { nextHead with tagged := jobTag 0 1 }, { job := 4, partition := 0 }, 3, rfl, by decide +kernel,
      by decide +kernel, ack_next _ _⟩,
    ⟨demo .steer, _, 0, { nextHead with tagged := jobTag 0 1 }, rfl, by decide +kernel⟩,
    ⟨{ demoShadow with brd := { (demoShadow).brd with rebuild := [2, 4] } }, _, 0, 0, 3, 2, zeros 48, [], [], 0, 0,
      [], .ledgers none none, _, [], [], none, none, rfl, Or.inr (Or.inr (Or.inl ⟨rfl, rfl⟩)), rfl⟩⟩

/-- States and operands that meet the hypotheses of StepRunsTheFrontCommand, clause by clause. -/
theorem witness_StepRunsTheFrontCommand :
    (∃ (s : State) (c : Instr) (rest : List Instr), s.pending = c :: rest) ∧
    (∃ (s : State), s.pending = []) :=
  ⟨⟨{ demo .steer with pending := [.vbatMeasure 0 3000] }, .vbatMeasure 0 3000, [], by decide +kernel⟩,
    ⟨demo .steer, by decide +kernel⟩⟩

/-- States and operands that meet the hypotheses of PermanentRecordsStay, clause by clause. -/
theorem witness_PermanentRecordsStay :
    (∃ (s t : State), step s = .next t) ∧
    (∃ (s t : State), step s = .next t ∧ s.log.circulating.length ≤ 32768) :=
  ⟨⟨{ demo .steer with pending := [.vbatMeasure 0 3000] }, (after (.vbatMeasure 0 3000) (demo .steer)), rfl⟩,
    ⟨{ demo .steer with pending := [.vbatMeasure 0 3000] }, (after (.vbatMeasure 0 3000) (demo .steer)), rfl,
      by decide +kernel⟩⟩

/-- States and operands that meet the hypotheses of FusesAreOnlyBlown, clause by clause. -/
theorem witness_FusesAreOnlyBlown :
    (∃ (s t : State), step s = .next t) ∧
    (∃ (s t : State), step s = .next t ∧ s.key.fuses ≤ 16) ∧
    (∃ (s t : State), step s = .next t ∧ s.key.fuses ≤ 16) :=
  ⟨⟨{ demo .steer with pending := [.vbatMeasure 0 3000] }, (after (.vbatMeasure 0 3000) (demo .steer)), rfl⟩,
    ⟨{ demo .steer with pending := [.vbatMeasure 0 3000] }, (after (.vbatMeasure 0 3000) (demo .steer)), rfl,
      by decide +kernel⟩,
    ⟨{ demo .steer with pending := [.vbatMeasure 0 3000] }, (after (.vbatMeasure 0 3000) (demo .steer)), rfl,
      by decide +kernel⟩⟩

/-- States and operands that meet the hypotheses of ConfigurationMemoryStaysCanonical, clause by clause. -/
theorem witness_ConfigurationMemoryStaysCanonical :
    (∃ (s t : State), step s = .next t ∧ Memory.wf s.cfg.copyA = true ∧ Memory.wf s.cfg.copyB = true ∧
      Memory.wf s.cfg.staging = true) ∧
    (∃ (s t : State), step s = .next t ∧ Memory.wf s.cfg.copyA = true ∧ Memory.wf s.cfg.copyB = true ∧
      Memory.wf s.cfg.staging = true) ∧
    (∃ (s t : State), step s = .next t ∧ Memory.wf s.cfg.copyA = true ∧ Memory.wf s.cfg.copyB = true ∧
      Memory.wf s.cfg.staging = true) :=
  ⟨⟨{ demo .steer with pending := [.vbatMeasure 0 3000] }, (after (.vbatMeasure 0 3000) (demo .steer)), rfl,
    by decide +kernel⟩,
    ⟨{ demo .steer with pending := [.vbatMeasure 0 3000] }, (after (.vbatMeasure 0 3000) (demo .steer)), rfl,
      by decide +kernel⟩,
    ⟨{ demo .steer with pending := [.vbatMeasure 0 3000] }, (after (.vbatMeasure 0 3000) (demo .steer)), rfl,
      by decide +kernel⟩⟩

/-- States and operands that meet the hypotheses of ReadsChangeNothing, clause by clause. -/
theorem witness_ReadsChangeNothing :
    ∃ (s u t : State) (dt : Nat) (c : Cmd) (i : Instr), u = s.elapse dt ∧ u.sys.resetWanted = none ∧
      exec i s = .next t ∧
      i ∈ [Instr.sysNop dt c, .sysInfo dt c, .sysStatus dt c, .modeGet dt c, .islandPolicyGet dt c, .adcSampleRead dt c, .mtrRead dt c, .mtrSnapRead dt c, .ptsRead dt c, .ptsSnapshot dt c, .ptsUnitStatus dt c, .crsInfo dt c, .jobResult dt c, .ledgerRead dt c, .loopRead dt c, .traceRead dt c, .slcStatus dt c, .outRead dt c, .canStatus dt c, .timRead dt c, .pairStatus dt c, .pairCompare dt c, .keyStatus dt c, .cfgRead dt c, .recRead dt c, .recInfo dt c, .dmpInfo dt c, .dmpRead dt c] :=
  ⟨demo .steer, _, (after (.sysNop 0 (ask [])) (demo .steer)), 0, ask [], .sysNop 0 (ask []), rfl, rfl, rfl,
    List.mem_cons_self⟩

/-- States and operands that meet the hypotheses of SettersKeepTheRest, clause by clause. -/
theorem witness_SettersKeepTheRest :
    ∃ (s u t : State) (dt : Nat) (c : Cmd) (mean : SyscalMean) (tries : List I2cTry) (x : Bool) (i : Instr) (bs : List Block) (k : Block),
      u = s.elapse dt ∧ u.sys.resetWanted = none ∧ exec i s = .next t ∧ (i,
      bs) ∈ [ (Instr.sesChallenge dt c, ([.free] : List Block)), (.sesOpen dt c, [.free]), (.sesClose dt c, [.evt, .courses, .lpe]), (.islandPolicySet dt c, [.policy, .pln, .brd, .key]), (.adcChanSet dt c, [.evt, .adc, .pts]), (.adcSeqSet dt c, [.adc]), (.adcCalSet dt c, [.evt, .log, .adc]), (.adcSyscal dt c mean, [.free, .adc]), (.mtrChanSet dt c, [.mtr, .pts]), (.mtrTcompSet dt c, [.mtr]), (.mtrSensorAccept dt c tries, [.evt, .log, .mtr, .brd, .key]), (.mtrPulseSet dt c, [.mtr]), (.ptsDeclare dt c, [.pts, .brd, .key]), (.ptsWrite dt c, [.pts, .brd, .key]), (.ptsUnitSet dt c, [.pts]), (.crsBegin dt c, [.evt, .courses]), (.crsData dt c, [.courses]), (.crsCommit dt c, [.courses]), (.crsDelta dt c, [.courses, .pln, .brd, .key]), (.crsDrop dt c, [.courses]), (.jobRun dt c, [.slv, .pln]), (.jobAbort dt c, [.free, .evt, .slv, .pln]), (.partSet dt c, [.slv, .brd, .key]), (.loopSet dt c, [.pts, .lpe]), (.loopGainSet dt c, [.lpe]), (.loopEnable dt c, [.evt, .log, .pts, .lpe]), (.traceArm dt c, [.lpe]), (.outSet dt c, [.out]), (.outBind dt c, [.evt, .out]), (.slcSafeSet dt c, [.slc]), (.slcRelease dt c, [.evt, .log, .brd, .lpe, .slc, .key]), (.canChanSet dt c, [.evt, .can]), (.canObjSet dt c, [.can]), (.canSend dt c, [.can]), (.canCancel dt c, [.can]), (.timLegalSet dt c, [.evt, .tim, .log, .adc, .pts, .slv, .pln]), (.timPtpSet dt c, [.evt, .tim, .adc]), (.timServoSet dt c, [.evt, .tim]), (.pairSet dt c, [.evt, .log, .adc, .mtr, .brd, .can, .key]), (.pairHandover dt c, [.brd, .key]), (.keyDerive dt c, [.evt, .brd, .key]), (.keyUpdate dt c, [.evt, .brd, .key]), (.keyDestroy dt c x, [.evt, .brd, .key]), (.keyRoleSet dt c, [.evt, .courses, .lpe, .key]), (.lcAdvance dt c, [.free, .evt, .courses, .brd, .lpe, .key]), (.updBegin dt c, [.upd]), (.updData dt c, [.board, .upd]), (.updVerify dt c, [.board, .evt, .upd]), (.updArm dt c, [.upd]), (.updConfirm dt c, [.evt, .upd]), (.updStatus dt c, [.free, .upd]), (.updLock dt c, [.upd]), (.cfgStage dt c, [.cfg]), (.recClear dt c, [.evt, .log])] ∧
      k ∉ bs ∧ k ∉ [Block.sent, .vcp, .pcie, .sys, .net] :=
  ⟨demo .steer, _, (after (.sesChallenge 0 (ask [])) (demo .steer)), 0, ask [], ⟨0, 0, false⟩, [], false,
    .sesChallenge 0 (ask []), [.free], .slc, rfl, rfl, rfl, List.mem_cons_self, by decide +kernel⟩

/-- States and operands that meet the hypotheses of EventsKeepTheRest, clause by clause. -/
theorem witness_EventsKeepTheRest :
    ∃ (s u t : State) (dt : Nat) (pll : Pll) (n n1 : Nat) (x x1 : Bool) (v : Byte) (at_ : Option Nat) (hs : Handshake) (w : Word) (cmp : Comparators) (z : Int) (o o1 o2 : Half) (tries : List I2cTry) (hello : UppHello) (rec : UppRecord) (notes : FabricNotes) (err : Option CanError) (frame : CanFrame) (sync : Sync) (ann : Announce) (net : NetFrame) (peer : Option Hello) (head : BraidHead) (beat : Beat) (slots : Table SlotSnap) (start : JobStartInfo) (values : List (Dword × Nat)) (b : Bytes) (ledger : LedgerFrame) (points : List MirrorPoint) (records : List
    PartnerRecord) (item : BulkItem) (pcie : PcieConfig) (fault : CanError) (send : PtpSend) (delay : PtpDelay) (i : Instr) (bs : List Block) (k : Block),
      u = s.elapse dt ∧ exec i s = .next t ∧ (i,
      bs) ∈ [ (Instr.pciePerstN dt, ([.sys, .evt, .vcp, .courses, .lpe] : List Block)), (.functionLevelReset dt, [.sys, .evt, .vcp, .courses, .lpe]), (.pllRelock dt pll, [.pmu, .tim]), (.vbatMeasure dt n, [.pmu, .evt]), (.fabLingerExpiry dt x, [.pmu, .slv]), (.shortSummary dt, [.free, .sys, .evt, .dmp]), (.tamperDetect dt v, [.free, .evt, .brd, .key]), (.vaultRefresh dt, [.free, .key]), (.rtcRealign dt, [.rtc]), (.timCntLRead dt n n1, [.tim, .mtr]), (.mtrAccLRead dt n n1, [.tim, .mtr]), (.msixVectorUnmask dt at_, []), (.evtHoldoffExpiry dt n, [.evt]), (.spiReadStatus dt, [.vcp]), (.spiReadResponse dt n, [.vcp]), (.vcpDtlsHandshake dt hs, [.sys, .evt, .vcp, .net, .courses, .lpe]), (.sessionIdleTimeout dt w, [.sys, .evt, .vcp, .courses, .lpe]), (.dtlsAssociationClose dt n, [.sys, .evt, .vcp, .courses, .lpe]), (.outputHoldTimeout dt, [.evt, .out]), (.calibrationIdleExpiry dt n, [.evt, .log, .adc]), (.sarConversionDone dt n n1 cmp, [.evt, .adc, .pts]), (.meteringSample dt n z cmp, [.evt, .adc, .mtr, .pts]), (.urgentConversionDone dt n n1 cmp, [.free, .evt, .log, .adc, .pts, .lpe, .out]), (.countingEdge dt n x x1, [.evt, .adc, .mtr, .pts]), (.referenceMeasure dt o o1, [.evt, .adc]), (.referenceReady dt x, [.adc]), (.meteringPeriodClose dt, [.free, .evt, .log, .adc, .mtr, .pts, .brd, .key]), (.thermalTick dt n, [.evt, .mtr]), (.accumulatorSecondWrite dt, [.mtr]), (.pulseEmit dt n, [.mtr]), (.sensorIdentityRead dt n tries, [.evt, .log, .mtr, .brd, .key]), (.uppClientHello dt hello, [.net, .pts]), (.uppDatagram dt rec, [.evt, .log, .net, .pts]), (.pointEngineApply dt, [.net, .pts, .brd, .key]), (.slotWindowStart dt n, [.pts]), (.throttleExpiry dt n, [.pts]), (.unitSilent dt n, [.evt, .pts]), (.periodTrigger dt n, [.evt, .slv, .pln]), (.eventTrigger dt n, [.evt, .slv, .pln]), (.jobStart dt n, [.pmu, .evt, .courses, .slv, .pln, .brd, .key]), (.workAreaAvailable dt n, [.pmu, .courses, .slv, .pln, .brd, .key]), (.jobIterationEnd dt n notes, [.evt, .slv, .brd, .key]), (.jobDeadline dt n, [.slv]), (.scheduleStall dt n, [.evt, .slv]), (.jobEnd dt n, [.pmu, .evt, .log, .courses, .slv, .pln, .brd, .key]), (.pendingJobStart dt n, [.evt, .slv, .pln]), (.fallbackWriteDone dt, [.pln]), (.transientHoldRaise dt, [.evt, .pln]), (.transientHoldEnd dt, [.evt, .pln]), (.forecastReplay dt, [.courses, .pln]), (.loopEvaluation dt n, [.free, .evt, .log, .adc, .pts, .pln, .lpe, .out]), (.integratorSnapshot dt, [.brd, .lpe, .key]), (.statusPortRead dt n, []), (.loopEngineRestart dt, [.free, .sys, .evt, .vcp, .log, .net, .pts, .pln, .lpe, .out]), (.canDueInstant dt n n1, [.free, .evt, .pln, .can]), (.canArbitrationEnd dt n x, [.vcp, .net, .can]), (.canFrameEnd dt n err, [.free, .evt, .vcp, .net, .can]), (.canFrameReceived dt n n1 frame, [.free, .evt, .pts, .can]), (.canBusOff dt n, [.evt, .vcp, .net, .can]), (.canBusOffRecovery dt n, [.can]), (.canBusIntegration dt n, [.can]), (.ptpSync dt n sync, [.evt, .tim, .log, .adc, .pts, .slv, .pln]), (.legalRateSet dt, [.evt, .tim]), (.announceReceiptTimeout dt n, [.evt, .tim, .adc]), (.holdSExpiry dt, [.tim]), (.ptpAnnounce dt n ann, [.evt, .tim, .adc]), (.leapApply dt, [.tim]), (.sgmiiLinkChange dt n x n1, [.evt, .tim, .net, .adc]), (.netFrameReceived dt net, [.evt, .net]), (.prpSupervision dt n, [.net]), (.braidLinkTrain dt peer, [.evt, .brd, .key]), (.braidResendTimeout dt, [.brd, .key]), (.heartbeatSend dt, [.brd, .key]), (.heartbeat dt head beat, [.evt, .brd, .key]), (.leaseLapse dt, [.sys, .evt, .adc, .brd, .out, .can]), (.requestUnanswered dt, [.evt, .brd]), (.integrators dt head slots, [.brd, .lpe, .key]), (.jobStartFrame dt head start, [.free, .pmu, .evt, .log, .courses, .slv, .pln, .brd, .key]), (.gatherFrame dt head values, [.slv, .brd, .key]), (.iterDone dt head n, [.slv, .brd, .key]), (.jobEndFrame dt head n b, [.evt, .log, .slv, .brd, .key]), (.compare dt head w b n, [.evt, .log, .brd, .key]), (.ledgerFrame dt head ledger, [.evt, .pln, .brd, .key]), (.deltaFrame dt head b, [.courses, .pln, .brd, .key]), (.declareFrame dt head b, [.pts, .brd, .key]), (.pointDelta dt head points, [.pts, .brd, .key]), (.recordFrame dt head records, [.evt, .log, .brd, .key]), (.bulkTransferDone dt item, [.evt, .pts, .courses, .slv, .pln, .brd, .key]), (.keyOperationDone dt n, [.evt, .key]), (.pairKeySwitch dt, [.key]), (.previousPairKeyExpiry dt, [.key]), (.updateHolderLapse dt, [.evt, .upd]), (.recorderReport dt o o1 o2 w, [.evt, .log]), (.recordWriteDone dt, [.log, .brd, .key]), (.tripInputInactive dt n, [.board, .slc]), (.vbatApplied dt, [.board, .evt, .rtc, .brd, .key]), (.pcieConfigWrite dt pcie, [.evt]), (.ethernetLinkChange dt n x, [.net]), (.canReceiveError dt n fault n1, [.evt, .can]), (.ptpMessageInterval dt n send, [.tim]), (.ptpDelayMessage dt n delay, [.evt, .tim, .log, .adc, .pts, .slv, .pln]), (.braidLaneDown dt, [.evt, .brd]), (.braidFrameDiscard dt w, [.evt, .brd]), (.braidAckFrame dt head, [.brd, .key]), (.loopAliveToggle dt, [.lpe]), (.actWaitExpiry dt, [.evt, .upd])] ∧
      k ∉ bs ∧ k ∉ [Block.sent, .pcie] :=
  ⟨demo .steer, _, (after (.pciePerstN 0) (demo .steer)), 0, .sys, 0, 0, false, false, 0, none, ⟨0, 0, true, true,
    []⟩, 0, ⟨false, false⟩, 0, 0, 0, 0, [], ⟨false, 0, 0, false, false, none, none⟩, ⟨false, 0, 0, false, []⟩, ⟨[],
    [], false, false⟩, none, canDemoFrame, ⟨false, 0, 0⟩, demoAnnounce, ⟨0, 64, true, 0, false, 0, none, 3⟩, none,
    nextHead, demoBeat [], [], demoStartInfo, [], [], .ledger demoLedger, [], [], .ledgers none none,
    .memorySpace true, .ack, .sync, .delayReq, .pciePerstN 0, [.sys, .evt, .vcp, .courses, .lpe], .slc, rfl, rfl,
    List.mem_cons_self, by decide +kernel⟩

/-- States and operands that meet the hypotheses of OutBindIsR296, clause by clause. -/
theorem witness_OutBindIsR296 :
    (∃ (s u : State) (dt o src : Nat) (c : Cmd) (call : Call), u = s.elapse dt ∧ Accepted rowOutBind c u call ∧
      call.payload.length = 4 ∧ o = u16 call.payload 0 ∧ src = u16 call.payload 2 ∧ o ≤ 111 ∧
      gpioInput u o = false ∧ (src ≤ 0x3FF ∨ src = 0xFFFF)) ∧
    (∃ (s u : State) (dt o src : Nat) (c : Cmd) (call : Call), u = s.elapse dt ∧ Accepted rowOutBind c u call ∧
      call.payload.length = 4 ∧ o = u16 call.payload 0 ∧ src = u16 call.payload 2 ∧
      (111 < o ∨ gpioInput u o = true ∨ (0x3FF < src ∧ src ≠ 0xFFFF))) :=
  ⟨⟨demo .service, _, 0, 47, 1023, ask [47, 0, 0xFF, 3], seen [47, 0, 0xFF, 3], rfl, ⟨by decide +kernel, rfl⟩,
    by decide +kernel⟩,
    ⟨demo .service, _, 0, 112, 1023, ask [112, 0, 0xFF, 3], seen [112, 0, 0xFF, 3], rfl, ⟨by decide +kernel, rfl⟩,
      by decide +kernel⟩⟩

/-- States and operands that meet the hypotheses of RecInfoIsR435, clause by clause. -/
theorem witness_RecInfoIsR435 :
    ∃ (s u : State) (dt old new : Nat) (c : Cmd) (call : Call), u = s.elapse dt ∧ Accepted rowRecInfo c u call ∧
      call.payload = [] ∧ 16 ≤ call.cap ∧ (u.log.circulating = [] → old = u.log.next) ∧ (∀ r rs,
      u.log.circulating = r :: rs → old = r.index) ∧ (u.log.newest = none → new = 0xFFFFFFFF) ∧ (∀ n,
      u.log.newest = some n → new = n) :=
  ⟨demo .steer, _, 0, 2048, 0xFFFFFFFF, ask [], seen [], rfl, ⟨by decide +kernel, rfl⟩, by decide +kernel,
    by decide +kernel, by decide +kernel, (fun r rs h => absurd h (List.cons_ne_nil _ _).symm), by decide +kernel,
    (fun n h => absurd h (Option.some_ne_none _).symm)⟩

/-- States and operands that meet the hypotheses of CfgReadIsR422, clause by clause. -/
theorem witness_CfgReadIsR422 :
    (∃ (s u : State) (dt n count off : Nat) (c : Cmd) (call : Call), u = s.elapse dt ∧
      Accepted rowCfgRead c u call ∧ call.payload.length = 8 ∧ n = u8 call.payload 0 ∧ n ≤ 2 ∧
      u8 call.payload 1 = 0 ∧ count = u16 call.payload 2 ∧ off = u32 call.payload 4 ∧ (count = 0 ∨ 16380 < count)) ∧
    (∃ (s u : State) (dt n count off : Nat) (c : Cmd) (call : Call), u = s.elapse dt ∧
      Accepted rowCfgRead c u call ∧ call.payload.length = 8 ∧ n = u8 call.payload 0 ∧ n ≤ 2 ∧
      u8 call.payload 1 = 0 ∧ count = u16 call.payload 2 ∧ off = u32 call.payload 4 ∧ 1 ≤ count ∧ count ≤ 16380 ∧
      4 + count ≤ call.cap ∧ n = 2 ∧ u.cfg.inForce ≠ 1 ∧ u.cfg.inForce ≠ 2) ∧
    (∃ (s u : State) (dt n count off : Nat) (c : Cmd) (call : Call) (m : Memory), u = s.elapse dt ∧
      Accepted rowCfgRead c u call ∧ call.payload.length = 8 ∧ n = u8 call.payload 0 ∧ n ≤ 2 ∧
      u8 call.payload 1 = 0 ∧ count = u16 call.payload 2 ∧ off = u32 call.payload 4 ∧ 1 ≤ count ∧ count ≤ 16380 ∧
      4 + count ≤ call.cap ∧ (((n = 0 ∨ (n = 2 ∧ u.cfg.inForce = 1)) ∧ m = u.cfg.copyA) ∨ ((n = 1 ∨ (n = 2 ∧
      u.cfg.inForce = 2)) ∧ m = u.cfg.copyB)) ∧ img32 m 0 ≠ 0x47465A56) ∧
    (∃ (s u : State) (dt n count off : Nat) (c : Cmd) (call : Call) (m : Memory), u = s.elapse dt ∧
      Accepted rowCfgRead c u call ∧ call.payload.length = 8 ∧ n = u8 call.payload 0 ∧ n ≤ 2 ∧
      u8 call.payload 1 = 0 ∧ count = u16 call.payload 2 ∧ off = u32 call.payload 4 ∧ 1 ≤ count ∧ count ≤ 16380 ∧
      4 + count ≤ call.cap ∧ (((n = 0 ∨ (n = 2 ∧ u.cfg.inForce = 1)) ∧ m = u.cfg.copyA) ∨ ((n = 1 ∨ (n = 2 ∧
      u.cfg.inForce = 2)) ∧ m = u.cfg.copyB)) ∧ img32 m 0 = 0x47465A56 ∧ 128 + img32 m 12 < off + count) ∧
    (∃ (s u : State) (dt n count off : Nat) (c : Cmd) (call : Call) (m : Memory), u = s.elapse dt ∧
      Accepted rowCfgRead c u call ∧ call.payload.length = 8 ∧ n = u8 call.payload 0 ∧ n ≤ 2 ∧
      u8 call.payload 1 = 0 ∧ count = u16 call.payload 2 ∧ off = u32 call.payload 4 ∧ 1 ≤ count ∧ count ≤ 16380 ∧
      4 + count ≤ call.cap ∧ (((n = 0 ∨ (n = 2 ∧ u.cfg.inForce = 1)) ∧ m = u.cfg.copyA) ∨ ((n = 1 ∨ (n = 2 ∧
      u.cfg.inForce = 2)) ∧ m = u.cfg.copyB)) ∧ img32 m 0 = 0x47465A56 ∧ off + count ≤ 128 + img32 m 12) :=
  ⟨⟨demo .steer, _, 0, _, _, _, ask [2, 0, 0, 0, 0, 0, 0, 0], seen [2, 0, 0, 0, 0, 0, 0, 0], rfl,
    ⟨by decide +kernel, rfl⟩, by decide +kernel, rfl, by decide +kernel, by decide +kernel, rfl, rfl,
    by decide +kernel⟩,
    ⟨demo .steer, _, 0, _, _, _, ask [2, 0, 1, 0, 0, 0, 0, 0], seen [2, 0, 1, 0, 0, 0, 0, 0], rfl,
      ⟨by decide +kernel, rfl⟩, by decide +kernel, rfl, by decide +kernel, by decide +kernel, rfl, rfl,
      by decide +kernel, by decide +kernel, by decide +kernel, rfl, by decide +kernel⟩,
    ⟨demo .steer, _, 0, _, _, _, ask [0, 0, 1, 0, 0, 0, 0, 0], seen [0, 0, 1, 0, 0, 0, 0, 0], [], rfl,
      ⟨by decide +kernel, rfl⟩, by decide +kernel, rfl, by decide +kernel, by decide +kernel, rfl, rfl,
      by decide +kernel⟩,
    ⟨{ demo .steer with cfg := { copyA := stagedEmpty } }, _, 0, _, _, _, ask [0, 0, 1, 0, 128, 0, 0, 0],
      seen [0, 0, 1, 0, 128, 0, 0, 0], stagedEmpty, rfl, ⟨by decide +kernel, rfl⟩, by decide +kernel, rfl,
      by decide +kernel, by decide +kernel, rfl, rfl, by decide +kernel⟩,
    ⟨{ demo .steer with cfg := { copyA := stagedEmpty } }, _, 0, _, _, _, ask [0, 0, 1, 0, 127, 0, 0, 0],
      seen [0, 0, 1, 0, 127, 0, 0, 0], stagedEmpty, rfl, ⟨by decide +kernel, rfl⟩, by decide +kernel, rfl,
      by decide +kernel, by decide +kernel, rfl, rfl, by decide +kernel⟩⟩

end Sys2Proof.Tests
end

section
/-! What a VCP command emits and answers: nothing emitted is taken back, and an accepted command's
response stands behind all that its body emitted (R30, R33). -/

namespace Sys2Proof.Proofs

open Sys2Proof Sys2Proof.Machine Sys2Proof.Laws

/-! ### What is emitted stays emitted -/

theorem emit_sent_prefix (e) (s : State) : s.sent <+: (emit e s).sent := by simp

theorem sendFrame_sent_prefix (p) (s : State) : s.sent <+: (sendFrame p s).sent := by
  unfold sendFrame
  split
  · exact emit_sent_prefix _ s
  · exact List.prefix_append _ _

theorem countRecord_sent_prefix (a) (s : State) : s.sent <+: (countRecord a s).sent := by
  unfold countRecord
  split
  · exact List.prefix_rfl
  · split
    · exact List.prefix_rfl
    · exact emit_sent_prefix _ _

theorem postMsix_sent_prefix (v) (s : State) : s.sent <+: (postMsix v s).sent := by
  unfold postMsix
  split
  · exact List.prefix_rfl
  · exact emit_sent_prefix _ s

theorem sendMessage_sent_prefix (v) (s : State) : s.sent <+: (sendMessage v s).sent := by
  unfold sendMessage
  split
  · refine List.IsPrefix.trans ?_ (postMsix_sent_prefix v _)
    exact List.prefix_rfl
  · exact List.prefix_rfl

theorem raise_sent_prefix (n) (s : State) : s.sent <+: (raise n s).sent := by
  simp only [raise]
  split
  · refine List.IsPrefix.trans ?_ (sendMessage_sent_prefix _ _)
    exact List.prefix_rfl
  · exact List.prefix_rfl

theorem complete_sent_prefix (r x st b h) (s : State) : s.sent <+: (complete r x st b h s).sent := by
  unfold complete
  extract_lets ring tail rings s1
  have posted : s.sent <+: s1.sent := emit_sent_prefix _ _
  split
  · exact posted.trans (postMsix_sent_prefix _ s1)
  · exact posted

theorem written_sent_prefix (call data) (s : State) : s.sent <+: (written call data s).sent := by
  unfold written
  split
  · exact List.prefix_append _ _
  · exact List.prefix_rfl

@[simp] theorem written_out (call data) (s : State) : (written call data s).out = s.out := by
  unfold written
  split <;> rfl

@[simp] theorem written_sys (call data) (s : State) : (written call data s).sys = s.sys := by
  unfold written
  split <;> rfl

/-- A response leaves first, and what its transport adds follows it (R30, R47). -/
theorem post_sent_prefix (w q d o f x b) (s : State) :
    s.sent ++ [.response w.transport w.assoc q d (BitVec.ofNat 16 o) f x b (packetTrailer w.transport q d o f x b)
      w.address] <+: (post w q d o f x b s).sent := by
  unfold post
  extract_lets trailer s1
  split
  · exact (countRecord_sent_prefix _ s1).trans (sendFrame_sent_prefix _ _)
  · exact List.prefix_rfl
  · exact complete_sent_prefix _ _ _ _ _ s1

theorem respond_sent_prefix (o c st data) (s : State) :
    s.sent ++ [replyTo o c st data] <+: (respond o c false st data s).sent :=
  post_sent_prefix (returnOf c) c.seq c.sid o.code (rspFlags c.flags false) st data s

/-- What follows a state that has emitted all that an earlier one had is emitted since that one. -/
theorem mem_sentSince {s m t : State} {e : Sent} (before : s.sent <+: m.sent) (after : m.sent ++ [e] <+: t.sent) :
    e ∈ sentSince s t := by
  obtain ⟨x, hx⟩ := before
  obtain ⟨y, hy⟩ := after
  simp [sentSince, ← hy, ← hx]

/-! ### An accepted command, by its body's answer (R33) -/

@[simp] theorem enter_resetWanted (call) (s : State) : (enter call s).sys.resetWanted = s.sys.resetWanted := by
  simp only [enter, contactBy]
  split <;> simp

section
variable {o : OpRow} {body : Body} {c : Cmd} {call : Call} {s t : State}

/-- The whole effect of an accepted command whose body refuses: its response (R33). -/
theorem runOp_of_refuse {st : Half} (acc : Accepted o c s call)
    (h : body call (enter call (touch c s)) = (t, .refuse st)) :
    runOp o body c s = respond o c false st [] (touch c s) := by
  obtain ⟨run, noReset⟩ := acc
  have e : runCommand o body c s = respond o c false st [] (touch c s) := by
    simp only [runCommand, conclude, run]
    exact runBody_refused o body c call (touch c s) t st h
  rw [runOp, e, finishReset_none]
  simp [noReset]

/-- The whole effect of an accepted command whose body succeeds within the response's space and asks for no reset; with
DMA_OUT too, where `runOp_ok` is for a command without (R33, R36). -/
theorem runOp_of_ok {data : Bytes} (acc : Accepted o c s call)
    (h : body call (enter call (touch c s)) = (t, .ok data)) (room : data.length ≤ call.cap)
    (noReset : t.sys.resetWanted = none) :
    runOp o body c s =
      settle o c stOk (carried call data) (respond o c false stOk (carried call data) (written call data t)) := by
  obtain ⟨run, -⟩ := acc
  have e : runCommand o body c s =
      settle o c stOk (carried call data) (respond o c false stOk (carried call data) (written call data t)) := by
    simp only [runCommand, conclude, run]
    exact runBody_ok o body c call (touch c s) t data h room
  rw [runOp, e, finishReset_none]
  simp [noReset]

/-- An accepted command whose body refuses has answered the status. -/
theorem failed_of_refuse {st : Half} (acc : Accepted o c s call)
    (h : body call (enter call (touch c s)) = (t, .refuse st)) : Failed o c s (runOp o body c s) st := by
  rw [runOp_of_refuse acc h]
  exact mem_sentSince (m := touch c s) (by simp) (respond_sent_prefix o c st [] _)

/-- An accepted command whose body succeeds has answered ST_OK with the body's data. -/
theorem answered_of_ok {data : Bytes} (acc : Accepted o c s call)
    (h : body call (enter call (touch c s)) = (t, .ok data)) (room : data.length ≤ call.cap)
    (noReset : t.sys.resetWanted = none) (sent : s.sent <+: t.sent) :
    Answered o c call s (runOp o body c s) stOk data := by
  rw [runOp_of_ok acc h room noReset]
  refine mem_sentSince (sent.trans (written_sent_prefix call data t)) ?_
  simpa using respond_sent_prefix o c stOk (carried call data) (written call data t)

end

end Sys2Proof.Proofs
end

section
/-! OUT_BIND (R296): the source of an output as bound, and the body of the command. -/

namespace Sys2Proof.Proofs

open Sys2Proof Sys2Proof.Machine Sys2Proof.Laws

/-! ### Sources of outputs -/

/-- The state with an output's source written, 0xFFFF for none (R296). -/
def withSource (o src : Nat) (s : State) : State :=
  { s with out := { s.out with
    binding := if src = 0xFFFF then tdel s.out.binding o else tset s.out.binding o src } }

@[simp] theorem withSource_sys (o src) (s : State) : (withSource o src s).sys = s.sys := rfl
@[simp] theorem withSource_sent (o src) (s : State) : (withSource o src s).sent = s.sent := rfl

/-- An output's source is read from the bindings alone, its direction from the outputs' registers alone. -/
theorem boundSlot_congr {s t : State} (h : t.out.binding = s.out.binding) (o : Nat) :
    boundSlot t o = boundSlot s o := by
  simp only [boundSlot, h]

theorem gpioInput_congr {s t : State} (h : t.out = s.out) (o : Nat) : gpioInput t o = gpioInput s o := by
  simp only [gpioInput, h]

/-- The output bound has its new source. -/
theorem boundSlot_withSource_same {o src : Nat} (s : State) (h : src ≤ 0x3FF ∨ src = 0xFFFF) :
    boundSlot (withSource o src s) o = if src = 0xFFFF then none else some src := by
  by_cases e : src = 0xFFFF
  · simp [boundSlot, withSource, e, tget]
  · have slot : src < 1024 := by omega
    simp [boundSlot, withSource, e, slot]

/-- Every other output keeps its source. -/
theorem boundSlot_withSource_ne {o k : Nat} (src : Nat) (s : State) (h : k ≠ o) :
    boundSlot (withSource o src s) k = boundSlot s k := by
  have same : tget (withSource o src s).out.binding k 0xFFFF = tget s.out.binding k 0xFFFF := by
    simp only [withSource]
    split
    · simp only [tget, tfind_tdel_ne _ h]
    · exact tget_tset_ne _ _ _ h
  simp only [boundSlot, same]

/-! ### The CLAMP flag (R295): a flag and its event, no binding and no reset -/

/-- The CLAMP flag is raised or the state stays as it is. -/
theorem clampFlag_cases (o : Nat) (s : State) : clampFlag o s = s ∨ clampFlag o s = outFlag 0 s := by
  unfold clampFlag
  split
  · exact .inl rfl
  · dsimp only
    split
    · exact .inr rfl
    · exact .inl rfl

theorem outFlag_sent_prefix (b) (s : State) : s.sent <+: (outFlag b s).sent := by
  unfold outFlag
  split
  · exact List.prefix_rfl
  · refine List.IsPrefix.trans ?_ (raise_sent_prefix _ _)
    exact List.prefix_rfl

@[simp] theorem outFlag_sys (b) (s : State) : (outFlag b s).sys = s.sys := by
  unfold outFlag
  split <;> simp

@[simp] theorem outFlag_binding (b) (s : State) : (outFlag b s).out.binding = s.out.binding := by
  unfold outFlag
  split <;> simp

theorem clampFlag_sent_prefix (o) (s : State) : s.sent <+: (clampFlag o s).sent := by
  rcases clampFlag_cases o s with e | e
  · rw [e]
  · rw [e]
    exact outFlag_sent_prefix 0 s

@[simp] theorem clampFlag_sys (o) (s : State) : (clampFlag o s).sys = s.sys := by
  rcases clampFlag_cases o s with e | e <;> simp [e]

@[simp] theorem clampFlag_binding (o) (s : State) : (clampFlag o s).out.binding = s.out.binding := by
  rcases clampFlag_cases o s with e | e <;> simp [e]

/-! ### The command -/

theorem exec_outBind (dt : Nat) (c : Cmd) (s : State) :
    exec (.outBind dt c) s = .next (runOp rowOutBind outBindBody c (s.elapse dt)) := rfl

theorem outBindBody_of_allowed (call : Call) (s : State) (len : call.payload.length = 4)
    (out : u16 call.payload 0 ≤ 111) (dir : gpioInput s (u16 call.payload 0) = false)
    (src : u16 call.payload 2 ≤ 0x3FF ∨ u16 call.payload 2 = 0xFFFF) :
    outBindBody call s =
      (clampFlag (u16 call.payload 0) (withSource (u16 call.payload 0) (u16 call.payload 2) s), .ok []) := by
  have allowed : ¬(111 < u16 call.payload 0 ∨ gpioInput s (u16 call.payload 0) = true ∨
      (1023 < u16 call.payload 2 ∧ u16 call.payload 2 ≠ 0xFFFF)) := by
    simp only [dir, Bool.false_eq_true, false_or]
    omega
  simp only [outBindBody, len, allowed, ne_eq, not_true_eq_false, if_false]
  rfl

theorem outBindBody_of_not_allowed (call : Call) (s : State) (len : call.payload.length = 4)
    (h : 111 < u16 call.payload 0 ∨ gpioInput s (u16 call.payload 0) = true ∨
      (0x3FF < u16 call.payload 2 ∧ u16 call.payload 2 ≠ 0xFFFF)) :
    outBindBody call s = (s, .refuse stOutOfRange) := by
  simp only [outBindBody, len, h, ne_eq, not_true_eq_false, if_false, if_true]
  rfl

/-- OUT_BIND accepted, on the state after its acceptance: what its body makes of an output and a source in range. -/
theorem outBind_binds {c : Cmd} {call : Call} {u : State} (acc : Accepted rowOutBind c u call)
    (len : call.payload.length = 4) (out : u16 call.payload 0 ≤ 111) (dir : gpioInput u (u16 call.payload 0) = false)
    (src : u16 call.payload 2 ≤ 0x3FF ∨ u16 call.payload 2 = 0xFFFF) :
    (∀ k, boundSlot (runOp rowOutBind outBindBody c u) k =
      boundSlot (withSource (u16 call.payload 0) (u16 call.payload 2) u) k) ∧
    Answered rowOutBind c call u (runOp rowOutBind outBindBody c u) stOk [] := by
  have ran := outBindBody_of_allowed call (enter call (touch c u)) len out
    ((gpioInput_congr (by simp) _).trans dir) src
  have noReset : (clampFlag (u16 call.payload 0) (withSource (u16 call.payload 0) (u16 call.payload 2)
      (enter call (touch c u)))).sys.resetWanted = none := by simp [acc.2]
  refine ⟨boundSlot_congr ?_, answered_of_ok acc ran (Nat.zero_le _) noReset ?_⟩
  · simp [runOp_of_ok acc ran (Nat.zero_le _) noReset, withSource]
  · refine List.IsPrefix.trans ?_ (clampFlag_sent_prefix _ _)
    simp

/-- OUT_BIND accepted with an output or a source out of range: the outputs' registers stay, and the
status is answered. -/
theorem outBind_refuses {c : Cmd} {call : Call} {u : State} (acc : Accepted rowOutBind c u call)
    (len : call.payload.length = 4)
    (h : 111 < u16 call.payload 0 ∨ gpioInput u (u16 call.payload 0) = true ∨
      (0x3FF < u16 call.payload 2 ∧ u16 call.payload 2 ≠ 0xFFFF)) :
    (runOp rowOutBind outBindBody c u).out = u.out ∧
    Failed rowOutBind c u (runOp rowOutBind outBindBody c u) stOutOfRange := by
  have dir : gpioInput (enter call (touch c u)) (u16 call.payload 0) = gpioInput u (u16 call.payload 0) :=
    gpioInput_congr (by simp) _
  have ran := outBindBody_of_not_allowed call (enter call (touch c u)) len (by rwa [dir])
  exact ⟨by simp [runOp_of_refuse acc ran], failed_of_refuse acc ran⟩

/-- Settles O58: the body's two answers, each carried through the acceptance of the command. -/
theorem outBindIsR296 : Obligations.OutBindIsR296 := by
  unfold Obligations.OutBindIsR296
  rintro s u dt o src c call rfl acc len rfl rfl
  refine ⟨fun out dir inRange => ⟨_, exec_outBind dt c s, ?_⟩,
    fun h => ⟨_, exec_outBind dt c s, outBind_refuses acc len h⟩⟩
  obtain ⟨bound, answered⟩ := outBind_binds acc len out dir inRange
  refine ⟨?_, fun k ne => ?_, answered⟩
  · rw [bound, boundSlot_withSource_same _ inRange]
  · rw [bound, boundSlot_withSource_ne _ _ ne]

end Sys2Proof.Proofs
end

section
/-! CFG_READ (R422): the copy a request names, and the command's body over that copy. -/

namespace Sys2Proof.Proofs

open Sys2Proof Sys2Proof.Machine Sys2Proof.Laws

/-! ### The copy named -/

/-- The copy that a selector names, 0 CFG_A, 1 CFG_B, 2 the copy in force, if there is one (R422). -/
def namedCopy (n : Nat) (s : State) : Option Memory := if n = 2 then copyInForce s else some (copyOf s (n + 1))

/-- The copy named is read from the configuration alone. -/
theorem namedCopy_congr {s t : State} (h : t.cfg = s.cfg) (n : Nat) : namedCopy n t = namedCopy n s := by
  simp only [namedCopy, copyInForce, copyOf, h]

theorem namedCopy_of_none_in_force {n : Nat} {s : State} (hn : n = 2) (a : s.cfg.inForce ≠ 1)
    (b : s.cfg.inForce ≠ 2) : namedCopy n s = none := by
  simp only [namedCopy, hn, if_true]
  unfold copyInForce
  split <;> trivial

theorem namedCopy_eq_copyA {n : Nat} {s : State} (h : n = 0 ∨ (n = 2 ∧ s.cfg.inForce = 1)) :
    namedCopy n s = some s.cfg.copyA := by
  rcases h with rfl | ⟨rfl, inForce⟩
  · simp [namedCopy, copyOf]
  · simp [namedCopy, copyInForce, inForce]

theorem namedCopy_eq_copyB {n : Nat} {s : State} (h : n = 1 ∨ (n = 2 ∧ s.cfg.inForce = 2)) :
    namedCopy n s = some s.cfg.copyB := by
  rcases h with rfl | ⟨rfl, inForce⟩
  · simp [namedCopy, copyOf]
  · simp [namedCopy, copyInForce, inForce]

/-! ### The body -/

/-- A request for bytes of a copy that passes every check on the request alone (R422). -/
structure CopyAsked (call : Call) : Prop where
  len : call.payload.length = 8
  selector : u8 call.payload 0 ≤ 2
  zero : u8 call.payload 1 = 0
  someBytes : 1 ≤ u16 call.payload 2
  bound : u16 call.payload 2 ≤ 16380
  room : 4 + u16 call.payload 2 ≤ call.cap

theorem cfgReadBody_of_bad_count {call : Call} (s : State) (len : call.payload.length = 8)
    (h : u16 call.payload 2 = 0 ∨ 16380 < u16 call.payload 2) :
    cfgReadBody call s = (s, .refuse stReadCount) := by
  simp only [cfgReadBody, len, h, ne_eq, not_true_eq_false, if_false, if_true]
  rfl

section
variable {call : Call} {s : State} {m : Memory} (asked : CopyAsked call)
include asked

/-- What is asked for is decided by the copy named: its absence, its MAGIC, its length. -/
theorem cfgReadBody_of_asked : cfgReadBody call s = match namedCopy (u8 call.payload 0) s with
    | none => (s, .refuse stNotFound)
    | some m =>
      if img32 m 0 ≠ 0x47465A56 then (s, .refuse stNotFound)
      else if 128 + img32 m 12 < u32 call.payload 4 + u16 call.payload 2 then (s, .refuse stOutOfRange)
      else (s, .ok (le32 (img32 m 8) ++ memLoad m (u32 call.payload 4) (u16 call.payload 2))) := by
  obtain ⟨len, selector, zero, someBytes, bound, room⟩ := asked
  have count : ¬(u16 call.payload 2 = 0 ∨ 16380 < u16 call.payload 2) := by omega
  have fits : ¬ call.cap < 4 + u16 call.payload 2 := by omega
  have known : ¬(2 < u8 call.payload 0 ∨ u8 call.payload 1 ≠ 0) := by omega
  simp only [cfgReadBody, len, count, fits, known, ne_eq, not_true_eq_false, if_false] <;> rfl

theorem cfgReadBody_of_no_copy (h : namedCopy (u8 call.payload 0) s = none) :
    cfgReadBody call s = (s, .refuse stNotFound) := by
  rw [cfgReadBody_of_asked asked, h]

theorem cfgReadBody_of_wrong_magic (h : namedCopy (u8 call.payload 0) s = some m) (magic : img32 m 0 ≠ 0x47465A56) :
    cfgReadBody call s = (s, .refuse stNotFound) := by
  simp only [cfgReadBody_of_asked asked, h, if_pos magic]

theorem cfgReadBody_past_end (h : namedCopy (u8 call.payload 0) s = some m) (magic : img32 m 0 = 0x47465A56)
    (past : 128 + img32 m 12 < u32 call.payload 4 + u16 call.payload 2) :
    cfgReadBody call s = (s, .refuse stOutOfRange) := by
  simp only [cfgReadBody_of_asked asked, h, if_neg (not_not.mpr magic), if_pos past]

theorem cfgReadBody_in_copy (h : namedCopy (u8 call.payload 0) s = some m) (magic : img32 m 0 = 0x47465A56)
    (within : u32 call.payload 4 + u16 call.payload 2 ≤ 128 + img32 m 12) :
    cfgReadBody call s =
      (s, .ok (le32 (img32 m 8) ++ memLoad m (u32 call.payload 4) (u16 call.payload 2))) := by
  simp only [cfgReadBody_of_asked asked, h, if_neg (not_not.mpr magic), if_neg (Nat.not_lt.mpr within)]

end

/-! ### An accepted command whose body leaves the state as it is: the configuration stays (R33) -/

@[simp] theorem written_cfg (call data) (s : State) : (written call data s).cfg = s.cfg := by
  unfold written
  split <;> rfl

section
variable {o : OpRow} {body : Body} {c : Cmd} {call : Call} {u : State}

theorem cfg_kept_of_refuse {st : Half} (acc : Accepted o c u call)
    (h : body call (enter call (touch c u)) = (enter call (touch c u), .refuse st)) :
    (runOp o body c u).cfg = u.cfg ∧ Failed o c u (runOp o body c u) st :=
  ⟨by simp [runOp_of_refuse acc h], failed_of_refuse acc h⟩

theorem cfg_kept_of_ok {data : Bytes} (acc : Accepted o c u call)
    (h : body call (enter call (touch c u)) = (enter call (touch c u), .ok data)) (room : data.length ≤ call.cap) :
    (runOp o body c u).cfg = u.cfg ∧ Answered o c call u (runOp o body c u) stOk data := by
  have noReset : (enter call (touch c u)).sys.resetWanted = none := by simp [acc.2]
  exact ⟨by simp [runOp_of_ok acc h room noReset], answered_of_ok acc h room noReset (by simp)⟩

end

/-! ### The command -/

theorem exec_cfgRead (dt : Nat) (c : Cmd) (s : State) :
    exec (.cfgRead dt c) s = .next (runOp rowCfgRead cfgReadBody c (s.elapse dt)) := rfl

theorem length_sequence_and_bytes (m : Memory) (seq off count : Nat) :
    (le32 seq ++ memLoad m off count).length = 4 + count := by
  simp [le32, memLoad]

/-- Settles O60: each answer of the body over the copy named, carried through the acceptance of the command. -/
theorem cfgReadIsR422 : Obligations.CfgReadIsR422 := by
  unfold Obligations.CfgReadIsR422
  rintro s u dt n count off c call m rfl acc len rfl selector zero rfl rfl
  have named : namedCopy (u8 call.payload 0) (enter call (touch c (s.elapse dt))) =
      namedCopy (u8 call.payload 0) (s.elapse dt) := namedCopy_congr (by simp) _
  refine ⟨fun bad => ⟨_, exec_cfgRead dt c s, cfg_kept_of_refuse acc (cfgReadBody_of_bad_count _ len bad)⟩,
    fun someBytes bound room => ?_⟩
  have asked : CopyAsked call := ⟨len, selector, zero, someBytes, bound, room⟩
  refine ⟨fun two notA notB => ⟨_, exec_cfgRead dt c s, cfg_kept_of_refuse acc
    (cfgReadBody_of_no_copy asked (named.trans (namedCopy_of_none_in_force two notA notB)))⟩, fun choice => ?_⟩
  have held : namedCopy (u8 call.payload 0) (enter call (touch c (s.elapse dt))) = some m := by
    rw [named]
    rcases choice with ⟨a, rfl⟩ | ⟨b, rfl⟩
    · exact namedCopy_eq_copyA a
    · exact namedCopy_eq_copyB b
  refine ⟨fun magic => ⟨_, exec_cfgRead dt c s, ?wrongMagic⟩, fun magic past => ⟨_, exec_cfgRead dt c s, ?pastEnd⟩,
    fun magic within => ⟨_, exec_cfgRead dt c s, ?inCopy⟩⟩
  case wrongMagic => exact cfg_kept_of_refuse acc (cfgReadBody_of_wrong_magic asked held magic)
  case pastEnd => exact cfg_kept_of_refuse acc (cfgReadBody_past_end asked held magic past)
  case inCopy =>
    exact cfg_kept_of_ok acc (cfgReadBody_in_copy asked held magic within)
      ((length_sequence_and_bytes m _ _ _).trans_le room)

end Sys2Proof.Proofs
end

section
/-! REC_INFO (R435): the counts and indices of the recorder's log, read from a state that the command leaves as it is. -/

namespace Sys2Proof.Proofs

open Sys2Proof Sys2Proof.Machine Sys2Proof.Laws

/-! ### The two indices -/

/-- Of an empty area the oldest index is the one that comes next; else it is the first record's. -/
theorem oldestIndex_eq {l : Log} {old : Nat} (empty : l.circulating = [] → old = l.next)
    (held : ∀ r rs, l.circulating = r :: rs → old = r.index) : oldestIndex l = old := by
  cases area : l.circulating with
  | nil => simp [oldestIndex, area, empty area]
  | cons r rs => simp [oldestIndex, area, held r rs area]

/-- Before the first record the newest index reads 0xFFFF_FFFF. -/
theorem newest_getD_eq {l : Log} {new : Nat} (never : l.newest = none → new = 0xFFFFFFFF)
    (written : ∀ n, l.newest = some n → new = n) : l.newest.getD 0xFFFFFFFF = new := by
  cases newest : l.newest with
  | none => exact (never newest).symm
  | some n => exact (written n newest).symm

/-! ### The body -/

/-- The payload of REC_INFO's response. -/
def recorderInfo (l : Log) : Bytes :=
  le32 l.permanent.length ++ le32 l.circulating.length ++ le32 (oldestIndex l) ++ le32 (l.newest.getD 0xFFFFFFFF)

theorem length_recorderInfo (l : Log) : (recorderInfo l).length = 16 := by simp [recorderInfo, le32]

theorem recInfoBody_of_room {call : Call} (s : State) (empty : call.payload = []) (room : 16 ≤ call.cap) :
    recInfoBody call s = (s, .ok (recorderInfo s.log)) := by
  have noPayload : call.payload.length = 0 := by rw [empty, List.length_nil]
  simp only [recInfoBody, noPayload, Nat.not_lt.mpr room, ne_eq, not_true_eq_false, if_false]
  rfl

/-! ### The command -/

@[simp] theorem written_log (call data) (s : State) : (written call data s).log = s.log := by
  unfold written
  split <;> rfl

theorem exec_recInfo (dt : Nat) (c : Cmd) (s : State) :
    exec (.recInfo dt c) s = .next (runOp rowRecInfo recInfoBody c (s.elapse dt)) := rfl

/-- REC_INFO accepted, on the state after its acceptance: the log stays, and what it holds is answered. -/
theorem recInfo_answers {c : Cmd} {call : Call} {u : State} (acc : Accepted rowRecInfo c u call)
    (empty : call.payload = []) (room : 16 ≤ call.cap) :
    (runOp rowRecInfo recInfoBody c u).log = u.log ∧
    Answered rowRecInfo c call u (runOp rowRecInfo recInfoBody c u) stOk (recorderInfo u.log) := by
  have sameLog : (enter call (touch c u)).log = u.log := by simp
  have ran : recInfoBody call (enter call (touch c u)) = (enter call (touch c u), .ok (recorderInfo u.log)) := by
    rw [recInfoBody_of_room _ empty room, sameLog]
  have fits : (recorderInfo u.log).length ≤ call.cap := (length_recorderInfo u.log).trans_le room
  have noReset : (enter call (touch c u)).sys.resetWanted = none := by simp [acc.2]
  exact ⟨by simp [runOp_of_ok acc ran fits noReset], answered_of_ok acc ran fits noReset (by simp)⟩

/-- Settles O59: the body's answer over the log, carried through the acceptance of the command, with each index by the
emptiness of what it is read from. -/
theorem recInfoIsR435 : Obligations.RecInfoIsR435 := by
  unfold Obligations.RecInfoIsR435
  rintro s u dt old new c call rfl acc empty room oldOfEmpty oldOfHeld newOfNone newOfSome
  obtain ⟨kept, answered⟩ := recInfo_answers acc empty room
  rw [recorderInfo, oldestIndex_eq oldOfEmpty oldOfHeld, newest_getD_eq newOfNone newOfSome] at answered
  exact ⟨_, exec_recInfo dt c s, kept, answered⟩

end Sys2Proof.Proofs
end
